-- ==== Sys2Proof/Word.lean ====
section
/-! DEFINITION. The words of the part: bytes, 24-bit samples (R1) and blocks of 32 samples (R5), and the pure data
shapes that several files share (one value per main output, one per context buffer). -/

namespace Sys2Proof

/-- A byte of a serial line (R210). -/
abbrev Byte := BitVec 8

/-- One audio sample: a signed 24-bit integer (R1). -/
abbrev Sample := BitVec 24

/-- The samples of one audio line in one frame (R5: 32 samples). -/
abbrev Block := Vector Sample 32

/-- One value for each of the four main outputs, in the order of R19: FOH-L, FOH-R, STAGE, MON. -/
structure PerMain (α : Type) where
  fohL : α
  fohR : α
  stage : α
  mon : α
deriving DecidableEq, Repr

/-- One value for each of the three context buffers 0, 1 and 2 (R91). -/
structure PerBuffer (α : Type) where
  b0 : α
  b1 : α
  b2 : α
deriving DecidableEq, Repr

/-- One value for each of the two pedal links. -/
structure PerLink (α : Type) where
  a : α
  b : α
deriving DecidableEq, Repr

end Sys2Proof
end

