-- ==== Sys2Proof/Config.lean ====
section
/-! DEFINITION. What is fixed for the part: its capacities (R206), and the free values, which the manual leaves open:
each is an opaque constant, so that nothing can be proved of its value but what its type states (log 10, 13, 14). -/

namespace Sys2Proof.Config

/-- Samples per frame (R5, R206). -/
def frameSamples : Nat := 32
/-- Notice queue capacity (R202). -/
def noticeQueueSize : Nat := 32
/-- Reply queue capacity (R200). -/
def replyQueueSize : Nat := 8
/-- Receive hold capacity (R200). -/
def receiveHoldSize : Nat := 2
/-- Switch queue capacity in SEQUENCE mode (R99). -/
def switchQueueSize : Nat := 4
/-- Switch history ring capacity (R118). -/
def historySize : Nat := 16
/-- Rate history length (R103). -/
def rateHistorySize : Nat := 8
/-- Satellite outbound queue capacity (R187). -/
def satQueueSize : Nat := 16
/-- Global map table capacity (R172). -/
def mapTableSize : Nat := 96
/-- Overlay capacity of a preset (R73). -/
def overlaySize : Nat := 16
/-- Scenes of a preset (R73). -/
def sceneCount : Nat := 8
/-- Slots of a context (R25). -/
def slotCount : Nat := 16
/-- Satellite messages of a preset (R73). -/
def satMessageCount : Nat := 8
/-- Curve table entries (R42). -/
def curveCount : Nat := 32
/-- Preset locations (R72). -/
def locationCount : Nat := 256
/-- Context budget in engine units (R28). -/
def contextBudget : Nat := 120
/-- Engine budget in engine units (R28). -/
def engineBudget : Nat := 240
/-- Display queue capacity of a pedal link (R166). -/
def displayQueueSize : Nat := 8
/-- Largest lane compensation in samples (R60). -/
def maxCompensation : Nat := 1024
/-- Length of a DELAY slot's line in samples (R37). -/
def delayLineSize : Nat := 96000
/-- Capture length of a loop measurement in samples (R65). -/
def captureSamples : Nat := 4096
/-- Detection threshold of a loop measurement (R68). -/
def captureThreshold : Nat := 83886
/-- Level of the measurement marker (R66). -/
def markerLevel : Int := 4194304
/-- Frames between two CLIP postings of one output (R8). -/
def clipInterval : Nat := 375
/-- Row magnitude below which a spill frame is quiet (R115). -/
def quietLevel : Nat := 264
/-- Quiet frames that end a spill (R115). -/
def quietFrames : Nat := 32
/-- Frames of silence that make a pedal link ABSENT (R156). -/
def silenceFrames : Nat := 2250
/-- Window of the tuner's estimator in samples (R140). -/
def tunerWindow : Nat := 2048
/-- Samples between two estimates after the first (R140). -/
def tunerHop : Nat := 1024
/-- Revision number of the part (R206). -/
def revision : Nat := 1

/-! ## The fixed designs of the slots (R32, R33, R36, R38, R41, log 13)

The manual gives no coefficients. A design is a free value; what a rule does state of it stands in the type of the value,
so that it holds whatever the value is. The default of a field only shows that such a design exists. -/

/-- R32: a band of a tone filter, with the corners of the rule's table in Hz. -/
inductive Band where
  | shelfBelow (hz : Nat)
  | peak (hz octaves : Nat)
  | shelfAbove (hz : Nat)
deriving DecidableEq, Repr

/-- R32: the point on the unit circle at which the gain of a band is the factor of its code: its centre at 48,000 samples a
second, or for a shelf the end of the band it covers, 0 Hz or 24 kHz (log 13). -/
noncomputable def Band.point : Band → ℂ
  | .shelfBelow _ => 1
  | .peak hz _ => Complex.exp (2 * Real.pi * hz / 48000 * Complex.I)
  | .shelfAbove _ => -1

/-- R32: the design of the bands: a band is a linear filter whose memory is `size` numbers, with coefficients that depend on
the band and on the factor of its code; `direct`, `output`, `input` and `feedback` are those of the input in the output, of the
memory in the output, of the input in the memory and of the memory in itself. Its gain at its point is that factor. -/
structure ToneDesign where
  size : Nat := 0
  direct : Band → Int → Rat := fun _ f => (f : Rat) / 1048576
  output : Band → Int → Nat → Rat := fun _ _ _ => 0
  input : Band → Int → Nat → Rat := fun _ _ _ => 0
  feedback : Band → Int → Nat → Nat → Rat := fun _ _ _ _ => 0
  gain : ∀ (b : Band) (f : Int), 0 ≤ f → ∃ m : Nat → ℂ,
    (∀ i, i < size → b.point * m i =
      (∑ j ∈ Finset.range size, (feedback b f i j : ℂ) * m j) + (input b f i : ℂ)) ∧
    ‖(∑ j ∈ Finset.range size, (output b f j : ℂ) * m j) + (direct b f : ℂ)‖ = (f : ℝ) / 1048576 := by
      intro b f hf
      refine ⟨fun _ => 0, by simp, ?_⟩
      simp
      exact_mod_cast hf
deriving Inhabited

/-- FREE VALUE (R32, log 13). The coefficients of the bands of the tone filters. -/
opaque tone : ToneDesign

/-- How an exact output of a linear filter becomes an integer: one of the two integers next to it, itself if it is one. -/
structure Rounding where
  round : Rat → Int := fun q => ⌊q⌋
  near : ∀ q, |(round q : Rat) - q| < 1 := by
    intro q
    have below := Int.floor_le q
    have above := Int.lt_floor_add_one q
    rw [abs_lt]
    constructor <;> linarith
deriving Inhabited

/-- FREE VALUE (R32, log 13). The rounding of a tone filter's output. -/
opaque toneRounding : Rounding

/-- R33: the cabinet types. -/
inductive CabinetType where
  | open112
  | closed112
  | open212
  | closed212
  | straight412
  | slanted412
  | four10
  | one15
deriving DecidableEq, Repr

/-- R33: what the rule gives of a cabinet response: its type and its corners in Hz. -/
structure CabinetResponse where
  type : CabinetType
  lower : Nat
  upper : Nat
deriving DecidableEq, Repr

/-- FREE VALUE (R33, log 13). One step of a cabinet response, given by its type and corners: from the response memory (0 when
cleared) and a sample, the memory and the output after it. -/
opaque cabinet : CabinetResponse → (memory : Nat) → (x : Int) → Nat × Int

/-- R36: the design of the modulators. `sweep` is where a modulation of a type and depth stands at a phase in 0..1 (a part of a
period), on a scale from 0 to 1,048,576 that depth 100 runs in full; `sound` is one step of a chorus or a phaser, which has its
sweep and a memory (0 when cleared). -/
structure ModDesign where
  sweep : (type depth : Nat) → (phase : Rat) → Int := fun _ _ phase => if phase = 0 then 0 else 1048576
  sound : (type depth : Nat) → (sweep : Int) → (memory : Nat) → (x : Int) → Nat × Int := fun _ _ _ m x => (m, x)
  bounded : ∀ type depth phase, 0 ≤ sweep type depth phase ∧ sweep type depth phase ≤ 1048576 := by
    intro _ _ phase
    by_cases h : phase = 0 <;> simp [h]
  full : ∀ type,
    (∃ phase : Rat, 0 ≤ phase ∧ phase < 1 ∧ sweep type 100 phase = 0) ∧
    (∃ phase : Rat, 0 ≤ phase ∧ phase < 1 ∧ sweep type 100 phase = 1048576) := by
    intro _
    exact ⟨⟨0, by norm_num, by norm_num, by simp⟩, ⟨1 / 2, by norm_num, by norm_num, by simp⟩⟩
deriving Inhabited

/-- FREE VALUE (R36, log 13). The modulators. -/
opaque modulator : ModDesign

/-- The n-fold repetition of a step. -/
def iterate {α : Type} (f : α → α) : Nat → α → α
  | 0, a => a
  | n + 1, a => iterate f n (f a)

/-- R38: the tail of a reverb that rings on from a memory while its input is silent, at the samples that follow. -/
def silentTail (step : (decay memory : Nat) → (x : Int) → Nat × Int) (decay memory n : Nat) : Int :=
  (step decay (iterate (fun m => (step decay m 0).1) n memory) 0).2

/-- R38: the design of the reverb: one step from a decay, the memory (0 when cleared) and an input sample to the memory and the
tail sample. `level` is the level of the tail from a memory on, its largest magnitude while the input stays silent; in the decay
time, decay / 10 seconds or 4,800 × decay samples of silence, it falls by 60 dB, to a thousandth in whole units of a sample. -/
structure ReverbDesign where
  step : (decay memory : Nat) → (x : Int) → Nat × Int := fun _ m _ => (m, 0)
  level : (decay memory : Nat) → Nat := fun _ _ => 0
  bounds : ∀ decay memory n, (silentTail step decay memory n).natAbs ≤ level decay memory := by
    intro _ _ _
    simp [silentTail]
  reached : ∀ decay memory, ∃ n, (silentTail step decay memory n).natAbs = level decay memory := by
    intro _ _
    exact ⟨0, by simp [silentTail]⟩
  falls : ∀ decay memory, 1 ≤ decay →
    level decay (iterate (fun m => (step decay m 0).1) (4800 * decay) memory) = level decay memory / 1000 := by
      intro _ _ _
      rfl
  cleared : ∀ decay, level decay 0 = 0 := by
    intro _
    rfl
deriving Inhabited

/-- FREE VALUE (R38, log 13). The reverb. -/
opaque reverb : ReverbDesign

/-! ### The pitch shifter (R41)

Its memory is a list of numbers, empty when cleared, whose encoding the manual does not give. Its input is the slot's input of
64 samples earlier, so that nothing it delivers comes sooner after its input. -/

/-- R41: how many times as fast as its input a copy transposed by an interval in semitones runs. -/
noncomputable def transposition (interval : Int) : ℝ := 2 ^ ((interval : ℝ) / 12)

/-- The memory that a step with a memory leaves after the first samples of a stream. -/
def memoryAfter (step : List Int → Int → List Int × Int) (memory : List Int) (d : Nat → Int) : Nat → List Int
  | 0 => memory
  | n + 1 => (step (memoryAfter step memory d n) (d n)).1

/-- R41: a step, from a memory that holds some past inputs, newest first, delivers a copy of its input transposed by a speed.
The copy is read at a place of the input, between two samples next to each other that have come, and the place moves on by the
speed at each sample, but where it springs to another stretch of the input, which it does at most once in 64 samples; again and
again it stands at the newest input (log 13). -/
def CopiesAt (speed : ℝ) (step : List Int → Int → List Int × Int) (past : List Int → Nat → Int) : Prop :=
  ∀ (memory : List Int) (d : Nat → Int),
    let heard (z : Int) : Int := if 0 ≤ z then d z.toNat else past memory (-1 - z).toNat
    ∃ (place : Nat → ℝ) (splice : Nat → Prop),
      (∀ n, splice (n + 1) ∨ place (n + 1) = place n + speed) ∧
      (∀ a b, splice a → splice b → a < b → a + 64 ≤ b) ∧
      (∀ n : Nat, place n ≤ n ∧ ∃ k : Nat, n ≤ k ∧ (k : ℝ) - 1 < place k) ∧
      ∀ n : Nat, ∃ z : Int, z < n ∧ (z : ℝ) ≤ place n ∧ place n ≤ z + 1 ∧
        min (heard z) (heard (z + 1)) ≤ (step (memoryAfter step memory d n) (d n)).2 ∧
        (step (memoryAfter step memory d n) (d n)).2 ≤ max (heard z) (heard (z + 1))

/-- The whole samples that a transposed copy runs through in some samples, for an interval of at most 24 semitones. -/
def wholeRun (interval : Int) (j : Nat) : Nat :=
  Nat.findGreatest (fun q => (4 * q) ^ 12 ≤ 2 ^ (interval + 24).toNat * j ^ 12) (4 * j)

theorem transposition_pow {interval : Int} (low : -24 ≤ interval) :
    (4 * transposition interval) ^ 12 = 2 ^ (interval + 24).toNat := by
  have four : (4 : ℝ) = 2 ^ (2 : ℝ) := by norm_num
  have cast : ((interval + 24).toNat : ℝ) = (interval : ℝ) + 24 := by
    have : ((interval + 24).toNat : Int) = interval + 24 := Int.toNat_of_nonneg (by omega)
    exact_mod_cast this
  rw [transposition, four, ← Real.rpow_add (by norm_num), ← Real.rpow_natCast, ← Real.rpow_mul (by norm_num),
    ← Real.rpow_natCast, cast]
  congr 1
  push_cast
  ring

theorem transposition_pos (interval : Int) : 0 < transposition interval := Real.rpow_pos_of_pos (by norm_num) _

theorem transposition_le {interval : Int} (high : interval ≤ 24) : transposition interval ≤ 4 := by
  have four : (4 : ℝ) = 2 ^ (2 : ℝ) := by norm_num
  rw [transposition, four]
  apply Real.rpow_le_rpow_of_exponent_le (by norm_num)
  have : (interval : ℝ) ≤ 24 := by exact_mod_cast high
  linarith

theorem wholeRun_spec {interval : Int} (low : -24 ≤ interval) (high : interval ≤ 24) (j : Nat) :
    (wholeRun interval j : ℝ) ≤ transposition interval * j ∧ transposition interval * j < wholeRun interval j + 1 := by
  have pos := transposition_pos interval
  have key (q : Nat) : (4 * q) ^ 12 ≤ 2 ^ (interval + 24).toNat * j ^ 12 ↔ (q : ℝ) ≤ transposition interval * j := by
    have cast : ((4 * q) ^ 12 ≤ 2 ^ (interval + 24).toNat * j ^ 12) ↔
        ((4 * (q : ℝ)) ^ 12 ≤ 2 ^ (interval + 24).toNat * (j : ℝ) ^ 12) := by exact_mod_cast Iff.rfl
    rw [cast, ← transposition_pow low, ← mul_pow,
      pow_le_pow_iff_left₀ (by positivity) (by positivity) (by norm_num)]
    constructor <;> intro h <;> nlinarith
  constructor
  · rw [← key]
    exact Nat.findGreatest_spec (P := fun q => (4 * q) ^ 12 ≤ 2 ^ (interval + 24).toNat * j ^ 12) (Nat.zero_le _)
      (by simp)
  · by_contra h
    have most := (key (wholeRun interval j + 1)).mpr (by push_cast; linarith)
    have bound : wholeRun interval j + 1 ≤ 4 * j := by
      have : ((wholeRun interval j + 1 : Nat) : ℝ) ≤ ((4 * j : Nat) : ℝ) := by
        push_cast
        have := transposition_le high
        have : transposition interval * j ≤ 4 * j := mul_le_mul_of_nonneg_right this (by positivity)
        linarith
      exact_mod_cast this
    have := Nat.le_findGreatest (P := fun q => (4 * q) ^ 12 ≤ 2 ^ (interval + 24).toNat * j ^ 12) bound most
    exact absurd this (by unfold wholeRun; omega)

/-- A shifter that reads its input in stretches of 64 samples, at the speed of the copy; it only shows that a shifter as R41
describes it exists. -/
def stretchStep (interval : Int) (memory : List Int) (x : Int) : List Int × Int :=
  let i := memory.length % 64
  let lag := if 0 < interval then wholeRun interval (63 - i) - (63 - i) else i - wholeRun interval i
  (x :: memory, (x :: memory).getD lag 0)

theorem stretchStep_memory (interval : Int) (memory : List Int) (d : Nat → Int) (n : Nat) :
    (memoryAfter (stretchStep interval) memory d n).length = memory.length + n ∧
    ∀ z : Int, z < n → (memoryAfter (stretchStep interval) memory d n).getD (n - 1 - z).toNat 0 =
      if 0 ≤ z then d z.toNat else memory.getD (-1 - z).toNat 0 := by
  induction n with
  | zero =>
    refine ⟨rfl, fun z hz => ?_⟩
    rw [if_neg (by push_cast at hz; omega)]
    simp [memoryAfter]
  | succ n ih =>
    obtain ⟨len, get⟩ := ih
    simp only [memoryAfter, stretchStep] at *
    refine ⟨by simp [len]; omega, fun z hz => ?_⟩
    by_cases h : z = n
    · subst h
      simp
    · have e : ((n + 1 : Nat) - 1 - z : Int).toNat = ((n : Int) - 1 - z).toNat + 1 := by push_cast at *; omega
      rw [e, List.getD_cons_succ]
      exact get z (by push_cast at *; omega)

theorem stretchStep_copies {interval : Int} (low : -24 ≤ interval) (high : interval ≤ 24) (shifts : interval ≠ 0) :
    CopiesAt (transposition interval) (stretchStep interval) (fun memory j => memory.getD j 0) := by
  intro memory d heard
  have out (n lag : Nat) : (d n :: memoryAfter (stretchStep interval) memory d n).getD lag 0 = heard ((n : Int) - lag) := by
    have := (stretchStep_memory interval memory d (n + 1)).2 ((n : Int) - lag) (by push_cast; omega)
    have e : ((n + 1 : Nat) - 1 - ((n : Int) - lag) : Int).toNat = lag := by push_cast; omega
    rw [e] at this
    exact this
  have pos := transposition_pos interval
  let at' (n : Nat) : Nat := (memory.length + n) % 64
  have length (n : Nat) : (memoryAfter (stretchStep interval) memory d n).length % 64 = at' n := by
    rw [(stretchStep_memory interval memory d n).1]
  have small (n : Nat) : at' n < 64 := Nat.mod_lt _ (by norm_num)
  have splices (a b : Nat) (ha : at' a = 0) (hb : at' b = 0) (h : a < b) : a + 64 ≤ b := by
    simp only [at'] at ha hb
    omega
  have next (n : Nat) (h : at' (n + 1) ≠ 0) : at' (n + 1) = at' n + 1 := by
    simp only [at'] at h ⊢
    omega
  have reach (n i : Nat) (h : i < 64) : ∃ k, n ≤ k ∧ at' k = i :=
    ⟨n + (i + 64 - at' n), by omega, by have := small n; simp only [at'] at this ⊢; omega⟩
  by_cases up : 0 < interval
  · have fast : 1 ≤ transposition interval := by
      rw [transposition]
      apply Real.one_le_rpow (by norm_num)
      have : (0 : ℝ) < interval := by exact_mod_cast up
      positivity
    refine ⟨fun n => n + ((63 - at' n : Nat) : ℝ) - transposition interval * ((63 - at' n : Nat) : ℝ), fun n => at' n = 0,
      fun n => ?_, splices, fun n => ⟨?_, ?_⟩, fun n => ?_⟩
    · by_cases h : at' (n + 1) = 0
      · exact .inl h
      · right
        have e : 63 - at' n = (63 - at' (n + 1)) + 1 := by have := next n h; have := small (n + 1); omega
        dsimp only
        rw [e]
        push_cast
        ring
    · have : (0 : ℝ) ≤ ((63 - at' n : Nat) : ℝ) := by positivity
      nlinarith
    · obtain ⟨k, hk, e⟩ := reach n 63 (by norm_num)
      exact ⟨k, hk, by simp [e]⟩
    · obtain ⟨below, above⟩ := wholeRun_spec low high (63 - at' n)
      have least : 63 - at' n ≤ wholeRun interval (63 - at' n) := by
        have h : ((63 - at' n : Nat) : ℝ) < ((wholeRun interval (63 - at' n) + 1 : Nat) : ℝ) := by
          push_cast
          have : (0 : ℝ) ≤ ((63 - at' n : Nat) : ℝ) := by positivity
          nlinarith
        have : 63 - at' n < wholeRun interval (63 - at' n) + 1 := by exact_mod_cast h
        omega
      refine ⟨(n : Int) - ((wholeRun interval (63 - at' n) - (63 - at' n) : Nat) : Int) - 1, by omega, ?_, ?_, ?_⟩
      · push_cast [Nat.cast_sub least]
        linarith
      · push_cast [Nat.cast_sub least]
        linarith
      · have value : (stretchStep interval (memoryAfter (stretchStep interval) memory d n) (d n)).2 =
            heard ((n : Int) - ((wholeRun interval (63 - at' n) - (63 - at' n) : Nat) : Int)) := by
          rw [← out]
          simp only [stretchStep, if_pos up, length]
        rw [value, sub_add_cancel]
        exact ⟨min_le_right _ _, le_max_right _ _⟩
  · have slow : transposition interval < 1 := by
      rw [transposition]
      apply Real.rpow_lt_one_of_one_lt_of_neg (by norm_num)
      have : (interval : ℝ) < 0 := by exact_mod_cast (by omega : interval < 0)
      linarith
    refine ⟨fun n => n - (at' n : ℝ) + transposition interval * (at' n : ℝ), fun n => at' n = 0,
      fun n => ?_, splices, fun n => ⟨?_, ?_⟩, fun n => ?_⟩
    · by_cases h : at' (n + 1) = 0
      · exact .inl h
      · right
        dsimp only
        rw [next n h]
        push_cast
        ring
    · have : (0 : ℝ) ≤ (at' n : ℝ) := by positivity
      nlinarith
    · obtain ⟨k, hk, e⟩ := reach n 0 (by norm_num)
      exact ⟨k, hk, by simp [e]⟩
    · obtain ⟨below, above⟩ := wholeRun_spec low high (at' n)
      have value : (stretchStep interval (memoryAfter (stretchStep interval) memory d n) (d n)).2 =
          heard ((n : Int) - ((at' n - wholeRun interval (at' n) : Nat) : Int)) := by
        rw [← out]
        simp only [stretchStep, if_neg up, length]
      rw [value]
      by_cases start : at' n = 0
      · refine ⟨(n : Int) - 1, by omega, ?_, ?_, ?_⟩
        · simp [start]
        · simp [start]
        · simp [start]
      · have most : wholeRun interval (at' n) < at' n := by
          have h : (0 : ℝ) < (at' n : ℝ) := by exact_mod_cast Nat.pos_of_ne_zero start
          have : (wholeRun interval (at' n) : ℝ) < (at' n : ℝ) := by nlinarith
          exact_mod_cast this
        refine ⟨(n : Int) - ((at' n - wholeRun interval (at' n) : Nat) : Int), by omega, ?_, ?_,
          min_le_left _ _, le_max_left _ _⟩
        · push_cast [Nat.cast_sub most.le]
          linarith
        · push_cast [Nat.cast_sub most.le]
          linarith

/-- R41: the design of the pitch shifter: one step from an interval, the memory and a sample to the memory and a sample of the
shifted copy. `past` is what a memory holds of the inputs taken, newest first, and silence before a load. -/
structure ShifterDesign where
  step : (interval : Int) → (memory : List Int) → (x : Int) → List Int × Int := stretchStep
  past : (memory : List Int) → Nat → Int := fun memory j => memory.getD j 0
  newest : ∀ interval memory x, past (step interval memory x).1 0 = x := by intro _ _ _; rfl
  older : ∀ interval memory x j, past (step interval memory x).1 (j + 1) = past memory j := by intro _ _ _ _; rfl
  cleared : ∀ j, past [] j = 0 := by intro _; rfl
  copies : ∀ interval, -24 ≤ interval → interval ≤ 24 → interval ≠ 0 →
    CopiesAt (transposition interval) (step interval) past := by
      intro _ low high shifts
      exact stretchStep_copies low high shifts
deriving Inhabited

/-- FREE VALUE (R41, log 13). The pitch shifter. -/
opaque shifter : ShifterDesign

/-- FREE VALUE (R140, log 14). The frequency in millihertz and the confidence the estimator finds in a window. -/
opaque estimator : (window : List Int) → Nat × Nat

/-- FREE VALUE (R158, R212, log 36). How a SWITCH frame whose level byte is neither 1 nor 0 is read: as down, as up, or
(`none`) as a valid frame that is rejected. -/
opaque oddLevel : Byte → Option Bool

/-- FREE VALUE (R211, log 10). How a presence byte other than 0 and 1 is read: as present, as absent, or (`none`) as
no length the encoding allows. -/
opaque oddPresence : Byte → Option Bool

end Sys2Proof.Config
end

