-- ==== Sys2Proof/Syntax.lean ====
section
/-! DEFINITION. The commands of the part, WHOLE: one constructor of `Instr` for each row of spec/opcode_table.json,
with the row's operands. A host request's operands are the numbers its frame carries (R211), enumerated fields as
the codes they travel as, so that a value outside the list is a command the part refuses by its rule. -/

namespace Sys2Proof

/-- The two pedal links (R153). -/
inductive Link where
  | a
  | b
deriving DecidableEq, Repr

/-- The two instrument inputs (R57). -/
inductive Input where
  | a
  | b
deriving DecidableEq, Repr

/-- The input block of every audio input for one frame (R5). -/
structure FrameInput where
  inA : Block
  inB : Block
  ret1 : Block
  ret2 : Block
  aux : Block
deriving DecidableEq, Repr

/-- A map key as a request carries it (R172): link and gesture codes unchecked. -/
structure RawKey where
  link : Nat
  sourceKind : Nat
  number : Nat
  gesture : Nat
  partner : Nat
deriving DecidableEq, Repr

/-- A map target as a request carries it (R173): fields unchecked. -/
inductive RawTarget where
  | preset (location force : Nat)
  | presetStep (direction : Int)
  | scene (scene : Nat)
  | sceneStep (direction : Int)
  | slotToggle (position : Nat)
  | slotSet (position enabled : Nat)
  | param (position index : Nat) (min max : Int)
  | guitar (choice : Nat)
  | tuner (action : Nat)
  | tap
  | satMessage (address : Nat) (payload : List Byte)
  | hostNotice (value : Nat)
  | panic
deriving DecidableEq, Repr

/-- 'Either a key or an index' (R183, R184). -/
inductive EntrySelector where
  | key (key : RawKey)
  | index (index : Nat)
deriving DecidableEq, Repr

/-- The codes of one output-matrix row (R56). -/
structure MatrixRow where
  main : Nat
  dry : Nat
  aux : Nat
deriving DecidableEq, Repr

/-- The header fields of PRESET_BEGIN (R73, R76), unchecked. -/
structure HeaderFields where
  name : List Byte
  inputMode : Nat
  inputLevel : Nat
  nPre : Nat
  nX : Nat
  nY : Nat
  nPost : Nat
  gX : Nat
  gY : Nat
  outputMatrix : PerMain MatrixRow
  frames : Nat
  policy : Nat
  spillLimit : Nat
  quantize : Nat
  tempo : Option Nat
  defaultScene : Nat
deriving DecidableEq, Repr

/-- A slot record as PRESET_SLOT carries it (R77), unchecked. -/
structure SlotFields where
  kind : Nat
  enabled : Nat
  values : List Int
deriving DecidableEq, Repr

/-- One override entry of a scene (R87). -/
structure Override where
  position : Nat
  index : Nat
  value : Int
deriving DecidableEq, Repr

/-- A scene record as PRESET_SCENE carries it (R78), enables unchecked. -/
structure SceneFields where
  name : List Byte
  enables : List Nat
  overrides : List Override
deriving DecidableEq, Repr

/-- The entry write of SAT_ADDR (R188). -/
structure AddressWrite where
  logical : Nat
  physical : Option Nat
  acknowledge : Nat
deriving DecidableEq, Repr

/-- A host request with its fields (R210: the 47 request kinds). -/
inductive Request where
  | mute (source outputs : Nat)
  | unmute (source outputs : Nat)
  | meters (clear : Nat)
  | curveWrite (index : Nat) (name : List Byte) (points : List (Int × Int))
  | curveRead (index : Nat)
  | curveErase (index : Nat)
  | paramSet (position index : Nat) (value : Int)
  | slotSet (position enabled : Nat)
  | inputSelect (input : Nat)
  | loopMeasure (loop : Nat)
  | loopSet (loop : Nat) (latency : Option Nat)
  | loopRead (loop : Nat)
  | presetBegin (location : Nat) (header : HeaderFields)
  | presetSlot (slot : SlotFields) (position : Option Nat)
  | presetScene (scene : SceneFields) (number : Option Nat)
  | presetMap (key : RawKey) (targets : List RawTarget)
  | presetSatmsg (address : Nat) (payload : List Byte)
  | presetEnd
  | presetRead (location part : Nat)
  | presetErase (location : Nat)
  | presetCopy (source destination : Nat)
  | switch (preset scene : Option Nat) (force : Nat)
  | scene (scene : Nat)
  | hold (value : Nat)
  | switchSetup (mode w1 k w2 tunerHold satHold : Nat)
  | panic
  | history (first : Nat)
  | tempoSet (tempo : Nat)
  | tap
  | tempoLock (value : Nat)
  | tuner (action : Nat)
  | tunerProfile (profile : Nat) (transpose : Option Int) (offsets : List (Option Int))
  | tunerSetup (aref : Nat) (policies : PerMain Nat)
  | gestureTiming (link : Nat) (combo holdTime double : Option Nat)
  | pedalStatus (link first clear : Nat)
  | mapWrite (key : RawKey) (targets : List RawTarget)
  | mapErase (entry : EntrySelector)
  | mapRead (table : Nat) (entry : EntrySelector)
  | permit (link : Nat) (mask : Option Nat)
  | satAddr (write : Option AddressWrite) (timeout : Option Nat)
  | satSend (physical acknowledge : Nat) (payload : List Byte)
  | satBypass (value : Nat) (timeout : Option Nat)
  | satStatus (clear : Nat)
  | ident
  | status (part : Nat)
  | reset
  | noticeRoute (kind : Nat) (destinations : Option Nat)
deriving DecidableEq, Repr

/-- Why a pedal-line frame is discarded (R154): framing (length byte or checksum), a right checksum with an unknown
kind or a wrong length, or a valid SWITCH or EXPR frame on a link that is not PRESENT. -/
inductive PedalFault where
  | framing
  | unknownForm
  | noPresence
deriving DecidableEq, Repr

/-- The commands of the part: one constructor per row of spec/opcode_table.json. The first 47 are host requests, each
the arrival of the valid control-line frame that carries it under `tag` (log 8); the rest are events. -/
inductive Instr where
  | mute (tag : Byte) (source outputs : Nat)
  | unmute (tag : Byte) (source outputs : Nat)
  | meters (tag : Byte) (clear : Nat)
  | curveWrite (tag : Byte) (index : Nat) (name : List Byte) (points : List (Int × Int))
  | curveRead (tag : Byte) (index : Nat)
  | curveErase (tag : Byte) (index : Nat)
  | paramSet (tag : Byte) (position index : Nat) (value : Int)
  | slotSet (tag : Byte) (position enabled : Nat)
  | inputSelect (tag : Byte) (input : Nat)
  | loopMeasure (tag : Byte) (loop : Nat)
  | loopSet (tag : Byte) (loop : Nat) (latency : Option Nat)
  | loopRead (tag : Byte) (loop : Nat)
  | presetBegin (tag : Byte) (location : Nat) (header : HeaderFields)
  | presetSlot (tag : Byte) (slot : SlotFields) (position : Option Nat)
  | presetScene (tag : Byte) (scene : SceneFields) (number : Option Nat)
  | presetMap (tag : Byte) (key : RawKey) (targets : List RawTarget)
  | presetSatmsg (tag : Byte) (address : Nat) (payload : List Byte)
  | presetEnd (tag : Byte)
  | presetRead (tag : Byte) (location part : Nat)
  | presetErase (tag : Byte) (location : Nat)
  | presetCopy (tag : Byte) (source destination : Nat)
  | switch (tag : Byte) (preset scene : Option Nat) (force : Nat)
  | scene (tag : Byte) (number : Nat)
  | hold (tag : Byte) (value : Nat)
  | switchSetup (tag : Byte) (mode w1 k w2 tunerHold satHold : Nat)
  | panic (tag : Byte)
  | history (tag : Byte) (first : Nat)
  | tempoSet (tag : Byte) (tempo : Nat)
  | tap (tag : Byte)
  | tempoLock (tag : Byte) (value : Nat)
  | tuner (tag : Byte) (action : Nat)
  | tunerProfile (tag : Byte) (profile : Nat) (transpose : Option Int) (offsets : List (Option Int))
  | tunerSetup (tag : Byte) (aref : Nat) (policies : PerMain Nat)
  | gestureTiming (tag : Byte) (link : Nat) (combo holdTime double : Option Nat)
  | pedalStatus (tag : Byte) (link first clear : Nat)
  | mapWrite (tag : Byte) (key : RawKey) (targets : List RawTarget)
  | mapErase (tag : Byte) (entry : EntrySelector)
  | mapRead (tag : Byte) (table : Nat) (entry : EntrySelector)
  | permit (tag : Byte) (link : Nat) (mask : Option Nat)
  | satAddr (tag : Byte) (write : Option AddressWrite) (timeout : Option Nat)
  | satSend (tag : Byte) (physical acknowledge : Nat) (payload : List Byte)
  | satBypass (tag : Byte) (value : Nat) (timeout : Option Nat)
  | satStatus (tag : Byte) (clear : Nat)
  | ident (tag : Byte)
  | status (tag : Byte) (part : Nat)
  | reset (tag : Byte)
  | noticeRoute (tag : Byte) (kind : Nat) (destinations : Option Nat)
  | controlFrameReceived (bytes : List Byte)
  | controlBadFrame
  | controlByteGapTimeout
  | controlTxStart
  | controlTxEnd
  | softReset
  | powerOnReset
  | initComplete
  | frame (input : FrameInput)
  | measureComplete
  | beatEvent
  | rateWindowExpiry
  | loadComplete
  | cutComplete
  | crossfadeComplete
  | spillQuietEnd
  | spillLimitReached
  | tunerEstimate (frequency confidence : Nat)
  | pedalIdent (link : Link) (switches pedals lines : Byte)
  | switchDown (link : Link) (number : Byte)
  | switchRelease (link : Link) (number : Byte)
  | pedalExpr (link : Link) (pedal : Byte) (position : BitVec 16)
  | pedalBadFrame (link : Link) (cause : PedalFault)
  | pedalByteGapTimeout (link : Link)
  | pedalSilenceTimeout (link : Link)
  | comboWindowExpiry (link : Link) (number : Nat)
  | holdTimerExpiry (link : Link) (number : Nat)
  | doubleWindowExpiry (link : Link) (number : Nat)
  | displayTxStart (link : Link)
  | displayTxEnd (link : Link)
  | satTxStart
  | satTxEnd
  | satAckTimeout
  | satAck (address : Byte)
  | satData (address : Byte) (payload : List Byte)
  | satBadFrame
  | satByteGapTimeout
  | satBypassTimeout
  | resetPinRelease
deriving DecidableEq, Repr

end Sys2Proof
end

