-- ==== Sys2Proof/Decode.lean ====
section
/-! DEFINITION. Words of the opcode table. Every row of spec/opcode_table.json gives no bits ("fields": []): the commands
of this block are frames and events, not encoded words. What a control-line frame's bytes spell is read by
`Sys2Proof.Machine.parseFrame` (R199, R210, R211). -/

namespace Sys2Proof

/-- The command a word spells by the table's bits: none, for no row has any. -/
def decodeTableWord (_nbits _w : Nat) : Option Instr := none

end Sys2Proof
end

