-- ==== Sys2Proof/Machine/State.lean ====
section
/-! DEFINITION. The state of the part as plain data: every piece of state the spec gives it (INVENTORY.md, '## State'),
the queue of commands that are waiting, and `State.reset`, the part as initialisation leaves it (R209, log 5). -/

namespace Sys2Proof.Machine

/-! ## Levels, ramps and the output stage (chapter 1) -/

/-- A moving gain (R9): the code of the current frame and the factor it had on the last sample of that frame. -/
structure Gain where
  code : Nat
  prev : Int
deriving DecidableEq, Repr

/-- A gain moved by four-frame code ramps (R10): current code, last factor, the code `start` before the ramp, the
target, and the frames of the ramp already run (4 when at rest). -/
structure Ramp where
  code : Nat
  prev : Int
  start : Nat
  target : Nat
  done : Nat
deriving DecidableEq, Repr

/-- The four main outputs (R19). -/
inductive MainOut where
  | fohL
  | fohR
  | stage
  | mon
deriving DecidableEq, Repr

/-- The six outputs (R7). -/
inductive Out where
  | main (o : MainOut)
  | send1
  | send2
deriving DecidableEq, Repr

/-- One value for each of the six outputs. -/
structure PerOut (α : Type) where
  mains : PerMain α
  send1 : α
  send2 : α
deriving DecidableEq, Repr

/-- The mute sources (R19). -/
inductive MuteSource where
  | start
  | panic
  | tuner
  | host
deriving DecidableEq, Repr

/-- A mute set (R19). -/
structure MuteSet where
  start : Bool
  panic : Bool
  tuner : Bool
  host : Bool
deriving DecidableEq, Repr

/-- The mute stage of one main output (R19, R20): `gain` has the code of the frame last begun, `stored` is the stored
mute code, which takes a rise as a frame begins and a fall as it ends. -/
structure MuteStage where
  sources : MuteSet
  gain : Gain
  stored : Nat
deriving DecidableEq, Repr

/-- What is kept for each of the six outputs: the clip counter (R7), the clip-pending mark and the frames since the
last CLIP posting (R8), the peak (R23), the samples the output pin carried in the last frame computed, and the clips and
the peak of a frame that has not ended (R24), which the counters take in as it ends. -/
structure Meter where
  clips : Nat
  clipMark : Bool
  clipAge : Nat
  peak : Nat
  carried : List Int
  freshClips : Nat
  freshPeak : Nat
deriving DecidableEq, Repr

/-! ## Slots and curves (chapter 2) -/

/-- The ten slot kinds, in the order of R25. -/
inductive SlotKind where
  | amp
  | drive
  | gate
  | tone
  | modulation
  | delay
  | reverb
  | loop
  | volume
  | pitch
deriving DecidableEq, Repr

/-- A slot record of a stored preset (R25, R73). -/
structure SlotRecord where
  kind : SlotKind
  enabled : Bool
  values : List Int
deriving DecidableEq, Repr

/-- A slot parameter in a context (R14): the value held (for a level-coded parameter, its target) and the ramp of a
level-coded parameter. -/
structure Param where
  value : Int
  ramp : Ramp
deriving DecidableEq, Repr

/-- R32: the filter state of a tone filter: the memory of each band, with no entry standing for 0 (log 13). -/
structure ToneMemory where
  low : List Rat
  mid : List Rat
  high : List Rat
deriving DecidableEq, Repr

/-- The processing memories of a slot (R29). The memories of the cabinet, of a chorus or phaser and of the reverb are
numbers and that of the shifter a list of numbers, whose encoding the manual does not give, 0 or empty when cleared (log 13); `modPhase` is the modulation phase
(R36), a part of a period. -/
structure SlotMemory where
  tone : ToneMemory
  cabinet : Nat
  modulator : Nat
  modPhase : Rat
  reverb : Nat
  shifter : List Int
  delayLine : List Int
  gateOpen : Bool
  gateQuiet : Nat
  gate : Ramp
deriving DecidableEq, Repr

/-- A slot of a context (R25): record and runtime state; `freshClips` are those of a frame that has not ended (R24). -/
structure Slot where
  kind : SlotKind
  enabled : Bool
  params : List Param
  wet : Ramp
  dry : Ramp
  clips : Nat
  freshClips : Nat
  latency : Nat
  line : List Int
  memory : SlotMemory
deriving DecidableEq, Repr

/-- An entry of the curve table (R42); the entry is empty when its point list is. -/
structure CurveEntry where
  name : List Byte
  points : List (Int × Int)
  refs : Nat
deriving DecidableEq, Repr

/-! ## Map entries (chapter 9) -/

/-- The source of a map key (R172). -/
inductive KeySource where
  | switch (number : Nat)
  | expr (number : Nat)
deriving DecidableEq, Repr

/-- The gesture of a map key (R172). -/
inductive Gesture where
  | press
  | release
  | hold
  | double
  | combo (partner : Nat)
  | move
deriving DecidableEq, Repr

/-- A map key (R172). -/
structure MapKey where
  link : Link
  source : KeySource
  gesture : Gesture
deriving DecidableEq, Repr

/-- The direction of a step target (R173). -/
inductive Direction where
  | up
  | down
deriving DecidableEq, Repr

/-- The choice of a GUITAR target (R57). -/
inductive GuitarChoice where
  | select (input : Input)
  | toggle
deriving DecidableEq, Repr

/-- The action of a TUNER target (R136). -/
inductive TunerAction where
  | toggle
  | on
  | off
deriving DecidableEq, Repr

/-- A map target of good form (R173). -/
inductive Target where
  | preset (location : Nat) (force : Bool)
  | presetStep (direction : Direction)
  | scene (scene : Nat)
  | sceneStep (direction : Direction)
  | slotToggle (position : Nat)
  | slotSet (position : Nat) (enabled : Bool)
  | param (position index : Nat) (min max : Int)
  | guitar (choice : GuitarChoice)
  | tuner (action : TunerAction)
  | tap
  | satMessage (address : Nat) (payload : List Byte)
  | hostNotice (value : Nat)
  | panic
deriving DecidableEq, Repr

/-- The eight permission classes, in the order of R173. -/
inductive PermClass where
  | switching
  | slot
  | guitar
  | tuner
  | tempo
  | satellite
  | host
  | panic
deriving DecidableEq, Repr

/-- A map entry (R172). -/
structure MapEntry where
  key : MapKey
  targets : List Target
deriving DecidableEq, Repr

/-! ## Presets (chapter 4) -/

/-- Input mode of a preset (R52). -/
inductive InputMode where
  | a
  | b
  | follow
deriving DecidableEq, Repr

/-- Spill policy (R73). -/
inductive SpillPolicy where
  | spill
  | cut
deriving DecidableEq, Repr

/-- Quantize field (R73). -/
inductive Quantize where
  | off
  | beat
  | bar
deriving DecidableEq, Repr

/-- The header fields of a preset (R73). -/
structure Header where
  name : List Byte
  inputMode : InputMode
  inputLevel : Nat
  nPre : Nat
  nX : Nat
  nY : Nat
  nPost : Nat
  gX : Nat
  gY : Nat
  outputMatrix : PerMain MatrixRow
  frames : Nat
  policy : SpillPolicy
  spillLimit : Nat
  quantize : Quantize
  tempo : Option Nat
  defaultScene : Nat
deriving DecidableEq, Repr

/-- A scene record (R87). -/
structure SceneRecord where
  name : List Byte
  enables : List Bool
  overrides : List Override
deriving DecidableEq, Repr

/-- A logical satellite message (R73, R189). -/
structure SatMessage where
  address : Nat
  payload : List Byte
deriving DecidableEq, Repr

/-- A preset record (R73). -/
structure Preset where
  header : Header
  slots : List SlotRecord
  scenes : List SceneRecord
  overlay : List MapEntry
  messages : List SatMessage
deriving DecidableEq, Repr

/-- A location of the library (R72): EMPTY when `preset` is none. -/
structure Location where
  preset : Option Preset
  stores : Nat
deriving DecidableEq, Repr

/-- An open staging record (R75). -/
structure Staging where
  location : Nat
  record : Preset
deriving DecidableEq, Repr

/-! ## Contexts and buffers (chapters 3 and 5) -/

/-- A set of lane values (R60): the latency each slot takes, the lane latencies and compensations, the MISALIGNED
mark and the total latency. -/
structure Lanes where
  latencies : List Nat
  lx : Nat
  ly : Nat
  compX : Nat
  compY : Nat
  misaligned : Bool
  total : Nat
deriving DecidableEq, Repr

/-- A chain context (R52). `header`, `scenes`, `overlay` and `messages` are the preset's and never change; the slots
carry their runtime state; `started` says that its first running frame has begun (R59); `activationTotal` and
`activationMisaligned` are the values applied at activation (R114). -/
structure Context where
  number : Nat
  header : Header
  scenes : List SceneRecord
  overlay : List MapEntry
  messages : List SatMessage
  slots : List Slot
  started : Bool
  fed : Input
  follow : Ramp
  activeScene : Option Nat
  lanes : Lanes
  pendingLanes : Option Lanes
  laneX : Ramp
  laneY : Ramp
  lineX : List Int
  lineY : List Int
  mergeClips : Nat
  freshMergeClips : Nat
  activationTotal : Nat
  activationMisaligned : Bool
deriving DecidableEq, Repr

/-- The buffer roles (R91). -/
inductive Role where
  | free
  | loading
  | ready
  | active
  | outgoing
  | spill
  | cutting
deriving DecidableEq, Repr

/-- The buffer numbers (R91). -/
inductive BufferId where
  | b0
  | b1
  | b2
deriving DecidableEq, Repr

/-- A context buffer (R15, R91, R107, R113, R115); `rowPeak` is the largest row magnitude of a frame of a SPILL buffer
that has not ended (R115). -/
structure Buffer where
  role : Role
  tOut : Gain
  tIn : Gain
  loadLeft : Nat
  spillFrames : Nat
  quietCount : Nat
  rowPeak : Option Nat
  cutFrames : Nat
  context : Option Context
deriving DecidableEq, Repr

/-! ## The Loop unit (chapter 3) -/

/-- The two effects loops (R64). -/
inductive LoopId where
  | one
  | two
deriving DecidableEq, Repr

/-- The last status of a loop record (R64). -/
inductive LoopStatus where
  | none
  | ok
  | noReturn
  | aborted
  | set
deriving DecidableEq, Repr

/-- A loop record (R64): `latency` is none while the loop is unmeasured. -/
structure LoopRecord where
  latency : Option Nat
  status : LoopStatus
deriving DecidableEq, Repr

/-- A measurement in progress (R64); `block` is the RET-n block of a capture frame that has not ended (R68). -/
structure Measurement where
  loop : LoopId
  tag : Byte
  taken : Nat
  found : Option Nat
  block : Option (List Int)
deriving DecidableEq, Repr

/-- The Loop unit (R64). -/
structure LoopUnit where
  loop1 : LoopRecord
  loop2 : LoopRecord
  measuring : Option Measurement
deriving DecidableEq, Repr

/-! ## The Switch Engine (chapter 5) -/

/-- The source of a switch request (R94). -/
inductive SwitchSource where
  | control
  | pedal (link : Link)
deriving DecidableEq, Repr

/-- A request merged into another (R94, R100). -/
structure MergedRequest where
  source : SwitchSource
  tag : Option Byte
  arrival : Nat
deriving DecidableEq, Repr

/-- A switch request (R94). -/
structure SwitchRequest where
  preset : Option Nat
  scene : Option Nat
  force : Bool
  source : SwitchSource
  tag : Option Byte
  arrival : Nat
  merged : Option MergedRequest
deriving DecidableEq, Repr

/-- The engine states (R93). -/
inductive EngineState where
  | idle
  | waiting
  | loading
  | armed
  | cutting
  | crossfading
deriving DecidableEq, Repr

/-- The statuses of switch requests (R114, R118). -/
inductive SwitchStatus where
  | inProgress
  | ok
  | sceneMissing
  | unchanged
  | empty
  | missingCurve
  | superseded
  | queueFull
  | panic
  | badState
deriving DecidableEq, Repr

/-- The switch under way: the pending switch in LOADING, ARMED and CUTTING (R93), and the request whose crossfade
runs in CROSSFADING, with the scene its activation applied and the status it will end with (R111). -/
structure CurrentSwitch where
  request : SwitchRequest
  buffer : BufferId
  sceneApplied : Option Nat
  status : SwitchStatus
deriving DecidableEq, Repr

/-- The hold-off set (R101). -/
structure HoldOffs where
  rate : Bool
  tuner : Bool
  satellite : Bool
  measure : Bool
  host : Bool
deriving DecidableEq, Repr

/-- The queue modes (R97, R99). -/
inductive QueueMode where
  | collapse
  | sequence
deriving DecidableEq, Repr

/-- The engine settings (R104). -/
structure SwitchSettings where
  mode : QueueMode
  w1 : Nat
  k : Nat
  w2 : Nat
  tunerHold : Bool
  satHold : Bool
deriving DecidableEq, Repr

/-- A switch history record (R118). -/
structure HistoryRecord where
  preset : Option Nat
  scene : Option Nat
  source : SwitchSource
  status : SwitchStatus
  arrival : Nat
  start : Nat
  activation : Option Nat
deriving DecidableEq, Repr

/-- The Switch Engine (R93 to R121). `fadeFrame` is the crossfade frame k reached and `fadeLength` its T; both lists
of history are newest first. -/
structure Engine where
  state : EngineState
  queue : List SwitchRequest
  current : Option CurrentSwitch
  fadeFrame : Nat
  fadeLength : Nat
  holdOffs : HoldOffs
  rateHistory : List Nat
  settings : SwitchSettings
  history : List HistoryRecord
deriving DecidableEq, Repr

/-! ## The Tempo clock (chapter 6) -/

/-- The tempo sources (R122). -/
inductive TempoSource where
  | reset
  | host
  | tap
  | preset
deriving DecidableEq, Repr

/-- The Tempo clock (R122, R124, R130); sample times are counted modulo 2^37, the tap list is oldest first; `beatTaken`
says that the beat of the frame that is ending has been taken (R131, log 3). -/
structure Tempo where
  tempo : Nat
  period : Nat
  source : TempoSource
  lock : Bool
  lastBeat : Nat
  nextBeat : Nat
  beatCounter : Nat
  beatTaken : Bool
  taps : List Nat
deriving DecidableEq, Repr

/-! ## The Tuner (chapter 7) -/

/-- The tuner states (R135). -/
inductive TunerState where
  | off
  | listening
  | tracking
deriving DecidableEq, Repr

/-- The engage set (R135). -/
structure EngageSet where
  host : Bool
  pedalA : Bool
  pedalB : Bool
deriving DecidableEq, Repr

/-- A reading (R143). -/
structure Reading where
  input : Input
  note : Nat
  cents : Int
  frequency : Nat
  confidence : Nat
  frame : Nat
deriving DecidableEq, Repr

/-- The mark of the last reading (R135). -/
inductive ReadingMark where
  | live
  | stale
deriving DecidableEq, Repr

/-- The freshness mark of a TUNER_READING notice (R145). -/
inductive Freshness where
  | new
  | held
deriving DecidableEq, Repr

/-- A tuner profile (R135): offsets by pitch class. -/
structure Profile where
  transpose : Int
  offsets : List Int
deriving DecidableEq, Repr

/-- A mute policy (R139). -/
inductive MutePolicy where
  | mute
  | pass
deriving DecidableEq, Repr

/-- The Tuner (R135). The window is oldest first; `block` is the input block of a frame that has not ended, to be
collected as it ends; `estimateDue` says that an estimate has fallen due and has not been
taken (R140, log 1). -/
structure Tuner where
  state : TunerState
  engage : EngageSet
  window : List Int
  count : Nat
  block : Option (List Int)
  estimateDue : Bool
  run : List (Nat × Int)
  weak : Nat
  last : Option (Reading × ReadingMark)
  aref : Nat
  profileA : Profile
  profileB : Profile
  policies : PerMain MutePolicy
deriving DecidableEq, Repr

/-! ## Pedal links (chapter 8) -/

/-- The identity a controller reports (R153). -/
structure Identity where
  switches : Nat
  pedals : Nat
  lines : Nat
deriving DecidableEq, Repr

/-- The gesture states (R158). -/
inductive GestureState where
  | up
  | comboWait
  | down
  | held
  | doubleWait
  | consumed
deriving DecidableEq, Repr

/-- A switch record (R153, R158): `isDown` is the level; `hold` and `window` are the frames remaining on the hold timer
and on the combo or double window; `order` numbers the down event that began its COMBO_WAIT. -/
structure SwitchRecord where
  state : GestureState
  isDown : Bool
  snapshot : Option (List MapEntry)
  hold : Option Nat
  window : Option Nat
  order : Nat
deriving DecidableEq, Repr

/-- The view states of TUNER_VIEW (R166). -/
inductive ViewState where
  | off
  | search
  | live
  | held
  | stale
deriving DecidableEq, Repr

/-- The outbound display messages (R166). -/
inductive DisplayMsg where
  | text (line : Nat) (chars : List Byte)
  | leds (lit : BitVec 32)
  | tunerView (note : Option Nat) (cents : Option Int) (view : ViewState)
  | beat (counter : Nat)
deriving DecidableEq, Repr

/-- A display message on its line, with the bytes of its frame (R212). -/
structure DisplayTx where
  message : DisplayMsg
  bytes : List Byte
deriving DecidableEq, Repr

/-- A pedal link unit (R153): PRESENT when it holds an identity. `heard` says that a valid frame was taken during the
current frame (R156), and `downs` counts COMBO_WAIT entries, for R162's earliest. -/
structure PedalLink where
  identity : Option Identity
  silence : Nat
  heard : Bool
  switches : List SwitchRecord
  positions : List (Option Nat)
  display : List DisplayMsg
  displayTx : Option DisplayTx
  comboMs : Nat
  holdMs : Nat
  doubleMs : Nat
  framingErrors : Nat
  rejected : Nat
  downs : Nat
deriving DecidableEq, Repr

/-! ## The Control Map (chapter 9) -/

/-- The overlay in force, with its context's buffer and preset number (R174). -/
structure OverlayInForce where
  buffer : BufferId
  preset : Nat
  entries : List MapEntry
deriving DecidableEq, Repr

/-- The three counts of a link (R175). -/
structure MapCounts where
  denied : Nat
  unapplied : Nat
  clamped : Nat
deriving DecidableEq, Repr

/-- The Control Map (R172, R174, R175, R181). A mask has bit c set when class c is in it. -/
structure ControlMap where
  entries : List MapEntry
  changes : Nat
  overlay : Option OverlayInForce
  counts : PerLink MapCounts
  masks : PerLink (BitVec 8)
deriving DecidableEq, Repr

/-! ## The Satellite unit (chapter 10) -/

/-- An entry of the logical address table (R187). -/
structure AddressEntry where
  physical : Option Nat
  acknowledge : Bool
deriving DecidableEq, Repr

/-- The origin of a satellite frame (R187). -/
inductive SatOrigin where
  | activation
  | map
  | catchUp
  | raw
deriving DecidableEq, Repr

/-- A satellite frame (R187); `mark` is the activation mark. -/
structure SatFrame where
  physical : Nat
  logical : Option Nat
  payload : List Byte
  acknowledge : Bool
  origin : SatOrigin
  tag : Option Byte
  mark : Bool
deriving DecidableEq, Repr

/-- The frame in flight (R187): in transmission (with the bytes on the line) while `wait` is none, else awaiting its
ACK with the frames remaining. -/
structure InFlight where
  frame : SatFrame
  wait : Option Nat
  bytes : List Byte
deriving DecidableEq, Repr

/-- Bypass ON (R187): the timeout in ms (none for NONE) and the frames remaining on the inactivity timer. -/
structure Bypass where
  timeout : Option Nat
  remaining : Option Nat
deriving DecidableEq, Repr

/-- A catch-up entry (R195). -/
structure CatchUp where
  address : Nat
  payload : List Byte
  origin : SatOrigin
deriving DecidableEq, Repr

/-- The Satellite unit (R187). `lineBusy` says that the line still carries a frame a soft reset gave up. -/
structure Satellite where
  table : List AddressEntry
  ackTimeout : Nat
  queue : List SatFrame
  inFlight : Option InFlight
  lineBusy : Bool
  activation : Option Nat
  activationCount : Nat
  bypass : Option Bypass
  catchUp : List CatchUp
  unmapped : Nat
  dropped : Nat
  timeouts : Nat
  strayAcks : Nat
  framingErrors : Nat
deriving DecidableEq, Repr

/-! ## Notices and the control link (chapter 11) -/

/-- The reply codes, in the order of R211. -/
inductive ReplyCode where
  | ok
  | accepted
  | clamped
  | replaced
  | unknownKind
  | badLength
  | outOfRange
  | busy
  | denied
  | empty
  | notFound
  | inUse
  | readOnly
  | badCurve
  | missingCurve
  | overBudget
  | full
  | queueFull
  | notOpen
  | endOfRecord
  | badState
deriving DecidableEq, Repr

/-- One field of a frame on the control line (R211): a number of a given width in bytes, unsigned or signed. -/
inductive Wire where
  | u (width value : Nat)
  | s (width : Nat) (value : Int)
deriving DecidableEq, Repr

/-- A reply (R200, R210): the request's tag and kind byte, the reply code and the reply fields. -/
structure Reply where
  tag : Byte
  kind : Byte
  code : ReplyCode
  fields : List Wire
deriving DecidableEq, Repr

/-- What a valid frame carries (R200): a request, a kind byte that is none, or a length its kind does not allow. -/
inductive FrameBody where
  | request (request : Request)
  | unknownKind (kind : Byte)
  | badLength (kind : Byte)
deriving DecidableEq, Repr

/-- A valid frame: its tag and body. -/
structure ControlFrame where
  tag : Byte
  body : FrameBody
deriving DecidableEq, Repr

/-- The notice kinds, in the order of R211. -/
inductive NoticeKind where
  | ready
  | switchDone
  | switchFailed
  | presetActive
  | sceneActive
  | slotState
  | tunerReading
  | tunerState
  | beat
  | clip
  | measureDone
  | satTimeout
  | satReceived
  | mapDenied
  | gesture
  | linkState
  | overflow
deriving DecidableEq, Repr

/-- The cause of a READY notice (R208, R209). -/
inductive ReadyCause where
  | softReset
  | powerOn
deriving DecidableEq, Repr

/-- The cause of a LINK_STATE notice (R155, R156). -/
inductive LinkCause where
  | ident
  | silence
  | changed
deriving DecidableEq, Repr

/-- The fields of a notice, by kind. -/
inductive NoticeBody where
  | ready (cause : ReadyCause) (revision : Nat)
  | switchDone (source : SwitchSource) (preset scene : Option Nat) (status : SwitchStatus) (buffer : BufferId) (latency total : Nat) (misaligned : Bool)
  | switchFailed (source : SwitchSource) (preset scene : Option Nat) (status : SwitchStatus)
  | presetActive (buffer : BufferId) (preset : Nat) (name : List Byte) (scene : Nat)
  | sceneActive (buffer : BufferId) (preset scene : Nat) (name : List Byte) (clamped : Bool) (notMade : Nat)
  | slotState (buffer : BufferId) (preset : Nat) (enables : List Bool)
  | tunerReading (reading : Reading) (freshness : Freshness) (confidence : Nat)
  | tunerState (state : TunerState) (engage : EngageSet) (input : Input) (last : Option (Reading × ReadingMark))
  | beat (counter tempo : Nat) (source : TempoSource)
  | clip (output : Out) (count : Nat)
  | measureDone (loop : LoopId) (status : LoopStatus) (before after : Option Nat)
  | satTimeout (physical : Nat) (logical : Option Nat) (origin : SatOrigin) (tag : Option Byte)
  | satReceived (physical : Nat) (logical : Option Nat) (payload : List Byte)
  | mapDenied (key : MapKey) (index : Nat) (target : Target) (catchUp : Bool)
  | gesture (key : MapKey) (value : Nat)
  | linkState (link : Link) (present : Bool) (identity : Identity) (cause : LinkCause)
  | overflow (count : Nat)
deriving DecidableEq, Repr

/-- A notice (R202): its fields, the frame counter at posting and its tag byte. -/
structure Notice where
  body : NoticeBody
  frame : Nat
  tag : Byte
deriving DecidableEq, Repr

/-- The overflow state (R203); in `queued` the count is in the queued OVERFLOW notice. -/
inductive Overflow where
  | clear
  | pending (count : Nat)
  | queued
deriving DecidableEq, Repr

/-- The notice queue, oldest first, with its drop count and overflow state (R202, R203). -/
structure NoticeQueue where
  queue : List Notice
  drops : Nat
  overflow : Overflow
deriving DecidableEq, Repr

/-- A destination set of the routing table (R204). -/
structure Destinations where
  control : Bool
  pedalA : Bool
  pedalB : Bool
deriving DecidableEq, Repr

/-- What the outbound control line sends (R201). -/
inductive TxItem where
  | reply (reply : Reply)
  | notice (notice : Notice)
deriving DecidableEq, Repr

/-- A frame on the outbound control line, with its bytes (R210). -/
structure ControlTx where
  item : TxItem
  bytes : List Byte
deriving DecidableEq, Repr

/-- What the control link does with frames that end (R200, R208, R209): takes requests; discards valid frames (from a
RESET until READY has been sent); discards every frame (from power-on until READY has been sent). -/
inductive LinkGate where
  | taking
  | resetDiscard
  | startDiscard
deriving DecidableEq, Repr

/-- The control link unit (R199 to R201). -/
structure ControlLink where
  framingErrors : Nat
  overruns : Nat
  replies : List Reply
  hold : List ControlFrame
  tx : Option ControlTx
  gate : LinkGate
deriving DecidableEq, Repr

/-- Power and the RESET pin (R209). -/
inductive Power where
  | running
  | pinLow
  | initialising
deriving DecidableEq, Repr

/-! ## The whole part -/

/-- The state of the part. `pending` is the queue of commands that are waiting, oldest first. `frameOpen` and `frameEnded`
place the moment in the frame (R5, log 1): before the first frame (neither); within the frame of the counter (open); as it ends,
its counts taken in (both); or just after the end of the frame before, the counter advanced (ended alone). -/
structure State where
  pending : List Instr
  power : Power
  frameCounter : Nat
  frameOpen : Bool
  frameEnded : Bool
  mains : PerMain MuteStage
  meters : PerOut Meter
  selected : Input
  curves : List CurveEntry
  buffers : PerBuffer Buffer
  loops : LoopUnit
  library : List Location
  staging : Option Staging
  engine : Engine
  tempo : Tempo
  tuner : Tuner
  pedals : PerLink PedalLink
  map : ControlMap
  sat : Satellite
  control : ControlLink
  notices : NoticeQueue
  routing : List Destinations
deriving DecidableEq, Repr

/-- No command of the part ends in a fault: the spec answers, counts or discards bad input, and names no behaviour
that stops the part (NOTES.md, Stops). The type is closed and empty. -/
inductive Fault where
deriving DecidableEq, Repr

/-- Why a command has no meaning. -/
inductive Refusal where
  /-- Raised by `exec` alone, for a row of the table that has no meaning yet; safe. No row is left so. -/
  | notModelled (mnemonic : String)
deriving DecidableEq, Repr

/-! ## Reset values -/

/-- A ramp at rest at silence (factor 0). -/
def Ramp.silent : Ramp :=
  { code := 0, prev := 0, start := 0, target := 0, done := 4 }

/-- A ramp at rest at unity. -/
def Ramp.unity : Ramp :=
  { code := 192, prev := 1048576, start := 192, target := 192, done := 4 }

/-- The same value for each main output. -/
def allMains {α : Type} (x : α) : PerMain α :=
  { fohL := x, fohR := x, stage := x, mon := x }

/-- The same value for each output. -/
def allOutputs {α : Type} (x : α) : PerOut α :=
  { mains := allMains x, send1 := x, send2 := x }

/-- R19: after a reset each set is START alone, and each mute code is 0 with previous factor 0. -/
def MuteStage.reset : MuteStage :=
  { sources := { start := true, panic := false, tuner := false, host := false },
    gain := { code := 0, prev := 0 }, stored := 0 }

/-- R7, R8, R23: after a reset. -/
def Meter.reset : Meter :=
  { clips := 0, clipMark := false, clipAge := 375, peak := 0, carried := List.replicate 32 0, freshClips := 0,
    freshPeak := 0 }

/-- R15: the values of a buffer that is FREE. -/
def Buffer.free : Buffer :=
  { role := .free, tOut := { code := 0, prev := 0 }, tIn := { code := 192, prev := 1048576 }, loadLeft := 0,
    spillFrames := 0, quietCount := 0, rowPeak := none, cutFrames := 0, context := none }

/-- R42: the four built-in curves and 28 empty entries. -/
def curvesReset : List CurveEntry :=
  [ { name := [0x4C, 0x49, 0x4E, 0x45, 0x41, 0x52], points := [(-8388608, -8388608), (8388607, 8388607)], refs := 0 },
    { name := [0x48, 0x41, 0x52, 0x44],
      points := [(-8388608, -4194304), (-4194304, -4194304), (4194304, 4194304), (8388607, 4194304)], refs := 0 },
    { name := [0x53, 0x4F, 0x46, 0x54],
      points := [(-8388608, -6291456), (-2097152, -2097152), (0, 0), (2097152, 2097152), (8388607, 6291456)], refs := 0 },
    { name := [0x41, 0x53, 0x59, 0x4D],
      points := [(-8388608, -4194304), (-4194304, -3145728), (0, 0), (2097152, 2621440), (8388607, 7340032)], refs := 0 } ]
  ++ List.replicate 28 { name := [], points := [], refs := 0 }

/-- R64: both loops unmeasured, the unit IDLE. -/
def LoopUnit.reset : LoopUnit :=
  { loop1 := { latency := none, status := .none }, loop2 := { latency := none, status := .none }, measuring := none }

/-- R104: the engine settings after a power-on reset. -/
def SwitchSettings.reset : SwitchSettings :=
  { mode := .collapse, w1 := 40, k := 4, w2 := 1000, tunerHold := true, satHold := true }

/-- R93, R101, R103, R118, R121: the engine after a reset, under the settings it keeps. -/
def Engine.reset (settings : SwitchSettings) : Engine :=
  { state := .idle, queue := [], current := none, fadeFrame := 0, fadeLength := 0,
    holdOffs := { rate := false, tuner := false, satellite := false, measure := false, host := false },
    rateHistory := [], settings := settings, history := [] }

/-- R122, R123, R124: the clock after a power-on reset. -/
def Tempo.reset : Tempo :=
  { tempo := 1200, period := 24000, source := .reset, lock := false, lastBeat := 0, nextBeat := 24000,
    beatCounter := 0, beatTaken := false, taps := [] }

/-- R135: a profile after a power-on reset. -/
def Profile.reset : Profile :=
  { transpose := 0, offsets := List.replicate 12 0 }

/-- R135: the Tuner after a power-on reset. -/
def Tuner.reset : Tuner :=
  { state := .off, engage := { host := false, pedalA := false, pedalB := false }, window := [], count := 0, block := none,
    estimateDue := false, run := [], weak := 0, last := none, aref := 4400, profileA := Profile.reset,
    profileB := Profile.reset, policies := allMains .mute }

/-- R153: a switch record after a reset. -/
def SwitchRecord.reset : SwitchRecord :=
  { state := .up, isDown := false, snapshot := none, hold := none, window := none, order := 0 }

/-- R153: a pedal link unit after a reset, under the timings it keeps. -/
def PedalLink.reset (comboMs holdMs doubleMs : Nat) : PedalLink :=
  { identity := none, silence := 0, heard := false, switches := List.replicate 32 SwitchRecord.reset,
    positions := List.replicate 4 none, display := [], displayTx := none, comboMs := comboMs, holdMs := holdMs,
    doubleMs := doubleMs, framingErrors := 0, rejected := 0, downs := 0 }

/-- R175: the counts after a reset. -/
def MapCounts.reset : MapCounts :=
  { denied := 0, unapplied := 0, clamped := 0 }

/-- R172, R174, R175, R181: the Control Map after a power-on reset. -/
def ControlMap.reset : ControlMap :=
  { entries := [], changes := 0, overlay := none, counts := { a := MapCounts.reset, b := MapCounts.reset },
    masks := { a := 255, b := 255 } }

/-- R187: the Satellite unit after a reset, under the address table it keeps. -/
def Satellite.reset (table : List AddressEntry) : Satellite :=
  { table := table, ackTimeout := 50, queue := [], inFlight := none, lineBusy := false, activation := none,
    activationCount := 0, bypass := none, catchUp := [], unmapped := 0, dropped := 0, timeouts := 0, strayAcks := 0,
    framingErrors := 0 }

/-- R187: the address table after a power-on reset. -/
def addressTableReset : List AddressEntry :=
  List.replicate 15 { physical := none, acknowledge := false }

/-- R204: the routing table after a power-on reset, in the order of the notice kinds. -/
def routingReset : List Destinations :=
  List.replicate 3 { control := true, pedalA := false, pedalB := false } ++
  List.replicate 5 { control := true, pedalA := true, pedalB := true } ++
  List.replicate 9 { control := true, pedalA := false, pedalB := false }

/-- R208, R209: the control link after a reset, with its READY not yet sent. -/
def ControlLink.reset (gate : LinkGate) : ControlLink :=
  { framingErrors := 0, overruns := 0, replies := [], hold := [], tx := none, gate := gate }

/-- R202, R203, R208, R209: the notice queue after a reset, holding READY alone. -/
def NoticeQueue.reset (cause : ReadyCause) : NoticeQueue :=
  { queue := [{ body := .ready cause Config.revision, frame := 0, tag := 0 }], drops := 0, overflow := .clear }

/-- The part as initialisation after a power-on reset leaves it (R209): every block at its power-on values and READY
posted; no frame has begun. -/
def State.reset : State :=
  { pending := [],
    power := .running,
    frameCounter := 0,
    frameOpen := false,
    frameEnded := false,
    mains := allMains MuteStage.reset,
    meters := allOutputs Meter.reset,
    selected := .a,
    curves := curvesReset,
    buffers := { b0 := Buffer.free, b1 := Buffer.free, b2 := Buffer.free },
    loops := LoopUnit.reset,
    library := List.replicate 256 { preset := none, stores := 0 },
    staging := none,
    engine := Engine.reset SwitchSettings.reset,
    tempo := Tempo.reset,
    tuner := Tuner.reset,
    pedals := { a := PedalLink.reset 40 600 250, b := PedalLink.reset 40 600 250 },
    map := ControlMap.reset,
    sat := Satellite.reset addressTableReset,
    control := ControlLink.reset .startDiscard,
    notices := NoticeQueue.reset .powerOn,
    routing := routingReset }

end Sys2Proof.Machine
end

