-- ==== Sys2Proof/Machine/Level.lean ====
section
/-! DEFINITION. The level arithmetic of chapter 1: gain factors (R3), the level operation (R4), sum-saturate and clips
(R6), the sample law (R9), the four-frame code ramp (R10), the crossfade law (R11) and the cut law (R12). -/

namespace Sys2Proof.Machine

/-- R6: the clamp to the sample range. -/
def clampSample (v : Int) : Int :=
  if v < -8388608 then -8388608 else if 8388607 < v then 8388607 else v

/-- R6: 1 when the clamp changes the value (a clip), else 0. -/
def clipOf (v : Int) : Nat :=
  if clampSample v = v then 0 else 1

/-- R3: the mantissa table M. -/
def mantissas : List Int :=
  [1048576, 1110928, 1176987, 1246974, 1321123, 1399681, 1482910, 1571089, 1664511, 1763488, 1868350, 1979448]

/-- R3: the gain factor of a level code. -/
def gainFactor (code : Nat) : Int :=
  if code = 0 then 0
  else
    let n : Int := (code : Int) - 192
    let q : Int := n / 12
    let m : Int := mantissas.getD (n % 12).toNat 0
    if 0 ≤ q then m * 2 ^ q.toNat
    else (m + 2 ^ (-q - 1).toNat) / 2 ^ (-q).toNat

/-- R4: the level operation R(x, G). -/
def level (x factor : Int) : Int :=
  (x * factor + 524288) / 1048576

/-- R9: the factor used for sample s of a frame, from the factor of the previous frame's code to this frame's. -/
def sampleFactor (prev new : Int) (s : Nat) : Int :=
  prev + (new - prev) * ((s : Int) + 1) / 32

/-- R9: the factor of a moving gain at sample s. -/
def Gain.factor (g : Gain) (s : Nat) : Int :=
  sampleFactor g.prev (gainFactor g.code) s

/-- R9: a frame in which the gain's code is `code`, once it has ended. -/
def Gain.passed (g : Gain) : Gain :=
  { g with prev := gainFactor g.code }

/-- R9: the factor of a ramped gain at sample s. -/
def Ramp.factor (r : Ramp) (s : Nat) : Int :=
  sampleFactor r.prev (gainFactor r.code) s

/-- R9: the frame has ended, and its last factor is the previous factor of the next. -/
def Ramp.passed (r : Ramp) : Ramp :=
  { r with prev := gainFactor r.code }

/-- A ramp at rest at a code, with the code's factor. -/
def Ramp.rest (code : Nat) : Ramp :=
  { code := code, prev := gainFactor code, start := code, target := code, done := 4 }

/-- R10: the code of frame k of a four-frame ramp. -/
def rampCode (start target k : Nat) : Nat :=
  ((start : Int) + ((target : Int) - (start : Int)) * (k : Int) / 4).toNat

/-- R10: a new target is taken: the ramp is replaced, from the code reached; a target equal to the code ends it. -/
def Ramp.retarget (r : Ramp) (target : Nat) : Ramp :=
  if target = r.code then { r with start := target, target := target, done := 4 }
  else { r with start := r.code, target := target, done := 0 }

/-- R10: the next frame of the ramp begins. -/
def Ramp.advance (r : Ramp) : Ramp :=
  if r.done < 4 then { r with code := rampCode r.start r.target (r.done + 1), done := r.done + 1 } else r

/-- R27: a new value on a buffer in a running role starts a ramp; elsewhere it is taken at once. -/
def Ramp.change (r : Ramp) (running : Bool) (target : Nat) : Ramp :=
  if running then r.retarget target else Ramp.rest target

/-- R11: the rising code of frame k of a crossfade of T frames. -/
def risingCode (frames k : Nat) : Nat := 192 * k / frames

/-- R11: the falling code. -/
def fallingCode (frames k : Nat) : Nat := 192 - risingCode frames k

/-- R12: the code of frame k of a cut. -/
def cutCode (k : Nat) : Nat := fallingCode 4 k

/-- The conversion of a setting in milliseconds to frames, rounded up (00_scope.md, Conventions: Time). -/
def msToFrames (ms : Nat) : Nat := (ms * 3 + 1) / 2

/-- The magnitude of a sample (R23). -/
def magnitude (x : Int) : Nat := x.natAbs

/-- The largest magnitude of a block (R23, R115). -/
def peakOf (block : List Int) : Nat := block.foldl (fun p x => max p (magnitude x)) 0

/-- Term-by-term sum of two blocks; a missing sample counts as 0. -/
def addBlocks : List Int → List Int → List Int
  | [], ys => ys
  | xs, [] => xs
  | x :: xs, y :: ys => (x + y) :: addBlocks xs ys

/-- A block of silence. -/
def silence : List Int := List.replicate Config.frameSamples 0

/-- The samples of an input block as integers. -/
def Block.ints (b : Block) : List Int := b.toList.map BitVec.toInt

/-- R6 over a block: every sum clamped. -/
def clampBlock (sums : List Int) : List Int := sums.map clampSample

/-- R6 over a block: how many sums the clamp changed. -/
def clipsOf (sums : List Int) : Nat := sums.foldl (fun n v => n + clipOf v) 0

/-- R4 and R9 over a block: the level operation under the factor of each sample. -/
def levelBlock (factor : Nat → Int) (block : List Int) : List Int :=
  block.zipIdx.map (fun p => level p.1 (factor p.2))

/-- A per-sample process over a block: state in, samples through, state out. -/
def runSamples {σ : Type} (f : Nat → σ → Int → σ × Int) : Nat → σ → List Int → σ × List Int
  | _, acc, [] => (acc, [])
  | s, acc, x :: xs =>
    let (acc', y) := f s acc x
    let (acc'', ys) := runSamples f (s + 1) acc' xs
    (acc'', y :: ys)

/-- One step of a delay of as many samples as the line holds, oldest first (R30, R61). -/
def delayStep (line : List Int) (x : Int) : List Int × Int :=
  match line with
  | [] => ([], x)
  | oldest :: rest => (rest ++ [x], oldest)

/-- A block through a delay line (R61). -/
def delayBlock (line block : List Int) : List Int × List Int :=
  runSamples (fun _ l x => delayStep l x) 0 line block

end Sys2Proof.Machine
end

