-- ==== Sys2Proof/Machine/Flags.lean ====
section
/-! DEFINITION. Counters that hold their top value, sets of sources, and the wrap-around counts of the part. -/

namespace Sys2Proof.Machine

/-- A 16-bit count that stays at 65,535 (R7, R153, R175, R187, R199, R202): n more. -/
def bump (count n : Nat) : Nat := min 65535 (count + n)

/-- A 16-bit count that wraps to 0 (R72, R172). -/
def wrap16 (n : Nat) : Nat := n % 65536

/-- The frame counter's modulus (R5). -/
def frameModulus : Nat := 4294967296

/-- A frame counter difference, modulo 2^32 (R103). -/
def frameDiff (later earlier : Nat) : Nat := (later + (frameModulus - earlier % frameModulus)) % frameModulus

/-- The sample time modulus 2^37 (R124). -/
def sampleModulus : Nat := 137438953472

/-- The difference of two sample times modulo 2^37 (R124). -/
def sampleDiff (later earlier : Nat) : Nat := (later + (sampleModulus - earlier % sampleModulus)) % sampleModulus

/-- R124: a sample time is before another when it is not at most half the circle after it. -/
def sampleBefore (a b : Nat) : Bool := sampleModulus / 2 ≤ sampleDiff a b

/-- R19: a source is added to, or removed from, a mute set. -/
def MuteSet.put (m : MuteSet) (source : MuteSource) (present : Bool) : MuteSet :=
  match source with
  | .start => { m with start := present }
  | .panic => { m with panic := present }
  | .tuner => { m with tuner := present }
  | .host => { m with host := present }

/-- R19: the set is empty. -/
def MuteSet.isEmpty (m : MuteSet) : Bool := !(m.start || m.panic || m.tuner || m.host)

/-- R211: a mute set as a bit mask, bit 0 for the first member in R19's order. -/
def MuteSet.mask (m : MuteSet) : Nat := m.start.toNat + 2 * m.panic.toNat + 4 * m.tuner.toNat + 8 * m.host.toNat

/-- R105: the hold-off set is empty. -/
def HoldOffs.isEmpty (h : HoldOffs) : Bool := !(h.rate || h.tuner || h.satellite || h.measure || h.host)

/-- R211: the hold-off set as a bit mask in R101's order. -/
def HoldOffs.mask (h : HoldOffs) : Nat :=
  h.rate.toNat + 2 * h.tuner.toNat + 4 * h.satellite.toNat + 8 * h.measure.toNat + 16 * h.host.toNat

/-- R136: the engage set is empty. -/
def EngageSet.isEmpty (e : EngageSet) : Bool := !(e.host || e.pedalA || e.pedalB)

/-- R211: the engage set as a bit mask in R135's order. -/
def EngageSet.mask (e : EngageSet) : Nat := e.host.toNat + 2 * e.pedalA.toNat + 4 * e.pedalB.toNat

/-- R211: a destination set as a bit mask in R204's order. -/
def Destinations.mask (d : Destinations) : Nat := d.control.toNat + 2 * d.pedalA.toNat + 4 * d.pedalB.toNat

/-- A clamp of a number to a range (R2, R76 and others). -/
def clampNat (lo hi v : Nat) : Nat := if v < lo then lo else if hi < v then hi else v

/-- A clamp of a signed number to a range (R26, R150). -/
def clampInt (lo hi v : Int) : Int := if v < lo then lo else if hi < v then hi else v

end Sys2Proof.Machine

namespace Sys2Proof

open Machine

/-! Access to the records that hold one value per output, buffer or link. -/

def PerMain.get {α : Type} (p : PerMain α) (o : MainOut) : α :=
  match o with
  | .fohL => p.fohL
  | .fohR => p.fohR
  | .stage => p.stage
  | .mon => p.mon

def PerMain.map {α β : Type} (f : α → β) (p : PerMain α) : PerMain β :=
  { fohL := f p.fohL, fohR := f p.fohR, stage := f p.stage, mon := f p.mon }

/-- A value computed for each main output. -/
def PerMain.of {α : Type} (f : MainOut → α) : PerMain α :=
  { fohL := f .fohL, fohR := f .fohR, stage := f .stage, mon := f .mon }

def PerMain.toList {α : Type} (p : PerMain α) : List α := [p.fohL, p.fohR, p.stage, p.mon]

def PerBuffer.get {α : Type} (p : PerBuffer α) (b : BufferId) : α :=
  match b with
  | .b0 => p.b0
  | .b1 => p.b1
  | .b2 => p.b2

def PerBuffer.set {α : Type} (p : PerBuffer α) (b : BufferId) (x : α) : PerBuffer α :=
  match b with
  | .b0 => { p with b0 := x }
  | .b1 => { p with b1 := x }
  | .b2 => { p with b2 := x }

def PerBuffer.map {α β : Type} (f : α → β) (p : PerBuffer α) : PerBuffer β :=
  { b0 := f p.b0, b1 := f p.b1, b2 := f p.b2 }

def PerBuffer.toList {α : Type} (p : PerBuffer α) : List α := [p.b0, p.b1, p.b2]

def PerLink.get {α : Type} (p : PerLink α) (l : Link) : α :=
  match l with
  | .a => p.a
  | .b => p.b

def PerLink.set {α : Type} (p : PerLink α) (l : Link) (x : α) : PerLink α :=
  match l with
  | .a => { p with a := x }
  | .b => { p with b := x }

end Sys2Proof

namespace Sys2Proof.Machine

def PerOut.get {α : Type} (p : PerOut α) (o : Out) : α :=
  match o with
  | .main m => p.mains.get m
  | .send1 => p.send1
  | .send2 => p.send2

def PerOut.map {α β : Type} (f : α → β) (p : PerOut α) : PerOut β :=
  { mains := p.mains.map f, send1 := f p.send1, send2 := f p.send2 }

/-- A value computed for each output. -/
def PerOut.of {α : Type} (f : Out → α) : PerOut α :=
  { mains := PerMain.of (fun m => f (.main m)), send1 := f .send1, send2 := f .send2 }

def PerOut.toList {α : Type} (p : PerOut α) : List α := p.mains.toList ++ [p.send1, p.send2]

/-- The buffer numbers in order. -/
def bufferIds : List BufferId := [.b0, .b1, .b2]

/-- The main outputs in order (R19). -/
def mainOuts : List MainOut := [.fohL, .fohR, .stage, .mon]

/-- The six outputs in order (R7). -/
def allOuts : List Out := [.main .fohL, .main .fohR, .main .stage, .main .mon, .send1, .send2]

end Sys2Proof.Machine
end

