-- ==== Sys2Proof/Machine/Operands.lean ====
section
/-! DEFINITION. The enumerated fields of frames: the code each value travels as (R211: its position in the list where
its chapter first gives it, log 9), the values a code stands for, and the form checks of map entries (R172, R173). -/

namespace Sys2Proof.Machine

/-! ## Codes read from requests -/

/-- R211: yes, on and present are 1; no, off and absent are 0. -/
def boolOf : Nat → Option Bool
  | 0 => some false
  | 1 => some true
  | _ => none

/-- R21, R22: the sources MUTE and UNMUTE may name, by their positions in R19's list. -/
def muteSourceOf : Nat → Option MuteSource
  | 1 => some .panic
  | 3 => some .host
  | _ => none

/-- R21: a set of main outputs as a bit mask; a bit beyond them names no main output. -/
def outputsOf (mask : Nat) : Option (PerMain Bool) :=
  if mask = 0 ∨ 15 < mask then none
  else some { fohL := mask.testBit 0, fohR := mask.testBit 1, stage := mask.testBit 2, mon := mask.testBit 3 }

/-- R57: A, B. -/
def inputOf : Nat → Option Input
  | 0 => some .a
  | 1 => some .b
  | _ => none

/-- R153: A, B. -/
def linkOf : Nat → Option Link
  | 0 => some .a
  | 1 => some .b
  | _ => none

/-- R64: loops 1 and 2. -/
def loopOf : Nat → Option LoopId
  | 1 => some .one
  | 2 => some .two
  | _ => none

/-- R25: the slot kinds. -/
def slotKindOf : Nat → Option SlotKind
  | 0 => some .amp
  | 1 => some .drive
  | 2 => some .gate
  | 3 => some .tone
  | 4 => some .modulation
  | 5 => some .delay
  | 6 => some .reverb
  | 7 => some .loop
  | 8 => some .volume
  | 9 => some .pitch
  | _ => none

/-- R52: A, B, FOLLOW. -/
def inputModeOf : Nat → Option InputMode
  | 0 => some .a
  | 1 => some .b
  | 2 => some .follow
  | _ => none

/-- R73: SPILL, CUT. -/
def policyOf : Nat → Option SpillPolicy
  | 0 => some .spill
  | 1 => some .cut
  | _ => none

/-- R73: OFF, BEAT, BAR. -/
def quantizeOf : Nat → Option Quantize
  | 0 => some .off
  | 1 => some .beat
  | 2 => some .bar
  | _ => none

/-- R104: COLLAPSE, SEQUENCE. -/
def queueModeOf : Nat → Option QueueMode
  | 0 => some .collapse
  | 1 => some .sequence
  | _ => none

/-- R139: MUTE, PASS. -/
def mutePolicyOf : Nat → Option MutePolicy
  | 0 => some .mute
  | 1 => some .pass
  | _ => none

/-- R210, R211: the notice kinds. -/
def noticeKindOf : Nat → Option NoticeKind
  | 0 => some .ready
  | 1 => some .switchDone
  | 2 => some .switchFailed
  | 3 => some .presetActive
  | 4 => some .sceneActive
  | 5 => some .slotState
  | 6 => some .tunerReading
  | 7 => some .tunerState
  | 8 => some .beat
  | 9 => some .clip
  | 10 => some .measureDone
  | 11 => some .satTimeout
  | 12 => some .satReceived
  | 13 => some .mapDenied
  | 14 => some .gesture
  | 15 => some .linkState
  | 16 => some .overflow
  | _ => none

/-- R204: a destination set as a bit mask. -/
def destinationsOf (mask : Nat) : Option Destinations :=
  if 7 < mask then none
  else some { control := mask.testBit 0, pedalA := mask.testBit 1, pedalB := mask.testBit 2 }

/-! ## Codes sent -/

def linkCode : Link → Nat
  | .a => 0
  | .b => 1

def inputCode : Input → Nat
  | .a => 0
  | .b => 1

def LoopId.code : LoopId → Nat
  | .one => 1
  | .two => 2

def MainOut.code : MainOut → Nat
  | .fohL => 0
  | .fohR => 1
  | .stage => 2
  | .mon => 3

/-- R7: the six outputs. -/
def Out.code : Out → Nat
  | .main o => o.code
  | .send1 => 4
  | .send2 => 5

def SlotKind.code : SlotKind → Nat
  | .amp => 0
  | .drive => 1
  | .gate => 2
  | .tone => 3
  | .modulation => 4
  | .delay => 5
  | .reverb => 6
  | .loop => 7
  | .volume => 8
  | .pitch => 9

def InputMode.code : InputMode → Nat
  | .a => 0
  | .b => 1
  | .follow => 2

def SpillPolicy.code : SpillPolicy → Nat
  | .spill => 0
  | .cut => 1

def Quantize.code : Quantize → Nat
  | .off => 0
  | .beat => 1
  | .bar => 2

def QueueMode.code : QueueMode → Nat
  | .collapse => 0
  | .sequence => 1

def MutePolicy.code : MutePolicy → Nat
  | .mute => 0
  | .pass => 1

def Role.code : Role → Nat
  | .free => 0
  | .loading => 1
  | .ready => 2
  | .active => 3
  | .outgoing => 4
  | .spill => 5
  | .cutting => 6

def BufferId.code : BufferId → Nat
  | .b0 => 0
  | .b1 => 1
  | .b2 => 2

def LoopStatus.code : LoopStatus → Nat
  | .none => 0
  | .ok => 1
  | .noReturn => 2
  | .aborted => 3
  | .set => 4

def SwitchSource.code : SwitchSource → Nat
  | .control => 0
  | .pedal .a => 1
  | .pedal .b => 2

def EngineState.code : EngineState → Nat
  | .idle => 0
  | .waiting => 1
  | .loading => 2
  | .armed => 3
  | .cutting => 4
  | .crossfading => 5

/-- R114: the statuses of SWITCH_DONE. -/
def SwitchStatus.doneCode : SwitchStatus → Nat
  | .ok => 0
  | .sceneMissing => 1
  | .unchanged => 2
  | _ => 3

/-- R114: the statuses of SWITCH_FAILED. -/
def SwitchStatus.failedCode : SwitchStatus → Nat
  | .superseded => 0
  | .empty => 1
  | .missingCurve => 2
  | .queueFull => 3
  | .panic => 4
  | _ => 5

/-- R118: the statuses of a history record. -/
def SwitchStatus.historyCode : SwitchStatus → Nat
  | .inProgress => 0
  | .ok => 1
  | .sceneMissing => 2
  | .unchanged => 3
  | .empty => 4
  | .missingCurve => 5
  | .superseded => 6
  | .panic => 7
  | _ => 8

def TempoSource.code : TempoSource → Nat
  | .reset => 0
  | .host => 1
  | .tap => 2
  | .preset => 3

def TunerState.code : TunerState → Nat
  | .off => 0
  | .listening => 1
  | .tracking => 2

def ReadingMark.code : ReadingMark → Nat
  | .live => 0
  | .stale => 1

def Freshness.code : Freshness → Nat
  | .new => 0
  | .held => 1

def GestureState.code : GestureState → Nat
  | .up => 0
  | .comboWait => 1
  | .down => 2
  | .held => 3
  | .doubleWait => 4
  | .consumed => 5

def ViewState.code : ViewState → Nat
  | .off => 0
  | .search => 1
  | .live => 2
  | .held => 3
  | .stale => 4

def SatOrigin.code : SatOrigin → Nat
  | .activation => 0
  | .map => 1
  | .catchUp => 2
  | .raw => 3

def PermClass.code : PermClass → Nat
  | .switching => 0
  | .slot => 1
  | .guitar => 2
  | .tuner => 3
  | .tempo => 4
  | .satellite => 5
  | .host => 6
  | .panic => 7

/-- R208, R209: SOFT_RESET is the cause the chapter names first (log 9). -/
def ReadyCause.code : ReadyCause → Nat
  | .softReset => 0
  | .powerOn => 1

/-- R155, R156: no list of chapter 8 gives the three causes of LINK_STATE together; the model takes the order in which the chapter
first names them: IDENT, CHANGED, SILENCE (log 9). -/
def LinkCause.code : LinkCause → Nat
  | .ident => 0
  | .changed => 1
  | .silence => 2

/-- R211: the reply codes. -/
def ReplyCode.code : ReplyCode → Nat
  | .ok => 0
  | .accepted => 1
  | .clamped => 2
  | .replaced => 3
  | .unknownKind => 4
  | .badLength => 5
  | .outOfRange => 6
  | .busy => 7
  | .denied => 8
  | .empty => 9
  | .notFound => 10
  | .inUse => 11
  | .readOnly => 12
  | .badCurve => 13
  | .missingCurve => 14
  | .overBudget => 15
  | .full => 16
  | .queueFull => 17
  | .notOpen => 18
  | .endOfRecord => 19
  | .badState => 20

/-- R211: the notice kinds. -/
def NoticeKind.code : NoticeKind → Nat
  | .ready => 0
  | .switchDone => 1
  | .switchFailed => 2
  | .presetActive => 3
  | .sceneActive => 4
  | .slotState => 5
  | .tunerReading => 6
  | .tunerState => 7
  | .beat => 8
  | .clip => 9
  | .measureDone => 10
  | .satTimeout => 11
  | .satReceived => 12
  | .mapDenied => 13
  | .gesture => 14
  | .linkState => 15
  | .overflow => 16

def KeySource.kindCode : KeySource → Nat
  | .switch _ => 0
  | .expr _ => 1

def KeySource.number : KeySource → Nat
  | .switch n => n
  | .expr n => n

def Gesture.code : Gesture → Nat
  | .press => 0
  | .release => 1
  | .hold => 2
  | .double => 3
  | .combo _ => 4
  | .move => 5

/-- The position of a target's kind in R173's table. -/
def Target.kindCode : Target → Nat
  | .preset _ _ => 0
  | .presetStep _ => 1
  | .scene _ => 2
  | .sceneStep _ => 3
  | .slotToggle _ => 4
  | .slotSet _ _ => 5
  | .param _ _ _ _ => 6
  | .guitar _ => 7
  | .tuner _ => 8
  | .tap => 9
  | .satMessage _ _ => 10
  | .hostNotice _ => 11
  | .panic => 12

/-- R173: the class of a target. -/
def Target.class : Target → PermClass
  | .preset _ _ => .switching
  | .presetStep _ => .switching
  | .scene _ => .switching
  | .sceneStep _ => .switching
  | .slotToggle _ => .slot
  | .slotSet _ _ => .slot
  | .param _ _ _ _ => .slot
  | .guitar _ => .guitar
  | .tuner _ => .tuner
  | .tap => .tempo
  | .satMessage _ _ => .satellite
  | .hostNotice _ => .host
  | .panic => .panic

/-- R175, R181: a class lies in a mask. -/
def allowed (mask : BitVec 8) (c : PermClass) : Bool := mask.getLsbD c.code

/-- R204: the renderable kinds. -/
def NoticeKind.renderable : NoticeKind → Bool
  | .presetActive => true
  | .sceneActive => true
  | .slotState => true
  | .tunerReading => true
  | .tunerState => true
  | .beat => true
  | _ => false

/-! ## Form checks -/

/-- R46, R76, R78: a name of at most `most` characters, each a byte 32..126. -/
def nameOk (most : Nat) (name : List Byte) : Bool :=
  name.length ≤ most && name.all (fun c => 32 ≤ c.toNat && c.toNat ≤ 126)

/-- R172: the key of a map entry, when every part is in range. -/
def keyOf (k : RawKey) : Option MapKey :=
  match linkOf k.link with
  | none => none
  | some link =>
    if k.sourceKind = 0 ∧ k.number ≤ 31 then
      match k.gesture with
      | 0 => some { link := link, source := .switch k.number, gesture := .press }
      | 1 => some { link := link, source := .switch k.number, gesture := .release }
      | 2 => some { link := link, source := .switch k.number, gesture := .hold }
      | 3 => some { link := link, source := .switch k.number, gesture := .double }
      | 4 =>
        if k.partner ≤ 31 ∧ k.partner ≠ k.number then
          some { link := link, source := .switch k.number, gesture := .combo k.partner }
        else none
      | _ => none
    else if k.sourceKind = 1 ∧ k.number ≤ 3 ∧ k.gesture = 5 then
      some { link := link, source := .expr k.number, gesture := .move }
    else none

/-- R173: a step direction. -/
def directionOf (d : Int) : Option Direction :=
  if d = 1 then some .up else if d = -1 then some .down else none

/-- R173: −32,768..32,767. -/
def isInt16 (v : Int) : Bool := -32768 ≤ v && v ≤ 32767

/-- R173: the target, when its fields lie in their ranges. -/
def targetOf : RawTarget → Option Target
  | .preset location force =>
    if location ≤ 255 then (boolOf force).map (fun f => .preset location f) else none
  | .presetStep d => (directionOf d).map .presetStep
  | .scene n => if n ≤ 7 then some (.scene n) else none
  | .sceneStep d => (directionOf d).map .sceneStep
  | .slotToggle p => if p ≤ 15 then some (.slotToggle p) else none
  | .slotSet p e => if p ≤ 15 then (boolOf e).map (fun on => .slotSet p on) else none
  | .param p i lo hi => if p ≤ 15 ∧ i ≤ 7 ∧ isInt16 lo ∧ isInt16 hi then some (.param p i lo hi) else none
  | .guitar c =>
    match c with
    | 0 => some (.guitar (.select .a))
    | 1 => some (.guitar (.select .b))
    | 2 => some (.guitar .toggle)
    | _ => none
  | .tuner c =>
    match c with
    | 0 => some (.tuner .toggle)
    | 1 => some (.tuner .on)
    | 2 => some (.tuner .off)
    | _ => none
  | .tap => some .tap
  | .satMessage a p => if a ≤ 15 ∧ 1 ≤ p.length ∧ p.length ≤ 8 then some (.satMessage a p) else none
  | .hostNotice v => if v ≤ 255 then some (.hostNotice v) else none
  | .panic => some .panic

/-- R173: a PARAM target stands only in a MOVE entry. -/
def targetFits (g : Gesture) (t : Target) : Bool :=
  match t with
  | .param _ _ _ _ => g == .move
  | _ => true

/-- R173: the targets from index n on, or the index of the first of bad form. -/
def targetsOf (g : Gesture) : Nat → List RawTarget → Except Nat (List Target)
  | _, [] => .ok []
  | n, r :: rest =>
    match targetOf r with
    | none => .error n
    | some t =>
      if targetFits g t then
        match targetsOf g (n + 1) rest with
        | .ok ts => .ok (t :: ts)
        | .error k => .error k
      else .error n

/-- R172, R173, R182: the entry, or the index of the first bad target (none when the key or the list length is at
fault). -/
def entryOf (key : RawKey) (targets : List RawTarget) : Except (Option Nat) MapEntry :=
  match keyOf key with
  | none => .error none
  | some k =>
    if targets.length < 1 ∨ 4 < targets.length then .error none
    else
      match targetsOf k.gesture 0 targets with
      | .ok ts => .ok { key := k, targets := ts }
      | .error n => .error (some n)

/-- The index of the first target whose class lies outside a mask (R182). -/
def firstDenied (mask : BitVec 8) : Nat → List Target → Option Nat
  | _, [] => none
  | n, t :: rest => if allowed mask t.class then firstDenied mask (n + 1) rest else some n

end Sys2Proof.Machine
end

