-- ==== Sys2Proof/Machine/Slots.lean ====
section
/-! DEFINITION. Slots (chapter 2): the parameters of each kind and their ranges (R25, R26), cost and latency (R28), the
set-up of a slot at load (R29), a write of a parameter or of the enabled value (R13, R27, R45), the evaluation of a
curve (R43), and one frame of a slot's signal path (R29 to R41). -/

namespace Sys2Proof.Machine

/-! ## Parameters (R25, R26) -/

/-- R25: how many parameters a kind defines. -/
def SlotKind.paramCount : SlotKind → Nat
  | .amp => 7
  | .drive => 3
  | .gate => 2
  | .tone => 3
  | .modulation => 4
  | .delay => 4
  | .reverb => 2
  | .loop => 3
  | .volume => 1
  | .pitch => 2

/-- R25: the parameters that are level-coded. -/
def SlotKind.isLevel : SlotKind → Nat → Bool
  | .amp, 0 => true
  | .amp, 2 => true
  | .amp, 3 => true
  | .amp, 4 => true
  | .amp, 6 => true
  | .drive, 0 => true
  | .drive, 2 => true
  | .gate, 0 => true
  | .tone, 0 => true
  | .tone, 1 => true
  | .tone, 2 => true
  | .delay, 3 => true
  | .reverb, 1 => true
  | .loop, 1 => true
  | .loop, 2 => true
  | .volume, 0 => true
  | .pitch, 1 => true
  | _, _ => false

/-- R25: the curve parameter of an AMP or DRIVE slot. -/
def SlotKind.isCurve : SlotKind → Nat → Bool
  | .amp, 1 => true
  | .drive, 1 => true
  | _, _ => false

/-- R25: the range of a parameter; `mode` is the value of the mode parameter (R26: it chooses the range of a MOD rate
and of a DELAY time). -/
def SlotKind.range (kind : SlotKind) (mode : Int) (index : Nat) : Int × Int :=
  match kind, index with
  | .amp, 0 => (0, 240)
  | .amp, 1 => (0, 31)
  | .amp, 2 => (168, 216)
  | .amp, 3 => (168, 216)
  | .amp, 4 => (168, 216)
  | .amp, 5 => (0, 31)
  | .amp, 6 => (0, 240)
  | .drive, 0 => (0, 240)
  | .drive, 1 => (0, 31)
  | .drive, 2 => (0, 240)
  | .gate, 0 => (0, 192)
  | .gate, 1 => (10, 1000)
  | .tone, _ => (168, 216)
  | .modulation, 0 => (0, 2)
  | .modulation, 1 => (0, 1)
  | .modulation, 2 => if mode = 0 then (1, 200) else (0, 5)
  | .modulation, 3 => (0, 100)
  | .delay, 0 => (0, 1)
  | .delay, 1 => if mode = 0 then (1, 2000) else (0, 5)
  | .delay, 2 => (0, 95)
  | .delay, 3 => (0, 192)
  | .reverb, 0 => (1, 100)
  | .reverb, 1 => (0, 192)
  | .loop, 0 => (1, 2)
  | .loop, 1 => (0, 240)
  | .loop, 2 => (0, 240)
  | .volume, _ => (0, 192)
  | .pitch, 0 => (-24, 24)
  | .pitch, 1 => (0, 192)
  | _, _ => (0, 0)

/-- R26: the value a write of `v` leaves: clamped to the nearer end; the cabinet also accepts 255. -/
def SlotKind.clamp (kind : SlotKind) (mode : Int) (index : Nat) (v : Int) : Int :=
  if kind = .amp ∧ index = 5 ∧ v = 255 then 255
  else clampInt (kind.range mode index).1 (kind.range mode index).2 v

/-- R26: the mode parameter of MOD and DELAY and the parameter whose range it chooses. -/
def SlotKind.modePair : SlotKind → Option (Nat × Nat)
  | .modulation => some (1, 2)
  | .delay => some (0, 1)
  | _ => none

/-- R26: the mode held among the values of a slot (0 where the kind has none). -/
def SlotKind.modeOf (kind : SlotKind) (values : List Int) : Int :=
  match kind.modePair with
  | some (m, _) => kind.clamp 0 m (values.getD m 0)
  | none => 0

/-- R77: the values of a slot record, each clamped against the mode in the same record. -/
def SlotKind.clampAll (kind : SlotKind) (values : List Int) : List Int :=
  values.zipIdx.map (fun p => kind.clamp (kind.modeOf values) p.2 p.1)

/-! ## Cost and latency (R28) -/

/-- R25, R28: engine units. -/
def SlotKind.cost : SlotKind → Nat
  | .amp => 30
  | .drive => 8
  | .gate => 2
  | .tone => 4
  | .modulation => 10
  | .delay => 12
  | .reverb => 24
  | .loop => 3
  | .volume => 1
  | .pitch => 20

/-- R28: the latency recorded for the loop a LOOP slot names, an unmeasured loop counting 0. -/
def LoopUnit.latencyOf (u : LoopUnit) (loop : Int) : Nat :=
  if loop = 1 then u.loop1.latency.getD 0 else u.loop2.latency.getD 0

/-- R28: the latency of a slot of a kind whose parameter 0 is `first`. -/
def SlotKind.latency (kind : SlotKind) (u : LoopUnit) (first : Int) : Nat :=
  match kind with
  | .amp => 8
  | .pitch => 64
  | .loop => u.latencyOf first
  | _ => 0

/-! ## Slots of a context -/

/-- The value held by a parameter. -/
def Slot.value (slot : Slot) (index : Nat) : Int :=
  ((slot.params.map Param.value).getD index 0)

/-- The ramp of a parameter. -/
def Slot.ramp (slot : Slot) (index : Nat) : Ramp :=
  ((slot.params.map Param.ramp).getD index Ramp.silent)

/-- R25: the curve index of an AMP or DRIVE slot. -/
def Slot.curve (slot : Slot) : Option Nat :=
  match slot.kind with
  | .amp => some (slot.value 1).toNat
  | .drive => some (slot.value 1).toNat
  | _ => none

/-- R25: the curve index a slot record names. -/
def SlotRecord.curve (r : SlotRecord) : Option Nat :=
  match r.kind with
  | .amp => some (r.values.getD 1 0).toNat
  | .drive => some (r.values.getD 1 0).toNat
  | _ => none

/-- R39: the loop a LOOP slot names. -/
def Slot.loop (slot : Slot) : Option LoopId :=
  match slot.kind with
  | .loop => if slot.value 0 = 1 then some .one else some .two
  | _ => none

/-- R29, R35: the processing memories at load. -/
def SlotMemory.cleared : SlotMemory :=
  { tone := { low := [], mid := [], high := [] }, cabinet := 0, modulator := 0, modPhase := 0, reverb := 0, shifter := [], delayLine := [], gateOpen := true,
    gateQuiet := 0, gate := Ramp.unity }

/-- R29: a parameter at load: a level-coded one rests at its value. -/
def Param.load (kind : SlotKind) (index : Nat) (v : Int) : Param :=
  { value := v, ramp := if kind.isLevel index then Ramp.rest v.toNat else Ramp.silent }

/-- R13: the wet code at rest for an enabled value. -/
def wetRest (enabled : Bool) : Nat := if enabled then 192 else 0

/-- R29: a slot as the load sets it up. -/
def SlotRecord.load (u : LoopUnit) (r : SlotRecord) : Slot :=
  { kind := r.kind, enabled := r.enabled,
    params := r.values.zipIdx.map (fun p => Param.load r.kind p.2 p.1),
    wet := Ramp.rest (wetRest r.enabled), dry := Ramp.rest (wetRest (!r.enabled)), clips := 0, freshClips := 0,
    latency := r.kind.latency u (r.values.getD 0 0),
    line := List.replicate (r.kind.latency u (r.values.getD 0 0)) 0,
    memory := SlotMemory.cleared }

/-- R13, R50: the enabled value is set; a change starts the bypass ramp of both codes. -/
def Slot.setEnabled (running : Bool) (slot : Slot) (enabled : Bool) : Slot :=
  if slot.enabled = enabled then slot
  else
    { slot with enabled := enabled, wet := slot.wet.change running (wetRest enabled),
                dry := slot.dry.change running (wetRest (!enabled)) }

/-- R27: a value is put into a parameter, already clamped: a level-coded one takes it as its ramp target. -/
def Slot.put (running : Bool) (slot : Slot) (index : Nat) (v : Int) : Slot :=
  let old := slot.params.getD index { value := 0, ramp := Ramp.silent }
  { slot with
    params := slot.params.set index
      { value := v, ramp := if slot.kind.isLevel index then old.ramp.change running v.toNat else old.ramp } }

/-- R26: when the mode parameter changes, the rate or time held is clamped to the range of the new mode. -/
def Slot.fitMode (slot : Slot) (index : Nat) : Slot :=
  match slot.kind.modePair with
  | some (m, d) =>
    if index = m then slot.put false d (slot.kind.clamp (slot.value m) d (slot.value d)) else slot
  | none => slot

/-- R26: the value a write into a parameter of this slot leaves. -/
def Slot.clamped (slot : Slot) (index : Nat) (v : Int) : Int :=
  slot.kind.clamp (slot.kind.modeOf (slot.params.map Param.value)) index v

/-- What a write into a parameter does (R26, R27, R45): the slot after it, whether the clamp acted, whether the change
was not made because it named an empty curve, and the curve reference that moves (old, new). -/
structure ParamWrite where
  slot : Slot
  clamped : Bool
  notMade : Bool
  moved : Option (Nat × Nat)
deriving DecidableEq, Repr

/-- R26, R27, R45: a write of `v` into a parameter that the kind defines; `held` says which curves hold a list. -/
def Slot.write (running : Bool) (held : Nat → Bool) (slot : Slot) (index : Nat) (v : Int) : ParamWrite :=
  let new := slot.clamped index v
  let acted := decide (new ≠ v)
  if slot.kind.isCurve index then
    if new = slot.value index then { slot := slot, clamped := acted, notMade := false, moved := none }
    else if held new.toNat then
      { slot := slot.put running index new, clamped := acted, notMade := false,
        moved := some ((slot.value index).toNat, new.toNat) }
    else { slot := slot, clamped := acted, notMade := true, moved := none }
  else
    { slot := (slot.put running index new).fitMode index, clamped := acted, notMade := false, moved := none }

/-! ## Curves (R43) -/

/-- R43: a curve evaluated at u. (A slot of a loaded context names no empty curve, R44, R106; the value on an empty
list is never used.) -/
def evalCurve : List (Int × Int) → Int → Int
  | [], _ => 0
  | [p], _ => p.2
  | p :: q :: rest, u =>
    if u ≤ p.1 then p.2
    else if u < q.1 then p.2 + (q.2 - p.2) * (u - p.1) / (q.1 - p.1)
    else evalCurve (q :: rest) u

/-- R133: the length in samples of a division at beat period P. -/
def divisionLength (period : Nat) (index : Int) : Nat :=
  match index.toNat with
  | 0 => period / 4
  | 1 => period * 3 / 4
  | 2 => period / 2
  | 3 => period * 2 / 3
  | 4 => period
  | _ => period * 2

/-- R36, R133: the modulation period of a MOD slot. -/
def modPeriod (period : Nat) (mode rate : Int) : Nat :=
  if mode = 0 then (480000 * 2 + rate.toNat) / (2 * rate.toNat) else divisionLength period rate

/-- R37, R133: the delay time D of a DELAY slot. -/
def delayTime (period : Nat) (mode time : Int) : Nat :=
  if mode = 0 then time.toNat * 48 else min Config.delayLineSize (divisionLength period time)

/-! ## One frame of a slot (R29 to R41) -/

/-- What a slot reads besides its input: the curve lists, the beat period, and the loop returns as this context reads
them (R67). -/
structure SlotEnv where
  curves : List (List (Int × Int))
  period : Nat
  ret1 : List Int
  ret2 : List Int

/-- R27, R13: the ramps of a slot move to this frame's codes. -/
def Slot.beginFrame (slot : Slot) : Slot :=
  { slot with
    params := slot.params.map (fun p => { p with ramp := p.ramp.advance }),
    wet := slot.wet.advance, dry := slot.dry.advance,
    memory := { slot.memory with gate := slot.memory.gate.advance } }

/-- R9: the frame has ended, and each factor reached is the previous factor of the next. -/
def Slot.passFrame (slot : Slot) : Slot :=
  { slot with
    params := slot.params.map (fun p => { p with ramp := p.ramp.passed }),
    wet := slot.wet.passed, dry := slot.dry.passed,
    memory := { slot.memory with gate := slot.memory.gate.passed } }

/-- The factor of a level-coded parameter at sample s. -/
def Slot.factor (slot : Slot) (index s : Nat) : Int := (slot.ramp index).factor s

/-- A wet result with its internal clips and the memories after it. -/
structure Wet where
  value : Int
  clips : Nat
  memory : SlotMemory

/-- R32: the low, mid and high band of the AMP tone stack and of a TONE slot's filter. -/
def toneBands (amp : Bool) : Config.Band × Config.Band × Config.Band :=
  if amp then (.shelfBelow 100, .peak 700 1, .shelfAbove 3200) else (.shelfBelow 120, .peak 1000 1, .shelfAbove 4000)

/-- R32: one step of a band under the factor of its code, in exact numbers: a linear filter, flat at unity (log 13). -/
def bandStep (band : Config.Band) (factor : Int) (m : List Rat) (x : Rat) : List Rat × Rat :=
  let d := Config.tone
  let weigh (row : Nat → Rat) : Rat := ((List.range d.size).map (fun j => row j * m.getD j 0)).sum
  ((List.range d.size).map (fun i => weigh (d.feedback band factor i) + d.input band factor i * x),
   if factor = 1048576 then x else weigh (d.output band factor) + d.direct band factor * x)

/-- R32: one step of a tone filter: its bands in series, and its exact output rounded; with all three flat it passes the
sample unchanged. -/
def toneStep (amp : Bool) (low mid high : Int) (m : ToneMemory) (x : Int) : ToneMemory × Int :=
  let bands := toneBands amp
  let l := bandStep bands.1 low m.low x
  let p := bandStep bands.2.1 mid m.mid l.2
  let h := bandStep bands.2.2 high m.high p.2
  ({ low := l.1, mid := p.1, high := h.1 },
   if low = 1048576 ∧ mid = 1048576 ∧ high = 1048576 then x else Config.toneRounding.round h.2)

/-- R33: the cabinet types, four responses to a type. -/
def cabinetType (index : Nat) : Config.CabinetType :=
  match index / 4 with
  | 0 => .open112
  | 1 => .closed112
  | 2 => .open212
  | 3 => .closed212
  | 4 => .straight412
  | 5 => .slanted412
  | 6 => .four10
  | _ => .one15

/-- R33: the corners of a type in Hz: the lower, and the upper of variant 0. -/
def cabinetCorners : Config.CabinetType → Nat × Nat
  | .open112 => (95, 5600)
  | .closed112 => (80, 5200)
  | .open212 => (85, 5400)
  | .closed212 => (75, 5000)
  | .straight412 => (70, 4800)
  | .slanted412 => (70, 5200)
  | .four10 => (90, 6000)
  | .one15 => (60, 3800)

/-- R33: the response of an index: each variant lowers the upper corner by 400 Hz. -/
def cabinetResponse (index : Nat) : Config.CabinetResponse :=
  let corners := cabinetCorners (cabinetType index)
  { type := cabinetType index, lower := corners.1, upper := corners.2 - 400 * (index % 4) }

/-- R33: one step of the cabinet stage; 255 passes the sample unchanged and, by the model's choice, leaves the response memory
as it is until a response is selected again (log 31). -/
def cabinetStep (index : Int) (memory : Nat) (x : Int) : Nat × Int :=
  if index = 255 then (memory, x) else Config.cabinet (cabinetResponse index.toNat) memory x

/-- R31: the five stages of an AMP slot, on the input of 8 samples earlier (log 12). -/
def ampWet (env : SlotEnv) (slot : Slot) (s : Nat) (m : SlotMemory) (x : Int) : Wet :=
  let u := level x (slot.factor 0 s)
  let v := evalCurve (env.curves.getD (slot.value 1).toNat []) (clampSample u)
  let t := toneStep true (slot.factor 2 s) (slot.factor 3 s) (slot.factor 4 s) m.tone v
  let z := cabinetStep (slot.value 5) m.cabinet (clampSample t.2)
  let r := level (clampSample z.2) (slot.factor 6 s)
  { value := clampSample r, clips := clipOf u + clipOf t.2 + clipOf z.2 + clipOf r,
    memory := { m with tone := t.1, cabinet := z.1 } }

/-- R34: the three stages of a DRIVE slot. -/
def driveWet (env : SlotEnv) (slot : Slot) (s : Nat) (m : SlotMemory) (x : Int) : Wet :=
  let u := level x (slot.factor 0 s)
  let v := evalCurve (env.curves.getD (slot.value 1).toNat []) (clampSample u)
  let r := level v (slot.factor 2 s)
  { value := clampSample r, clips := clipOf u + clipOf r, memory := m }

/-- R35: a GATE slot under its gate code. -/
def gateWet (m : SlotMemory) (s : Nat) (x : Int) : Wet :=
  { value := level x (m.gate.factor s), clips := 0, memory := m }

/-- R32: a TONE slot. -/
def toneWet (slot : Slot) (s : Nat) (m : SlotMemory) (x : Int) : Wet :=
  let t := toneStep false (slot.factor 0 s) (slot.factor 1 s) (slot.factor 2 s) m.tone x
  { value := clampSample t.2, clips := clipOf t.2, memory := { m with tone := t.1 } }

/-- R36: the modulation phase one sample on, as a part of a period of some samples. -/
def phaseStep (period : Nat) (phase : Rat) : Rat :=
  let next := phase + 1 / (period : Rat)
  if 1 ≤ next then next - 1 else next

/-- R36: a MOD slot: the modulation stands where its phase says; a tremolo is a gain of unity less the sweep, a chorus or a
phaser a sound of its design under the sweep; at depth 0 the wet result is the input. By the model's choice the memory of a
chorus or phaser stays as it is while the type is tremolo (log 41). -/
def modWet (env : SlotEnv) (slot : Slot) (m : SlotMemory) (x : Int) : Wet :=
  let type := (slot.value 0).toNat
  let depth := (slot.value 3).toNat
  let sweep := Config.modulator.sweep type depth m.modPhase
  let y := if type = 2 then (m.modulator, level x (1048576 - sweep))
    else Config.modulator.sound type depth sweep m.modulator x
  let w := if depth = 0 then x else y.2
  { value := clampSample w, clips := clipOf w,
    memory := { m with
      modulator := y.1, modPhase := phaseStep (modPeriod env.period (slot.value 1) (slot.value 2)) m.modPhase } }

/-- R37: a DELAY slot; its line is newest first, and a sample beyond it is 0. -/
def delayWet (env : SlotEnv) (slot : Slot) (s : Nat) (m : SlotMemory) (x : Int) : Wet :=
  let y := m.delayLine.getD (delayTime env.period (slot.value 0) (slot.value 1) - 1) 0
  let back := x + y * slot.value 2 / 100
  let w := x + level y (slot.factor 3 s)
  { value := clampSample w, clips := clipOf back + clipOf w,
    memory := { m with delayLine := (clampSample back :: m.delayLine).take Config.delayLineSize } }

/-- R38: a REVERB slot. -/
def reverbWet (slot : Slot) (s : Nat) (m : SlotMemory) (x : Int) : Wet :=
  let t := Config.reverb.step (slot.value 0).toNat m.reverb x
  let w := x + level t.2 (slot.factor 1 s)
  { value := clampSample w, clips := clipOf w, memory := { m with reverb := t.1 } }

/-- R39: a LOOP slot's wet result, from the return. -/
def loopWet (env : SlotEnv) (slot : Slot) (s : Nat) (m : SlotMemory) : Wet :=
  let r := (if slot.value 0 = 1 then env.ret1 else env.ret2).getD s 0
  let w := level r (slot.factor 2 s)
  { value := clampSample w, clips := clipOf w, memory := m }

/-- R40: a VOLUME slot. -/
def volumeWet (slot : Slot) (s : Nat) (m : SlotMemory) (x : Int) : Wet :=
  { value := level x (slot.factor 0 s), clips := 0, memory := m }

/-- R41: a PITCH slot: d is the input of 64 samples earlier, from which the shifted copy is formed, and at interval 0 the copy
is d. -/
def pitchWet (slot : Slot) (s : Nat) (m : SlotMemory) (d : Int) : Wet :=
  let p := Config.shifter.step (slot.value 0) m.shifter d
  let w := d + level (if slot.value 0 = 0 then d else p.2) (slot.factor 1 s)
  { value := clampSample w, clips := clipOf w, memory := { m with shifter := p.1 } }

/-- The wet result of a slot for its input x and the input d delayed by its latency (R30). -/
def Slot.wetResult (env : SlotEnv) (slot : Slot) (s : Nat) (m : SlotMemory) (x d : Int) : Wet :=
  match slot.kind with
  | .amp => ampWet env slot s m d
  | .drive => driveWet env slot s m x
  | .gate => gateWet m s x
  | .tone => toneWet slot s m x
  | .modulation => modWet env slot m x
  | .delay => delayWet env slot s m x
  | .reverb => reverbWet slot s m x
  | .loop => loopWet env slot s m
  | .volume => volumeWet slot s m x
  | .pitch => pitchWet slot s m d

/-- What one frame's samples change in a slot. -/
structure SlotProgress where
  line : List Int
  memory : SlotMemory
  clips : Nat

/-- R13, R29, R30: one sample through a slot: the latency line, the wet result, the output clamp; an internal clip counts
only while the wet code is above 0. -/
def Slot.sample (env : SlotEnv) (slot : Slot) (s : Nat) (p : SlotProgress) (x : Int) : SlotProgress × Int :=
  let (line, d) := delayStep p.line x
  let w := slot.wetResult env s p.memory x d
  let sum := level w.value (slot.wet.factor s) + level d (slot.dry.factor s)
  ({ line := line, memory := w.memory,
     clips := p.clips + (if slot.wet.code = 0 then 0 else w.clips) + clipOf sum },
   clampSample sum)

/-- R35: some input sample reaches the threshold magnitude at its sample. -/
def gateLoud (threshold : Ramp) (block : List Int) : Bool :=
  block.zipIdx.any (fun p => decide (level 8388607 (threshold.factor p.2) ≤ (magnitude p.1 : Int)))

/-- R35: the gate decision of a frame, from the frame's input; a change of state starts its ramp at the next frame. -/
def Slot.gateDecision (slot : Slot) (block : List Int) : Slot :=
  match slot.kind with
  | .gate =>
    let m := slot.memory
    if (slot.ramp 0).code = 0 ∨ gateLoud (slot.ramp 0) block then
      { slot with memory := { m with gateOpen := true, gateQuiet := 0,
                                     gate := if m.gateOpen then m.gate else m.gate.retarget 192 } }
    else if m.gateOpen then
      if msToFrames (slot.value 1).toNat ≤ m.gateQuiet + 1 then
        { slot with memory := { m with gateOpen := false, gateQuiet := m.gateQuiet + 1, gate := m.gate.retarget 0 } }
      else { slot with memory := { m with gateQuiet := m.gateQuiet + 1 } }
    else slot
  | _ => slot

/-- What a run of slots gives for one frame: the slots after it, their output block, and the exact send terms of their
LOOP slots (R18, R39). -/
structure SeriesRun where
  slots : List Slot
  out : List Int
  send1 : List Int
  send2 : List Int

/-- R39: the send terms of a slot for an input block. -/
def Slot.sendTerms (slot : Slot) (loop : LoopId) (block : List Int) : List Int :=
  if slot.loop = some loop then levelBlock (slot.factor 1) block else []

/-- One frame of a slot whose ramps stand at this frame's codes: the slot after it and its output block. -/
def Slot.runFrame (env : SlotEnv) (slot : Slot) (block : List Int) : Slot × List Int :=
  let r := runSamples (slot.sample env) 0 { line := slot.line, memory := slot.memory, clips := 0 } block
  ((({ slot with line := r.1.line, memory := r.1.memory, freshClips := r.1.clips } : Slot).gateDecision
      block).passFrame,
   r.2)

/-- R53: slots in series, in position order. -/
def runSeries (env : SlotEnv) : List Slot → List Int → SeriesRun
  | [], block => { slots := [], out := block, send1 := [], send2 := [] }
  | slot :: rest, block =>
    let now := slot.beginFrame
    let r := now.runFrame env block
    let more := runSeries env rest r.2
    { slots := r.1 :: more.slots, out := more.out,
      send1 := addBlocks (now.sendTerms .one block) more.send1,
      send2 := addBlocks (now.sendTerms .two block) more.send2 }

end Sys2Proof.Machine
end

