-- ==== Sys2Proof/Machine/Contexts.lean ====
section
/-! DEFINITION. Chain contexts (chapter 3): the copy a load makes (R52), lane latency and compensation (R60 to R63), the
FOLLOW law (R58, R59), and one frame of a context's signal order (R53 to R56). -/

namespace Sys2Proof.Machine

/-! ## Sections and lanes (R53, R60) -/

/-- R53: the part of a list by position that belongs to the pre section, and so on. -/
def Header.prePart {α : Type} (h : Header) (xs : List α) : List α := xs.take h.nPre
def Header.xPart {α : Type} (h : Header) (xs : List α) : List α := (xs.drop h.nPre).take h.nX
def Header.yPart {α : Type} (h : Header) (xs : List α) : List α := (xs.drop (h.nPre + h.nX)).take h.nY
def Header.postPart {α : Type} (h : Header) (xs : List α) : List α := (xs.drop (h.nPre + h.nX + h.nY)).take h.nPost

/-- R60: the compensation of a lane of latency `own` beside a lane of latency `other`. -/
def compensation (own other : Nat) : Nat := min Config.maxCompensation (max own other - own)

/-- R60: the lane values under the slot latencies given. -/
def lanesOf (h : Header) (latencies : List Nat) : Lanes :=
  let lx := (h.xPart latencies).sum
  let ly := (h.yPart latencies).sum
  { latencies := latencies, lx := lx, ly := ly,
    compX := compensation lx ly, compY := compensation ly lx,
    misaligned := decide (Config.maxCompensation < max lx ly - min lx ly),
    total := (h.prePart latencies).sum + max (lx + compensation lx ly) (ly + compensation ly lx)
      + (h.postPart latencies).sum }

/-- R28, R60: the lane values of a context's slots under a Loop unit's table. -/
def Context.lanesUnder (u : LoopUnit) (c : Context) : Lanes :=
  lanesOf c.header (c.slots.map (fun s => s.kind.latency u (s.value 0)))

/-- R62: a context uses a loop when it holds a LOOP slot that names it, enabled or not. -/
def Context.usesLoop (c : Context) (loop : LoopId) : Bool :=
  c.slots.any (fun s => s.loop == some loop)

/-- R62: some latency in the part of the slots a section takes differs. -/
def differs (xs ys : List Nat) : Bool := xs != ys

/-- R62: the pending change affects lane X. -/
def Context.affectsX (c : Context) (p : Lanes) : Bool :=
  p.compX != c.lanes.compX || differs (c.header.xPart p.latencies) (c.header.xPart c.lanes.latencies)
    || differs (c.header.prePart p.latencies) (c.header.prePart c.lanes.latencies)
    || differs (c.header.postPart p.latencies) (c.header.postPart c.lanes.latencies)

/-- R62: the pending change affects lane Y. -/
def Context.affectsY (c : Context) (p : Lanes) : Bool :=
  p.compY != c.lanes.compY || differs (c.header.yPart p.latencies) (c.header.yPart c.lanes.latencies)
    || differs (c.header.prePart p.latencies) (c.header.prePart c.lanes.latencies)
    || differs (c.header.postPart p.latencies) (c.header.postPart c.lanes.latencies)

/-- R30: a slot takes a latency; a change resizes its line and fills it with zeros. -/
def Slot.takeLatency (slot : Slot) (latency : Nat) : Slot :=
  if slot.latency = latency then slot
  else { slot with latency := latency, line := List.replicate latency 0 }

/-- R62, R63: lane values are applied: lines whose delay changes are filled with zeros, and no change is pending. -/
def Context.applyLanes (c : Context) (p : Lanes) : Context :=
  { c with
    slots := c.slots.zipIdx.map (fun q => q.1.takeLatency (p.latencies.getD q.2 0)),
    lineX := if p.compX = c.lanes.compX then c.lineX else List.replicate p.compX 0,
    lineY := if p.compY = c.lanes.compY then c.lineY else List.replicate p.compY 0,
    lanes := p, pendingLanes := none }

/-- R62: the Loop unit's table changed under a context that uses the loop: applied at once outside the running roles,
else made the pending change (absent when it equals the applied values). -/
def Context.recompute (running : Bool) (u : LoopUnit) (c : Context) : Context :=
  let p := c.lanesUnder u
  if running then { c with pendingLanes := if p = c.lanes then none else some p }
  else c.applyLanes p

/-- R63: the start of a frame: the pending change is applied once every affected lane was at code 0, and the lane
codes move toward their targets. -/
def Ramp.toward (r : Ramp) (target : Nat) : Ramp :=
  (if target = r.target then r else r.retarget target).advance

def Context.laneStep (c : Context) : Context :=
  let c' := match c.pendingLanes with
    | none => c
    | some p =>
      if (!c.affectsX p || c.laneX.code == 0) && (!c.affectsY p || c.laneY.code == 0) then c.applyLanes p else c
  let (fallX, fallY) := match c'.pendingLanes with
    | none => (false, false)
    | some p => (c'.affectsX p, c'.affectsY p)
  { c' with laneX := c'.laneX.toward (if fallX then 0 else 192), laneY := c'.laneY.toward (if fallY then 0 else 192) }

/-! ## The input of a context (R58, R59) -/

/-- R58: the start of a frame of a running context whose input mode is FOLLOW. -/
def Context.followStep (selected : Input) (c : Context) : Context :=
  match c.header.inputMode with
  | .follow =>
    let fed := if c.follow.code = 0 then selected else c.fed
    { c with fed := fed, follow := c.follow.toward (if fed = selected then 192 else 0) }
  | _ => c

/-- R59: a context outside the running roles follows the selection at once. -/
def Context.followAtOnce (selected : Input) (c : Context) : Context :=
  match c.header.inputMode with
  | .follow => { c with fed := selected }
  | _ => c

/-- R59: the input a context is fed from at load. -/
def InputMode.fedAtLoad (mode : InputMode) (selected : Input) : Input :=
  match mode with
  | .a => .a
  | .b => .b
  | .follow => selected

/-! ## The load (R29, R52, R60) -/

/-- R52: the chain context a load copies from a stored preset. -/
def Preset.load (u : LoopUnit) (selected : Input) (number : Nat) (p : Preset) : Context :=
  let slots := p.slots.map (SlotRecord.load u)
  let lanes := lanesOf p.header (slots.map Slot.latency)
  { number := number, header := p.header, scenes := p.scenes, overlay := p.overlay, messages := p.messages,
    slots := slots, started := false, fed := p.header.inputMode.fedAtLoad selected, follow := Ramp.unity, activeScene := none,
    lanes := lanes, pendingLanes := none, laneX := Ramp.unity, laneY := Ramp.unity,
    lineX := List.replicate lanes.compX 0, lineY := List.replicate lanes.compY 0, mergeClips := 0,
    freshMergeClips := 0,
    activationTotal := 0, activationMisaligned := false }

/-- R44: how many AMP and DRIVE slots of a context name a curve. -/
def Context.curveUses (c : Context) (index : Nat) : Nat :=
  c.slots.countP (fun s => s.curve == some index)

/-! ## One frame of a context (R53 to R56) -/

/-- What a context reads in a frame. -/
structure ContextEnv where
  slotEnv : SlotEnv
  inA : List Int
  inB : List Int
  aux : List Int

/-- What a context gives in a frame: its rows (R56) with the clips of each, and its send terms (R18). -/
structure ContextRun where
  context : Context
  rows : PerMain (List Int)
  rowClips : PerMain Nat
  send1 : List Int
  send2 : List Int

/-- R4 under a fixed factor, over a block. -/
def scaleBlock (code : Nat) (block : List Int) : List Int := block.map (fun x => level x (gainFactor code))

/-- R56: the sums of one output-matrix row. -/
def rowSums (row : MatrixRow) (main dry aux : List Int) : List Int :=
  addBlocks (scaleBlock row.main main) (addBlocks (scaleBlock row.dry dry) (scaleBlock row.aux aux))

/-- R54: the context input of a frame. -/
def Context.inputBlock (env : ContextEnv) (tIn : Gain) (c : Context) : List Int :=
  levelBlock tIn.factor
    (scaleBlock c.header.inputLevel
      (levelBlock c.follow.factor (match c.fed with | .a => env.inA | .b => env.inB)))

/-- R53: one frame of a context in a running role, its codes already those of the frame. -/
def Context.runFrame (env : ContextEnv) (tIn : Gain) (c : Context) : ContextRun :=
  let input := c.inputBlock env tIn
  let aux := levelBlock tIn.factor env.aux
  let pre := runSeries env.slotEnv (c.header.prePart c.slots) input
  let x := runSeries env.slotEnv (c.header.xPart c.slots) pre.out
  let y := runSeries env.slotEnv (c.header.yPart c.slots) pre.out
  let cx := delayBlock c.lineX x.out
  let cy := delayBlock c.lineY y.out
  let merge := addBlocks (scaleBlock c.header.gX (levelBlock c.laneX.factor cx.2))
    (scaleBlock c.header.gY (levelBlock c.laneY.factor cy.2))
  let post := runSeries env.slotEnv (c.header.postPart c.slots) (clampBlock merge)
  let sums := c.header.outputMatrix.map (fun row => rowSums row post.out input aux)
  { context :=
      { c with
        slots := pre.slots ++ x.slots ++ y.slots ++ post.slots,
        lineX := cx.1, lineY := cy.1, freshMergeClips := clipsOf merge,
        follow := c.follow.passed, laneX := c.laneX.passed, laneY := c.laneY.passed },
    rows := sums.map clampBlock,
    rowClips := sums.map clipsOf,
    send1 := addBlocks pre.send1 (addBlocks x.send1 (addBlocks y.send1 post.send1)),
    send2 := addBlocks pre.send2 (addBlocks x.send2 (addBlocks y.send2 post.send2)) }

end Sys2Proof.Machine
end

