-- ==== Sys2Proof/Machine/Wire.lean ====
section
/-! DEFINITION. What travels on the serial lines (R199, R210 to R212): the bytes of numbers, checksums, the frames the part
sends on the control, pedal and satellite lines, and the fields of notices in the order their rules name them. -/

namespace Sys2Proof.Machine

/-! ## Numbers and checksums -/

/-- R211: the bytes of a number, most significant first. -/
def numberBytes : Nat → Nat → List Byte
  | 0, _ => []
  | w + 1, v => BitVec.ofNat 8 (v / 256 ^ w) :: numberBytes w v

/-- R211: the bytes of a field; signed numbers in two's complement. -/
def Wire.bytes : Wire → List Byte
  | .u w v => numberBytes w v
  | .s w v => numberBytes w (v % (256 ^ w : Nat)).toNat

/-- The bytes of a list of fields. -/
def wireBytes (fields : List Wire) : List Byte := fields.flatMap Wire.bytes

/-- R199: the byte that makes the sum from the length through itself 0 modulo 256. -/
def checksum (bytes : List Byte) : Byte := -(bytes.foldl (fun sum b => sum + b) 0)

/-- R199, R212: a frame: start byte, the bytes from the length on, checksum. -/
def frameBytes (start : Byte) (body : List Byte) : List Byte := start :: body ++ [checksum body]

/-- R210: a control-line frame; the length counts tag, kind and payload. -/
def controlBytes (tag kind : Byte) (payload : List Byte) : List Byte :=
  frameBytes 0xA5 (BitVec.ofNat 8 (payload.length + 2) :: tag :: kind :: payload)

/-! ## Field forms (R211) -/

def wFlag (b : Bool) : Wire := .u 1 b.toNat

/-- An optional number: a presence byte, then the value. -/
def wOpt (width : Nat) : Option Nat → List Wire
  | none => [.u 1 0]
  | some v => [.u 1 1, .u width v]

/-- A string or byte list: a count byte, then the bytes. -/
def wBytes (bytes : List Byte) : List Wire := .u 1 bytes.length :: bytes.map (fun b => .u 1 b.toNat)

/-- A list: a count byte, then each item's fields. -/
def wList {α : Type} (f : α → List Wire) (xs : List α) : List Wire := .u 1 xs.length :: xs.flatMap f

/-! ## Records in replies and notices -/

/-- R172: a key: link, source, gesture, and the partner of a COMBO. -/
def wKey (k : MapKey) : List Wire :=
  [.u 1 (linkCode k.link), .u 1 k.source.kindCode, .u 1 k.source.number, .u 1 k.gesture.code] ++
  match k.gesture with
  | .combo p => [.u 1 p]
  | _ => []

def directionValue : Direction → Int
  | .up => 1
  | .down => -1

/-- R173: the fields of a target after its kind. -/
def wTargetFields : Target → List Wire
  | .preset l f => [.u 1 l, wFlag f]
  | .presetStep d => [.s 1 (directionValue d)]
  | .scene n => [.u 1 n]
  | .sceneStep d => [.s 1 (directionValue d)]
  | .slotToggle p => [.u 1 p]
  | .slotSet p e => [.u 1 p, wFlag e]
  | .param p i lo hi => [.u 1 p, .u 1 i, .s 2 lo, .s 2 hi]
  | .guitar (.select i) => [.u 1 (inputCode i)]
  | .guitar .toggle => [.u 1 2]
  | .tuner .toggle => [.u 1 0]
  | .tuner .on => [.u 1 1]
  | .tuner .off => [.u 1 2]
  | .tap => []
  | .satMessage a p => .u 1 a :: wBytes p
  | .hostNotice v => [.u 1 v]
  | .panic => []

def wTarget (t : Target) : List Wire := .u 1 t.kindCode :: wTargetFields t

def wRow (r : MatrixRow) : List Wire := [.u 1 r.main, .u 1 r.dry, .u 1 r.aux]

/-- R73: the header fields in the order of the table. -/
def wHeader (h : Header) : List Wire :=
  wBytes h.name ++ [.u 1 h.inputMode.code, .u 1 h.inputLevel, .u 1 h.nPre, .u 1 h.nX, .u 1 h.nY, .u 1 h.nPost,
    .u 1 h.gX, .u 1 h.gY] ++ h.outputMatrix.toList.flatMap wRow ++
  [.u 1 h.frames, .u 1 h.policy.code, .u 2 h.spillLimit, .u 1 h.quantize.code] ++ wOpt 2 h.tempo ++
  [.u 1 h.defaultScene]

def wReading (r : Reading) : List Wire :=
  [.u 1 (inputCode r.input), .u 1 r.note, .s 1 r.cents, .u 4 r.frequency, .u 1 r.confidence, .u 4 r.frame]

/-- R135: the last reading with its mark, or none. -/
def wLast : Option (Reading × ReadingMark) → List Wire
  | none => [.u 1 0]
  | some (r, m) => .u 1 1 :: wReading r ++ [.u 1 m.code]

def wIdentity (i : Identity) : List Wire := [.u 1 i.switches, .u 1 i.pedals, .u 1 i.lines]

/-! ## Notices -/

/-- The kind of a notice. -/
def NoticeBody.kind : NoticeBody → NoticeKind
  | .ready _ _ => .ready
  | .switchDone _ _ _ _ _ _ _ _ => .switchDone
  | .switchFailed _ _ _ _ => .switchFailed
  | .presetActive _ _ _ _ => .presetActive
  | .sceneActive _ _ _ _ _ _ => .sceneActive
  | .slotState _ _ _ => .slotState
  | .tunerReading _ _ _ => .tunerReading
  | .tunerState _ _ _ _ => .tunerState
  | .beat _ _ _ => .beat
  | .clip _ _ => .clip
  | .measureDone _ _ _ _ => .measureDone
  | .satTimeout _ _ _ _ => .satTimeout
  | .satReceived _ _ _ => .satReceived
  | .mapDenied _ _ _ _ => .mapDenied
  | .gesture _ _ => .gesture
  | .linkState _ _ _ _ => .linkState
  | .overflow _ => .overflow

/-- The fields of a notice after its kind and frame counter, in the order its rule names them. LINK_STATE begins with its link:
R155 and R156 name presence, identity and cause, and by the model's choice the link stands before them (log 45). Where a notice or
a reply holds a fixed number of values, no count stands before them (log 46). -/
def NoticeBody.fields : NoticeBody → List Wire
  | .ready c r => [.u 1 c.code, .u 1 r]
  | .switchDone src p sc st b lat tot mis =>
    .u 1 src.code :: wOpt 1 p ++ wOpt 1 sc ++ [.u 1 st.doneCode, .u 1 b.code, .u 4 lat, .u 2 tot, wFlag mis]
  | .switchFailed src p sc st => .u 1 src.code :: wOpt 1 p ++ wOpt 1 sc ++ [.u 1 st.failedCode]
  | .presetActive b p n sc => [.u 1 b.code, .u 1 p] ++ wBytes n ++ [.u 1 sc]
  | .sceneActive b p sc n c k => [.u 1 b.code, .u 1 p, .u 1 sc] ++ wBytes n ++ [wFlag c, .u 1 k]
  | .slotState b p es => [.u 1 b.code, .u 1 p] ++ wList (fun e => [wFlag e]) es
  | .tunerReading r f c => wReading r ++ [.u 1 f.code, .u 1 c]
  | .tunerState st e i l => [.u 1 st.code, .u 1 e.mask, .u 1 (inputCode i)] ++ wLast l
  | .beat c t src => [.u 1 c, .u 2 t, .u 1 src.code]
  | .clip o n => [.u 1 o.code, .u 2 n]
  | .measureDone l st b a => [.u 1 l.code, .u 1 st.code] ++ wOpt 2 b ++ wOpt 2 a
  | .satTimeout p l o _ => .u 1 p :: wOpt 1 l ++ [.u 1 o.code]
  | .satReceived p l d => .u 1 p :: wOpt 1 l ++ wBytes d
  | .mapDenied k i t c => .u 1 (linkCode k.link) :: wKey k ++ [.u 1 i, .u 1 t.kindCode, .u 1 t.class.code, wFlag c]
  | .gesture k v => .u 1 (linkCode k.link) :: wKey k ++ [.u 1 v]
  | .linkState l p i c => [.u 1 (linkCode l), wFlag p] ++ wIdentity i ++ [.u 1 c.code]
  | .overflow n => [.u 2 n]

/-- R210: the bytes of a notice frame. -/
def Notice.bytes (n : Notice) : List Byte :=
  controlBytes n.tag 0x7E (wireBytes (.u 1 n.body.kind.code :: .u 4 n.frame :: n.body.fields))

/-- R210: the bytes of a reply frame. -/
def Reply.bytes (r : Reply) : List Byte :=
  controlBytes r.tag 0x7F (r.kind :: wireBytes (.u 1 r.code.code :: r.fields))

/-- R201: the bytes of a frame the control line sends. -/
def TxItem.bytes : TxItem → List Byte
  | .reply r => r.bytes
  | .notice n => n.bytes

/-! ## Pedal and satellite frames (R212) -/

/-- R212: the kind byte and fields of a display message; a lit set has its most significant byte first (log 43). -/
def DisplayMsg.body : DisplayMsg → List Byte
  | .text line chars => 0x11 :: BitVec.ofNat 8 line :: chars
  | .leds lit => 0x12 :: numberBytes 4 lit.toNat
  | .tunerView note cents view =>
    [0x13, BitVec.ofNat 8 (note.getD 255), BitVec.ofInt 8 (cents.getD (-128)), BitVec.ofNat 8 view.code]
  | .beat c => [0x14, BitVec.ofNat 8 c]

/-- R212: a display message on the pedal line. -/
def DisplayMsg.bytes (m : DisplayMsg) : List Byte :=
  frameBytes 0x5A (BitVec.ofNat 8 m.body.length :: m.body)

/-- R212: a satellite frame on the satellite line. -/
def SatFrame.bytes (f : SatFrame) : List Byte :=
  frameBytes 0xC3 (BitVec.ofNat 8 (f.payload.length + 2) :: BitVec.ofNat 8 f.physical :: 0x01 :: f.payload)

end Sys2Proof.Machine
end

