-- ==== Sys2Proof/Machine/Ops.lean ====
section
/-! DEFINITION. The shared operations over the state: access to buffers and links, the mute sets (R19), the curve
references (R44), the freeing of a buffer, the display queues (R166), and the posting and routing of notices (R202 to
R204) with their rendering on the pedal links (R167, R168). -/

namespace Sys2Proof.Machine

/-! ## Buffers and links -/

/-- A buffer is put in place. -/
def State.setBuffer (s : State) (b : BufferId) (x : Buffer) : State := { s with buffers := s.buffers.set b x }

/-- The context of a buffer is put in place. -/
def State.setContext (s : State) (b : BufferId) (c : Context) : State :=
  s.setBuffer b { s.buffers.get b with context := some c }

/-- A pedal link unit is put in place. -/
def State.setLink (s : State) (l : Link) (x : PedalLink) : State := { s with pedals := s.pedals.set l x }

/-- The buffers of a role, in order. -/
def State.withRole (s : State) (r : Role) : List BufferId :=
  bufferIds.filter (fun b => (s.buffers.get b).role == r)

/-- R92: the running roles. -/
def Role.running : Role → Bool
  | .active => true
  | .outgoing => true
  | .spill => true
  | .cutting => true
  | _ => false

/-- The ACTIVE buffer and its context, if there is one. -/
def State.active (s : State) : Option (BufferId × Context) :=
  match s.withRole .active with
  | [] => none
  | b :: _ => (s.buffers.get b).context.map (fun c => (b, c))

/-- R72: the preset stored at a location. -/
def State.presetAt (s : State) (location : Nat) : Option Preset :=
  (s.library.getD location { preset := none, stores := 0 }).preset

/-! ## Mute sets (R19) -/

/-- R19: a source is added to or removed from the sets of the outputs named. -/
def muteOutputs (mains : PerMain MuteStage) (source : MuteSource) (present : Bool) (outputs : PerMain Bool) :
    PerMain MuteStage :=
  PerMain.of (fun o =>
    let m := mains.get o
    if outputs.get o then { m with sources := m.sources.put source present } else m)

/-- R19: on the state. -/
def State.setMute (s : State) (source : MuteSource) (present : Bool) (outputs : PerMain Bool) : State :=
  { s with mains := muteOutputs s.mains source present outputs }

/-! ## Curves (R44) -/

/-- R42: the entry holds a list. -/
def curveHeld (curves : List CurveEntry) (index : Nat) : Bool :=
  match curves[index]? with
  | some e => !e.points.isEmpty
  | none => false

/-- The references of every curve moved by the uses of a context: up at a load, down as its buffer becomes FREE. -/
def moveRefs (curves : List CurveEntry) (up : Bool) (c : Context) : List CurveEntry :=
  curves.zipIdx.map (fun p =>
    { p.1 with refs := if up then p.1.refs + c.curveUses p.2 else p.1.refs - c.curveUses p.2 })

/-- R45: one reference moves from the old curve to the new. -/
def moveRef (curves : List CurveEntry) (old new : Nat) : List CurveEntry :=
  curves.zipIdx.map (fun p =>
    { p.1 with refs := p.1.refs + (if p.2 = new then 1 else 0) - (if p.2 = old then 1 else 0) })

/-- R44, R45: the reference move of a parameter write, if there is one. -/
def applyMove (curves : List CurveEntry) : Option (Nat × Nat) → List CurveEntry
  | none => curves
  | some (old, new) => moveRef curves old new

/-- R15, R44, R91: a buffer becomes FREE, from whatever role: its curve references are returned. -/
def State.freeBuffer (s : State) (b : BufferId) : State :=
  { s with
    curves := match (s.buffers.get b).context with
      | none => s.curves
      | some c => moveRefs s.curves false c,
    buffers := s.buffers.set b Buffer.free }

/-! ## Map entries in force (R89, R158, R168) -/

/-- The entries of a table for a link. -/
def entriesFor (entries : List MapEntry) (l : Link) : List MapEntry :=
  entries.filter (fun e => e.key.link == l)

/-- The entries of an overlay for a link if it holds any, and otherwise the global table's entries for the link. -/
def effectiveFor (overlay global : List MapEntry) (l : Link) : List MapEntry :=
  if (entriesFor overlay l).isEmpty then entriesFor global l else entriesFor overlay l

/-! ## Display queues (R166) -/

/-- R166: the key of a message. -/
def DisplayMsg.key : DisplayMsg → Nat × Nat
  | .text line _ => (0, line)
  | .leds _ => (1, 0)
  | .tunerView _ _ _ => (2, 0)
  | .beat _ => (3, 0)

/-- R166: a message replaces the queued message of its key in place, else it is appended. -/
def placeInQueue (queue : List DisplayMsg) (m : DisplayMsg) : List DisplayMsg :=
  if queue.any (fun q => q.key == m.key) then queue.map (fun q => if q.key == m.key then m else q)
  else queue ++ [m]

/-- R166: TEXT for a line at or beyond the controller's display lines is not placed. -/
def DisplayMsg.fits (lines : Nat) : DisplayMsg → Bool
  | .text line _ => decide (line < lines)
  | _ => true

/-- R166: messages are placed only while the link is PRESENT. -/
def PedalLink.place (p : PedalLink) (m : DisplayMsg) : PedalLink :=
  match p.identity with
  | none => p
  | some i => if m.fits i.lines then { p with display := placeInQueue p.display m } else p

/-- Several messages, in order. -/
def PedalLink.placeAll (p : PedalLink) (ms : List DisplayMsg) : PedalLink := ms.foldl PedalLink.place p

/-! ## Rendering (R167, R168) -/

/-- The character of a decimal digit. -/
def digit (n : Nat) : Byte := BitVec.ofNat 8 (48 + n % 10)

/-- R167: a preset number as three digits with leading zeros. -/
def threeDigits (n : Nat) : List Byte := [digit (n / 100), digit (n / 10), digit n]

/-- R167: padded with spaces on the right to 20 characters. -/
def pad20 (text : List Byte) : List Byte := (text ++ List.replicate 20 0x20).take 20

/-- R167: the text of PRESET_ACTIVE on line 0. -/
def presetText (number : Nat) (name : List Byte) : DisplayMsg :=
  .text 0 (pad20 (threeDigits number ++ [0x20] ++ name))

/-- R167: the text of SCENE_ACTIVE, by the controller's display lines. -/
def sceneText (lines preset scene : Nat) (name : List Byte) : DisplayMsg :=
  if lines = 1 then .text 0 (pad20 (threeDigits preset ++ [0x20, 0x53, digit scene, 0x20] ++ name))
  else .text 1 (pad20 ([0x53, 0x43, 0x45, 0x4E, 0x45, 0x20, digit scene, 0x20] ++ name))

/-- R168: the order of the entries keyed on a switch: PRESS, RELEASE, HOLD, DOUBLE, COMBO by ascending partner. -/
def Gesture.lampOrder : Gesture → Nat
  | .press => 0
  | .release => 1
  | .hold => 2
  | .double => 3
  | .combo p => 4 + p
  | .move => 100

/-- R168: the slot a target names for a lamp. -/
def Target.lampSlot : Target → Option Nat
  | .slotToggle p => some p
  | .slotSet p _ => some p
  | _ => none

/-- R168: the slot position of the first SLOT target of switch k among its entries, in lamp order. -/
def lampSlotOf (entries : List MapEntry) (k : Nat) : Option Nat :=
  ((List.range 36).flatMap (fun order =>
    (entries.filter (fun e => e.key.source == .switch k && e.key.gesture.lampOrder == order)).flatMap
      (fun e => e.targets.filterMap Target.lampSlot))).head?

/-- R168: switch k is lit. -/
def lampLit (entries : List MapEntry) (enables : List Bool) (k : Nat) : Bool :=
  match lampSlotOf entries k with
  | some p => enables.getD p false
  | none => false

/-- R168: the lamps of the switches below the switch count. -/
def lamps (entries : List MapEntry) (enables : List Bool) (switches : Nat) : BitVec 32 :=
  BitVec.ofNat 32
    (((List.range switches).map (fun k => if lampLit entries enables k then 2 ^ k else 0)).sum)

/-- R168: SLOT_STATE of a context as LEDS, for a link. -/
def ledsOf (s : State) (l : Link) (b : BufferId) (enables : List Bool) (switches : Nat) : DisplayMsg :=
  .leds (lamps (effectiveFor (match (s.buffers.get b).context with | some c => c.overlay | none => []) s.map.entries l)
    enables switches)

/-- R168: TUNER_STATE as TUNER_VIEW. -/
def tunerStateView (state : TunerState) (last : Option (Reading × ReadingMark)) : DisplayMsg :=
  match state, last with
  | .off, _ => .tunerView none none .off
  | .listening, none => .tunerView none none .search
  | .listening, some (r, .live) => .tunerView (some r.note) (some r.cents) .live
  | .listening, some (r, .stale) => .tunerView (some r.note) (some r.cents) .stale
  | .tracking, none => .tunerView none none .search
  | .tracking, some (r, _) => .tunerView (some r.note) (some r.cents) .live

/-- R167, R168: the message a notice is rendered as on a link (none for a kind that is not renderable). -/
def render (s : State) (l : Link) (i : Identity) (body : NoticeBody) : Option DisplayMsg :=
  match body with
  | .presetActive _ preset name _ => some (presetText preset name)
  | .sceneActive _ preset scene name _ _ => some (sceneText i.lines preset scene name)
  | .slotState b _ enables => some (ledsOf s l b enables i.switches)
  | .tunerReading r .new _ => some (.tunerView (some r.note) (some r.cents) .live)
  | .tunerReading r .held _ => some (.tunerView (some r.note) (some r.cents) .held)
  | .tunerState state _ _ last => some (tunerStateView state last)
  | .beat counter _ _ => some (.beat counter)
  | _ => none

/-! ## The notice queue (R202, R203) -/

/-- R202: two coalescable notices have the same key. -/
def NoticeBody.sameKey : NoticeBody → NoticeBody → Bool
  | .tunerReading _ _ _, .tunerReading _ _ _ => true
  | .beat _ _ _, .beat _ _ _ => true
  | .clip o _, .clip p _ => o == p
  | _, _ => false

/-- R202: TUNER_READING, BEAT and CLIP are coalescable. -/
def NoticeBody.coalescable : NoticeBody → Bool
  | .tunerReading _ _ _ => true
  | .beat _ _ _ => true
  | .clip _ _ => true
  | _ => false

/-- R202 step 3: the oldest coalescable notice is removed. -/
def removeOldestCoalescable : List Notice → List Notice
  | [] => []
  | n :: rest => if n.body.coalescable then rest else n :: removeOldestCoalescable rest

/-- R203: the count carried by the queued OVERFLOW rises by one. -/
def raiseOverflow (n : Notice) : Notice :=
  match n.body with
  | .overflow c => { n with body := .overflow (bump c 1) }
  | _ => n

/-- R202 step 4, R203: a notice is dropped; `routed` says whether OVERFLOW is routed. -/
def NoticeQueue.drop (q : NoticeQueue) (routed : Bool) : NoticeQueue :=
  let q := { q with drops := bump q.drops 1 }
  match q.overflow with
  | .queued => { q with queue := q.queue.map raiseOverflow }
  | .pending n => { q with overflow := .pending (bump n 1) }
  | .clear => if routed then { q with overflow := .pending 1 } else q

/-- R202: a notice is posted to the queue. -/
def NoticeQueue.post (q : NoticeQueue) (routed : Bool) (n : Notice) : NoticeQueue :=
  if q.queue.any (fun m => m.body.sameKey n.body) then
    { q with queue := q.queue.map (fun m => if m.body.sameKey n.body then n else m) }
  else if q.queue.length < Config.noticeQueueSize then { q with queue := q.queue ++ [n] }
  else if q.queue.any (fun m => m.body.coalescable) then { q with queue := removeOldestCoalescable q.queue ++ [n] }
  else q.drop routed

/-- R203: what the departure of a notice for transmission does to the overflow state: the head has left. -/
def NoticeQueue.depart (q : NoticeQueue) (routed : Bool) (frame : Nat) : NoticeQueue :=
  match q.queue with
  | [] => q
  | n :: rest =>
    match n.body, q.overflow with
    | .overflow _, _ => { q with queue := rest, overflow := .clear }
    | _, .pending c =>
      if routed then
        { q with queue := rest ++ [{ body := .overflow c, frame := frame, tag := 0 }], overflow := .queued }
      else { q with queue := rest, overflow := .clear }
    | _, _ => { q with queue := rest }

/-- R138, R146, R202: every queued TUNER_READING is withdrawn. -/
def NoticeQueue.withdrawReadings (q : NoticeQueue) : NoticeQueue :=
  { q with queue := q.queue.filter (fun n => match n.body with | .tunerReading _ _ _ => false | _ => true) }

/-! ## Posting (R204) -/

/-- R204: the destination set of a notice kind. -/
def State.destinations (s : State) (k : NoticeKind) : Destinations :=
  s.routing.getD k.code { control := false, pedalA := false, pedalB := false }

/-- R204: a destination set holds a pedal link. -/
def Destinations.pedal (d : Destinations) : Link → Bool
  | .a => d.pedalA
  | .b => d.pedalB

/-- R203: OVERFLOW is routed. -/
def State.overflowRouted (s : State) : Bool := (s.destinations .overflow).control

/-- R204: the pedal copy of a notice on one link. -/
def State.renderOn (s : State) (body : NoticeBody) (l : Link) : State :=
  let p := s.pedals.get l
  match p.identity with
  | none => s
  | some i =>
    if (s.destinations body.kind).pedal l then
      match render s l i body with
      | none => s
      | some m => s.setLink l (p.place m)
    else s

/-- R202, R204: the control copy of a notice. -/
def State.postControl (s : State) (body : NoticeBody) (tag : Byte) : State :=
  if (s.destinations body.kind).control then
    { s with notices := s.notices.post s.overflowRouted { body := body, frame := s.frameCounter, tag := tag } }
  else s

/-- R204: a notice is posted: to the notice queue, and rendered on the pedal links, as its kind is routed. -/
def State.post (s : State) (body : NoticeBody) (tag : Byte := 0) : State :=
  ((s.postControl body tag).renderOn body .a).renderOn body .b

/-! ## Replies (R200) -/

/-- What a request is answered with: the reply code and the reply fields. -/
structure Answer where
  code : ReplyCode
  fields : List Wire
deriving DecidableEq, Repr

/-- A reply with no fields. -/
def refuse (s : State) (code : ReplyCode) : State × Answer := (s, { code := code, fields := [] })

/-- A reply with fields. -/
def answer (s : State) (code : ReplyCode) (fields : List Wire) : State × Answer :=
  (s, { code := code, fields := fields })

/-- R2, R26: CLAMPED in place of OK. -/
def okOr (clamped : Bool) : ReplyCode := if clamped then .clamped else .ok

/-! ## Tags -/

/-- R201: the tag a notice carries for an optional control tag. -/
def tagByte (t : Option Byte) : Byte := t.getD 0

end Sys2Proof.Machine
end

