-- ==== Sys2Proof/Machine/SatUnit.lean ====
section
/-! DEFINITION. The Satellite unit's own state (chapter 10): resolution of logical messages (R189), the outbound queue
(R190), activations (R191), the finishing of frames (R192), bypass and the catch-up table (R195 to R197). What these mean
for the Switch Engine is in Satellite.lean. -/

namespace Sys2Proof.Machine

/-- The entry of a logical address. -/
def Satellite.entry (u : Satellite) (address : Nat) : AddressEntry :=
  u.table.getD address { physical := none, acknowledge := false }

/-- R189: the logical addresses in 0..14 that a message names and that are mapped, ascending. -/
def Satellite.targets (u : Satellite) (address : Nat) : List Nat :=
  (if address = 15 then List.range 15 else [address]).filter (fun a => (u.entry a).physical.isSome)

/-- R189: a message to one address that is unmapped raises the unmapped count. -/
def Satellite.countUnmapped (u : Satellite) (address : Nat) : Satellite :=
  if address ≠ 15 ∧ (u.entry address).physical = none then { u with unmapped := bump u.unmapped 1 } else u

/-- R189: the frame of a logical address. -/
def Satellite.frameFor (u : Satellite) (address : Nat) (payload : List Byte) (origin : SatOrigin) (mark : Bool) :
    SatFrame :=
  { physical := (u.entry address).physical.getD 0, logical := some address, payload := payload,
    acknowledge := (u.entry address).acknowledge, origin := origin, tag := none, mark := mark }

/-- R190: a queued frame that a frame to a physical address may replace. -/
def SatFrame.replaceable (f : SatFrame) (physical : Nat) : Bool := f.physical == physical && f.origin != .raw

/-- R190: the position of the newest queued frame for a physical address that is not RAW. -/
def newestFor (queue : List SatFrame) (physical : Nat) : Option Nat :=
  ((List.range queue.length).reverse).find? (fun n =>
    match queue[n]? with
    | some f => f.replaceable physical
    | none => false)

/-- R190: a frame that is not RAW is placed in the queue. -/
def Satellite.place (u : Satellite) (f : SatFrame) : Satellite :=
  if u.queue.length < Config.satQueueSize then
    { u with queue := u.queue ++ [f], activationCount := u.activationCount + f.mark.toNat }
  else
    match newestFor u.queue f.physical with
    | none => { u with dropped := bump u.dropped 1 }
    | some n =>
      { u with
        queue := u.queue.set n f,
        activationCount := u.activationCount + f.mark.toNat -
          (match u.queue[n]? with | some old => old.mark.toNat | none => 0) }

/-- R195, R196: an entry is written into the catch-up table, kept in ascending address order. -/
def putCatchUp (table : List CatchUp) (e : CatchUp) : List CatchUp :=
  match table with
  | [] => [e]
  | x :: rest =>
    if e.address < x.address then e :: x :: rest
    else if e.address = x.address then e :: rest
    else x :: putCatchUp rest e

/-- R189, R196: a logical message is handed to the unit. -/
def Satellite.hand (u : Satellite) (origin : SatOrigin) (mark : Bool) (m : SatMessage) : Satellite :=
  let u' := u.countUnmapped m.address
  match u.bypass with
  | some _ =>
    { u' with
      catchUp := (u.targets m.address).foldl
        (fun t a => putCatchUp t { address := a, payload := m.payload, origin := origin }) u'.catchUp }
  | none =>
    (u.targets m.address).foldl (fun v a => v.place (v.frameFor a m.payload origin mark)) u'

/-- A frame loses the activation mark. -/
def SatFrame.unmarked (f : SatFrame) : SatFrame := { f with mark := false }

/-- R191: the marks of the previous activation are given up. -/
def Satellite.giveUpMarks (u : Satellite) : Satellite :=
  { u with
    queue := u.queue.map SatFrame.unmarked,
    inFlight := u.inFlight.map (fun x => { x with frame := x.frame.unmarked }),
    activationCount := 0 }

/-- R191: the satellite messages of an activation. -/
def Satellite.activate (u : Satellite) (messages : List SatMessage) : Satellite :=
  messages.foldl (fun v m => v.hand .activation true m)
    { u.giveUpMarks with activation := some (match u.activation with | none => 0 | some n => n + 1) }

/-- R192: the frame in flight is finished. -/
def Satellite.finish (u : Satellite) : Satellite :=
  match u.inFlight with
  | none => u
  | some x => { u with inFlight := none, activationCount := u.activationCount - x.frame.mark.toNat }

/-- R191: the SATELLITE condition holds. -/
def Satellite.condition (u : Satellite) : Bool := decide (0 < u.activationCount)

/-- R192: the transmitter may begin a frame. -/
def Satellite.mayStart (u : Satellite) : Bool := !u.lineBusy && u.inFlight.isNone && !u.queue.isEmpty

/-- R192: the head of the queue becomes the frame in flight. -/
def Satellite.start (u : Satellite) : Satellite :=
  if u.mayStart then
    match u.queue with
    | [] => u
    | f :: rest => { u with queue := rest, inFlight := some { frame := f, wait := none, bytes := f.bytes } }
  else u

/-- R192: the last byte of the frame on the line has gone out. -/
def Satellite.sent (u : Satellite) : Satellite :=
  if u.lineBusy then { u with lineBusy := false }
  else
    match u.inFlight with
    | some { frame := f, wait := none, bytes := _ } =>
      if f.acknowledge then
        { u with inFlight := some { frame := f, wait := some (msToFrames u.ackTimeout), bytes := [] } }
      else u.finish
    | _ => u

/-- R192: the ACK wait has expired. -/
def Satellite.ackDue (u : Satellite) : Bool :=
  match u.inFlight with
  | some { frame := _, wait := some 0, bytes := _ } => true
  | _ => false

/-- R193: an ACK from a physical address finishes the frame in flight, or is stray. -/
def Satellite.ack (u : Satellite) (address : Nat) : Satellite :=
  match u.inFlight with
  | some { frame := f, wait := some _, bytes := _ } =>
    if f.physical = address then u.finish else { u with strayAcks := bump u.strayAcks 1 }
  | _ => { u with strayAcks := bump u.strayAcks 1 }

/-- R193: the lowest logical address mapped to a physical address. -/
def Satellite.logicalOf (u : Satellite) (physical : Nat) : Option Nat :=
  (List.range 15).find? (fun a => (u.entry a).physical == some physical)

/-- R195: a bypass starts with a timeout in ms. -/
def Satellite.bypassOn (u : Satellite) (timeout : Option Nat) : Satellite :=
  let moved := u.queue.filter (fun f => f.origin != .raw)
  { u with
    bypass := some { timeout := timeout, remaining := timeout.map msToFrames },
    queue := u.queue.filter (fun f => f.origin == .raw),
    catchUp := moved.foldl
      (fun t f => putCatchUp t { address := f.logical.getD 0, payload := f.payload, origin := f.origin }) u.catchUp,
    activationCount := u.activationCount - moved.countP (fun f => f.mark) }

/-- R195: a running bypass takes a new timeout. -/
def Satellite.bypassTimer (u : Satellite) (timeout : Option Nat) : Satellite :=
  { u with bypass := some { timeout := timeout, remaining := timeout.map msToFrames } }

/-- R197: one catch-up entry is replayed. -/
def Satellite.replay (u : Satellite) (e : CatchUp) : Satellite :=
  match (u.entry e.address).physical with
  | none => { u with unmapped := bump u.unmapped 1 }
  | some _ => u.place (u.frameFor e.address e.payload .catchUp false)

/-- R197: bypass ends, with the replay. -/
def Satellite.bypassEnd (u : Satellite) : Satellite :=
  match u.bypass with
  | none => u
  | some _ => { u.catchUp.foldl Satellite.replay u with catchUp := [], bypass := none }

/-- R194, R196: the inactivity timer is set back to its full length. -/
def Satellite.restartTimer (u : Satellite) : Satellite :=
  match u.bypass with
  | none => u
  | some b => { u with bypass := some { b with remaining := b.timeout.map msToFrames } }

/-- R196: the inactivity timer has run out. -/
def Satellite.bypassDue (u : Satellite) : Bool :=
  match u.bypass with
  | some { timeout := _, remaining := some 0 } => true
  | _ => false

/-- R192: the ACK wait falls by one as a frame goes by. -/
def Satellite.tick (u : Satellite) : Satellite :=
  { u with inFlight := u.inFlight.map (fun x => { x with wait := x.wait.map (fun n => n - 1) }) }

/-- R196: the inactivity timer falls by one as a frame ends. -/
def Satellite.settle (u : Satellite) : Satellite :=
  { u with bypass := u.bypass.map (fun b => { b with remaining := b.remaining.map (fun n => n - 1) }) }

/-- R187, R121: the unit after a soft reset; a frame in transmission is sent to its end (log 20). -/
def Satellite.softReset (u : Satellite) : Satellite :=
  { Satellite.reset u.table with
    lineBusy := u.lineBusy || (match u.inFlight with | some { frame := _, wait := none, bytes := _ } => true | _ => false) }

end Sys2Proof.Machine
end

