-- ==== Sys2Proof/Machine/Curves.lean ====
section
/-! DEFINITION. The requests of chapter 2: CURVE_WRITE (R46), CURVE_ERASE (R47), CURVE_READ (R48), PARAM_SET (R49) and
SLOT_SET (R50), with the SLOT_STATE notice (R51). -/

namespace Sys2Proof.Machine

/-! ## The curve table -/

/-- R42: x strictly increasing. -/
def risingX : List (Int × Int) → Bool
  | [] => true
  | [_] => true
  | p :: q :: rest => decide (p.1 < q.1) && risingX (q :: rest)

/-- R42: the shape rules of a breakpoint list. -/
def curveShapeOk (points : List (Int × Int)) : Bool :=
  decide (2 ≤ points.length) && decide (points.length ≤ 16) && risingX points &&
  (points.head?.map Prod.fst == some (-8388608)) && (points.getLast?.map Prod.fst == some 8388607) &&
  points.all (fun p => decide (-8388608 ≤ p.2) && decide (p.2 ≤ 8388607))

/-- The entry of an index. -/
def State.curveEntry (s : State) (index : Nat) : CurveEntry :=
  s.curves.getD index { name := [], points := [], refs := 0 }

/-- An entry takes a name and a list whole. -/
def State.setCurve (s : State) (index : Nat) (name : List Byte) (points : List (Int × Int)) : State :=
  { s with curves := s.curves.set index { s.curveEntry index with name := name, points := points } }

/-- R46: CURVE_WRITE. -/
def reqCurveWrite (index : Nat) (name : List Byte) (points : List (Int × Int)) (s : State) : State × Answer :=
  if 31 < index then refuse s .outOfRange
  else if !nameOk 8 name then refuse s .outOfRange
  else if index ≤ 3 then refuse s .readOnly
  else if 0 < (s.curveEntry index).refs then refuse s .inUse
  else if !curveShapeOk points then refuse s .badCurve
  else answer (s.setCurve index name points) .ok []

/-- R47: CURVE_ERASE. -/
def reqCurveErase (index : Nat) (s : State) : State × Answer :=
  if 31 < index then refuse s .outOfRange
  else if index ≤ 3 then refuse s .readOnly
  else if 0 < (s.curveEntry index).refs then refuse s .inUse
  else if (s.curveEntry index).points.isEmpty then refuse s .empty
  else answer (s.setCurve index [] []) .ok []

/-- R48: the fields of a CURVE_READ reply. -/
def curveFields (index : Nat) (e : CurveEntry) : List Wire :=
  wBytes e.name ++ [wFlag (decide (index ≤ 3)), .u 1 e.refs] ++ wList (fun p => [.s 3 p.1, .s 3 p.2]) e.points

/-- R48: CURVE_READ. -/
def reqCurveRead (index : Nat) (s : State) : State × Answer :=
  if 31 < index then refuse s .outOfRange
  else if (s.curveEntry index).points.isEmpty then answer s .empty [.u 1 (s.curveEntry index).refs]
  else answer s .ok (curveFields index (s.curveEntry index))

/-! ## Changing a playing sound -/

/-- R51: SLOT_STATE of a context. -/
def slotStateOf (b : BufferId) (c : Context) : NoticeBody :=
  .slotState b c.number (c.slots.map Slot.enabled)

/-- A slot of a context is put in place. -/
def Context.setSlot (c : Context) (position : Nat) (x : Slot) : Context :=
  { c with slots := c.slots.set position x }

/-- R49, R178: a value already clamped to the one held changes nothing; else the write of R27 and R45 is made on the
ACTIVE context. -/
def State.writeActive (s : State) (b : BufferId) (c : Context) (position : Nat) (slot : Slot) (index : Nat) (v : Int) :
    State × ParamWrite :=
  let w := slot.write true (curveHeld s.curves) index v
  if slot.clamped index v = slot.value index then
    (s, { slot := slot, clamped := w.clamped, notMade := false, moved := none })
  else
    ({ s.setContext b (c.setSlot position w.slot) with curves := applyMove s.curves w.moved }, w)

/-- R49, R178: parameter 0 of a LOOP slot. -/
def Slot.isLoopParam (slot : Slot) (index : Nat) : Bool := slot.kind == .loop && index == 0

/-- R49: PARAM_SET. -/
def reqParamSet (position index : Nat) (value : Int) (s : State) : State × Answer :=
  match s.active with
  | none => refuse s .badState
  | some (b, c) =>
    match c.slots[position]? with
    | none => refuse s .outOfRange
    | some slot =>
      if slot.kind.paramCount ≤ index then refuse s .outOfRange
      else if slot.isLoopParam index then refuse s .badState
      else
        let w := s.writeActive b c position slot index value
        if w.2.notMade then refuse s .missingCurve
        else answer w.1 (okOr w.2.clamped) [.s 2 (w.2.slot.value index)]

/-- R50: the enabled value of a slot of the ACTIVE context is set; a change posts SLOT_STATE. -/
def State.setSlotEnabled (s : State) (b : BufferId) (c : Context) (position : Nat) (slot : Slot) (enabled : Bool) : State :=
  if slot.enabled = enabled then s
  else
    let c' := c.setSlot position (slot.setEnabled true enabled)
    (s.setContext b c').post (slotStateOf b c')

/-- R50: SLOT_SET. -/
def reqSlotSet (position enabled : Nat) (s : State) : State × Answer :=
  match s.active with
  | none => refuse s .badState
  | some (b, c) =>
    match c.slots[position]?, boolOf enabled with
    | some slot, some e => answer (s.setSlotEnabled b c position slot e) .ok []
    | _, _ => refuse s .outOfRange

end Sys2Proof.Machine
end

