-- ==== Sys2Proof/Machine/Scenes.lean ====
section
/-! DEFINITION. Scene application (R88 to R90), PARAM targets (R178) and expression catch-up (R89, R180). -/

namespace Sys2Proof.Machine

/-! ## Counts and MAP_DENIED (R175, R185) -/

/-- R175: the counts of a link are changed. -/
def State.countOn (s : State) (l : Link) (f : MapCounts → MapCounts) : State :=
  { s with map := { s.map with counts := s.map.counts.set l (f (s.map.counts.get l)) } }

def State.countDenied (s : State) (l : Link) : State := s.countOn l (fun c => { c with denied := bump c.denied 1 })
def State.countUnapplied (s : State) (l : Link) : State :=
  s.countOn l (fun c => { c with unapplied := bump c.unapplied 1 })
def State.countClamped (s : State) (l : Link) : State := s.countOn l (fun c => { c with clamped := bump c.clamped 1 })

/-- R175, R185: a target outside the mask is skipped: counted and reported. -/
def State.denyTarget (s : State) (key : MapKey) (index : Nat) (t : Target) (catchUp : Bool) : State :=
  (s.countDenied key.link).post (.mapDenied key index t catchUp)

/-- R175: a target's class lies in the mask of a link. -/
def State.permits (s : State) (l : Link) (t : Target) : Bool := allowed (s.map.masks.get l) t.class

/-! ## PARAM targets (R178) -/

/-- R178: the value of a PARAM target at a pedal position. -/
def paramValue (min max : Int) (p : Nat) : Int := min + (max - min) * (p : Int) / 1023

/-- What a PARAM target came to: the clamp acted on a value written, and the change was not made for an empty curve. -/
structure ParamRun where
  clamped : Bool
  emptyCurve : Bool
deriving DecidableEq, Repr

/-- R178: a PARAM target runs for a link, at a pedal position; what finds nothing to act on is counted as unapplied. -/
def State.runParam (s : State) (l : Link) (position index : Nat) (min max : Int) (p : Nat) : State × ParamRun :=
  match s.active with
  | none => (s.countUnapplied l, { clamped := false, emptyCurve := false })
  | some (b, c) =>
    match c.slots[position]? with
    | none => (s.countUnapplied l, { clamped := false, emptyCurve := false })
    | some slot =>
      if slot.kind.paramCount ≤ index ∨ slot.isLoopParam index then
        (s.countUnapplied l, { clamped := false, emptyCurve := false })
      else
        let w := s.writeActive b c position slot index (paramValue min max p)
        if w.2.notMade then (s.countUnapplied l, { clamped := false, emptyCurve := true })
        else if w.2.clamped then (w.1.countClamped l, { clamped := true, emptyCurve := false })
        else (w.1, { clamped := false, emptyCurve := false })

/-! ## Expression catch-up (R89, R180) -/

/-- The catch-up so far: the state, the clamped mark and the count of changes not made. -/
structure CatchUpRun where
  state : State
  clamped : Bool
  notMade : Nat

/-- R180: one target of a MOVE entry, at the pedal's last position. -/
def CatchUpRun.target (r : CatchUpRun) (key : MapKey) (p : Nat) (it : Target × Nat) : CatchUpRun :=
  match it.1 with
  | .param position index min max =>
    if r.state.permits key.link it.1 then
      let w := r.state.runParam key.link position index min max p
      { state := w.1, clamped := r.clamped || w.2.clamped, notMade := r.notMade + w.2.emptyCurve.toNat }
    else { r with state := r.state.denyTarget key it.2 it.1 true }
  | _ => r

/-- R180: one entry: a MOVE entry of a pedal whose position is known. -/
def CatchUpRun.entry (r : CatchUpRun) (e : MapEntry) : CatchUpRun :=
  match e.key.source with
  | .switch _ => r
  | .expr n =>
    match (r.state.pedals.get e.key.link).positions.getD n none with
    | none => r
    | some p => e.targets.zipIdx.foldl (fun q it => q.target e.key p it) r

/-- R89: the entries of a link that is PRESENT, effective for a context's own overlay. -/
def CatchUpRun.link (overlay : List MapEntry) (r : CatchUpRun) (l : Link) : CatchUpRun :=
  match (r.state.pedals.get l).identity with
  | none => r
  | some _ => (effectiveFor overlay r.state.map.entries l).foldl CatchUpRun.entry r

/-! ## Scene application (R88, R90) -/

/-- The slots and curves while overrides are written. -/
structure OverrideRun where
  slots : List Slot
  curves : List CurveEntry
  clamped : Bool
  notMade : Nat

/-- R88 step 2: one override, as a write into the parameter. -/
def OverrideRun.write (running : Bool) (r : OverrideRun) (o : Override) : OverrideRun :=
  match r.slots[o.position]? with
  | none => r
  | some slot =>
    let w := slot.write running (curveHeld r.curves) o.index o.value
    { slots := r.slots.set o.position w.slot, curves := applyMove r.curves w.moved,
      clamped := r.clamped || w.clamped, notMade := r.notMade + w.notMade.toNat }

/-- R88 step 1: the enables of a scene. -/
def applyEnables (running : Bool) (slots : List Slot) (enables : List Bool) : List Slot :=
  slots.zipIdx.map (fun p => p.1.setEnabled running (enables.getD p.2 p.1.enabled))

/-- R88: the scene a context holds under a number. -/
def Context.scene (c : Context) (n : Nat) : Option SceneRecord := c.scenes[n]?

/-- R88 to R90: scene n is applied to the ACTIVE context c of buffer b. -/
def State.applyScene (s : State) (b : BufferId) (c : Context) (n : Nat) (rec : SceneRecord) : State :=
  let o := rec.overrides.foldl (OverrideRun.write true)
    { slots := applyEnables true c.slots rec.enables, curves := s.curves, clamped := false, notMade := 0 }
  let s1 := { s.setContext b { c with slots := o.slots } with curves := o.curves }
  let r := [Link.a, Link.b].foldl (CatchUpRun.link c.overlay)
    { state := s1, clamped := o.clamped, notMade := o.notMade }
  match (r.state.buffers.get b).context with
  | none => r.state
  | some c2 =>
    let c3 := { c2 with activeScene := some n }
    ((r.state.setContext b c3).post (slotStateOf b c3)).post
      (.sceneActive b c3.number n rec.name r.clamped r.notMade)

end Sys2Proof.Machine
end

