-- ==== Sys2Proof/Machine/Tempo.lean ====
section
/-! DEFINITION. The Tempo clock (chapter 6): the beat period (R123), tempo changes (R126), preset tempos (R127), taps
(R130, R131), the beat (R125) and the requests TEMPO_SET (R129), TEMPO_LOCK (R128) and TAP (R132). -/

namespace Sys2Proof.Machine

/-- Division rounded half up. -/
def roundDiv (a b : Nat) : Nat := (2 * a + b) / (2 * b)

/-- R123: the beat period of a tempo. -/
def beatPeriod (tempo : Nat) : Nat := roundDiv 28800000 tempo

/-- R122: the clamp of a tempo. -/
def clampTempo (tempo : Nat) : Nat := clampNat 400 3000 tempo

/-- R124: the sample time of the first sample of a frame. -/
def sampleTime (frame : Nat) : Nat := (32 * frame) % sampleModulus

/-- The first sample of the first frame that begins after this moment (R126): the frame after the open one, or, while none is
open, the frame of the counter, which has still to begin. -/
def State.nextFrameTime (s : State) : Nat := sampleTime (s.frameCounter + s.frameOpen.toNat)

/-- R130: the time of a tap taken now; after the beat of the frame that is ending has been taken, one frame later (R131,
log 3). -/
def State.tapTime (s : State) : Nat :=
  sampleTime (s.frameCounter + (s.frameOpen || s.frameEnded).toNat + s.tempo.beatTaken.toNat)

/-- R126 steps 1 and 2: a tempo, its source and its period are held. -/
def Tempo.hold (t : Tempo) (tempo : Nat) (source : TempoSource) : Tempo :=
  { t with tempo := clampTempo tempo, period := beatPeriod (clampTempo tempo), source := source }

/-- R126: a tempo change; `floor` is the first sample of the next frame. A change that leaves P unchanged leaves the next
beat. -/
def Tempo.change (t : Tempo) (floor tempo : Nat) (source : TempoSource) : Tempo :=
  let u := t.hold tempo source
  if u.period = t.period then u
  else
    let candidate := (t.lastBeat + u.period) % sampleModulus
    { u with nextBeat := if sampleBefore candidate floor then floor else candidate }

/-- R126, R127, R129: a tempo change that clears the tap list. -/
def State.changeTempo (s : State) (tempo : Nat) (source : TempoSource) : State :=
  { s with tempo := { s.tempo.change s.nextFrameTime tempo source with taps := [] } }

/-- R127: the tempo of a context at its activation. -/
def State.presetTempo (s : State) (tempo : Option Nat) : State :=
  match tempo with
  | none => s
  | some t => if s.tempo.lock then s else s.changeTempo t .preset

/-- R129: TEMPO_SET. -/
def reqTempoSet (tempo : Nat) (s : State) : State × Answer :=
  let s' := s.changeTempo tempo .host
  answer s' (okOr (clampTempo tempo != tempo)) [.u 2 s'.tempo.tempo, .u 4 s'.tempo.period, .u 5 s'.tempo.nextBeat]

/-- R128: TEMPO_LOCK. -/
def reqTempoLock (value : Nat) (s : State) : State × Answer :=
  match boolOf value with
  | none => refuse s .outOfRange
  | some v => answer { s with tempo := { s.tempo with lock := v } } .ok [wFlag v]

/-! ## Taps -/

/-- The outcomes of a tap (R130). -/
inductive TapOutcome where
  | restarted
  | discarded
  | added
deriving DecidableEq, Repr

/-- R211: the code of an outcome, in R130's order. -/
def TapOutcome.code : TapOutcome → Nat
  | .restarted => 0
  | .discarded => 1
  | .added => 2

/-- R130: the outcome of a tap at time t. -/
def tapOutcome (taps : List Nat) (t : Nat) : TapOutcome :=
  match taps.getLast? with
  | none => .restarted
  | some newest =>
    if sampleDiff t newest < 9600 then .discarded
    else if 96000 < sampleDiff t newest then .restarted
    else .added

/-- R130: the list after an ADDED tap. -/
def addTap (taps : List Nat) (t : Nat) : List Nat :=
  (taps ++ [t]).drop ((taps.length + 1) - 4)

/-- R131: the interval of a tap list of two entries or more. -/
def tapInterval (taps : List Nat) : Nat :=
  sampleDiff (taps.getLast?.getD 0) (taps.head?.getD 0) / (taps.length - 1)

/-- R130, R131: a tap at time t. -/
def Tempo.tap (c : Tempo) (t : Nat) : Tempo :=
  match tapOutcome c.taps t with
  | .restarted => { c with taps := [t] }
  | .discarded => c
  | .added =>
    let taps := addTap c.taps t
    { c.hold (roundDiv 28800000 (tapInterval taps)) .tap with taps := taps, nextBeat := t, beatCounter := 3 }

/-- R130: a tap taken now, by a request or a target. -/
def State.takeTap (s : State) : State := { s with tempo := s.tempo.tap s.tapTime }

/-- R132: TAP. -/
def reqTap (s : State) : State × Answer :=
  let t := s.takeTap.tempo
  answer s.takeTap .ok
    [.u 1 (tapOutcome s.tempo.taps s.tapTime).code, .u 1 t.taps.length, .u 2 t.tempo, .u 4 t.period, .u 1 t.source.code]

/-! ## The beat -/

/-- R125: the next beat lies in the frame of a number. -/
def Tempo.beatIn (t : Tempo) (frame : Nat) : Bool := decide (sampleDiff t.nextBeat (sampleTime frame) < 32)

/-- R125 steps 1 to 3. -/
def Tempo.beat (t : Tempo) : Tempo :=
  { t with lastBeat := t.nextBeat, beatCounter := (t.beatCounter + 1) % 4,
           nextBeat := (t.nextBeat + t.period) % sampleModulus, beatTaken := true }

/-- R134: the Tempo clock's portion of STATUS; the age of the newest tap is counted from the time a tap taken now would have,
and is absent when the list is empty (log 34). -/
def tempoFields (s : State) : List Wire :=
  let t := s.tempo
  [.u 2 t.tempo, .u 4 t.period, .u 1 t.source.code, wFlag t.lock, .u 1 t.taps.length] ++
  wOpt 5 (t.taps.getLast?.map (fun newest => sampleDiff s.tapTime newest)) ++
  [.u 1 t.beatCounter, .u 4 (t.nextBeat / 32)]

end Sys2Proof.Machine
end

