-- ==== Sys2Proof/Machine/Engine.lean ====
section
/-! DEFINITION. The Switch Engine (chapter 5): the hold-off set (R101), the rate rules (R103), the queue (R97 to R100,
R105), starts and loads (R106, R107), abandonment (R108), the way to the crossfade (R109, R110), the activation (R111),
the completion (R113), scene requests (R116) and PANIC (R117). -/

namespace Sys2Proof.Machine

/-- The engine is put in place. -/
def State.setEngine (s : State) (e : Engine) : State := { s with engine := e }

/-! ## The end of a request (R114) -/

/-- R114: SWITCH_FAILED for a request, and for its merged request after it (R100). -/
def State.failRequest (s : State) (r : SwitchRequest) (status : SwitchStatus) : State :=
  let s := s.post (.switchFailed r.source r.preset r.scene status) (tagByte r.tag)
  match r.merged with
  | none => s
  | some m => s.post (.switchFailed m.source r.preset r.scene status) (tagByte m.tag)

/-- R114: SWITCH_DONE for a request, and for its merged request after it; the preset is the request's, so that of a request for a
scene alone is none (log 33). -/
def State.doneRequest (s : State) (r : SwitchRequest) (scene : Option Nat) (status : SwitchStatus) (b : BufferId)
    (latency : Nat) (c : Context) : State :=
  let s := s.post (.switchDone r.source r.preset scene status b latency c.activationTotal c.activationMisaligned)
    (tagByte r.tag)
  match r.merged with
  | none => s
  | some m =>
    s.post (.switchDone m.source r.preset scene status b latency c.activationTotal c.activationMisaligned)
      (tagByte m.tag)

/-! ## The history (R118) -/

/-- R118: a record is made; the oldest of 16 is overwritten. -/
def State.pushHistory (s : State) (h : HistoryRecord) : State :=
  s.setEngine { s.engine with history := (h :: s.engine.history).take Config.historySize }

/-- The newest record, which is the record of the switch under way, is changed. -/
def State.editHistory (s : State) (f : HistoryRecord → HistoryRecord) : State :=
  match s.engine.history with
  | [] => s
  | h :: rest => s.setEngine { s.engine with history := f h :: rest }

/-- R118: the record of a request as it starts or is taken. -/
def SwitchRequest.record (r : SwitchRequest) (now : Nat) (activation : Option Nat) : HistoryRecord :=
  { preset := r.preset, scene := r.scene, source := r.source, status := .inProgress, arrival := r.arrival,
    start := now, activation := activation }

/-! ## Hold-offs and the rate rules (R101, R103) -/

/-- R103: a start at frame f breaks rule 1 or rule 2. -/
def Engine.rateBroken (e : Engine) (f : Nat) : Bool :=
  (match e.rateHistory.head? with
   | none => false
   | some s1 => decide (frameDiff f s1 < msToFrames e.settings.w1)) ||
  (match e.rateHistory[e.settings.k - 1]? with
   | none => false
   | some sk => decide (frameDiff f sk < msToFrames e.settings.w2))

/-- R103: the frames that remain until both rules are satisfied. -/
def Engine.rateRemaining (e : Engine) (f : Nat) : Nat :=
  max
    (match e.rateHistory.head? with
     | none => 0
     | some s1 => msToFrames e.settings.w1 - frameDiff f s1)
    (match e.rateHistory[e.settings.k - 1]? with
     | none => 0
     | some sk => msToFrames e.settings.w2 - frameDiff f sk)

/-- R101: TUNER, SATELLITE and MEASURE as their conditions and enables stand; RATE and HOST as they are. -/
def State.holdOffsNow (s : State) : HoldOffs :=
  { s.engine.holdOffs with
    tuner := s.tuner.state != .off && s.engine.settings.tunerHold,
    satellite := s.sat.condition && s.engine.settings.satHold,
    measure := s.loops.measuring.isSome }

/-- The hold-off set is put in place. -/
def State.setHoldOffs (s : State) (h : HoldOffs) : State := s.setEngine { s.engine with holdOffs := h }

/-- R101: members join and leave as their conditions change. -/
def State.syncHoldOffs (s : State) : State := s.setHoldOffs s.holdOffsNow

/-- R103: RATE is in the set while the current frame breaks a rule. -/
def State.testRate (s : State) : State :=
  s.setHoldOffs { s.engine.holdOffs with rate := s.engine.rateBroken s.frameCounter }

/-- Some member of the first set is not in the second. -/
def HoldOffs.lost (old new : HoldOffs) : Bool :=
  (old.rate && !new.rate) || (old.tuner && !new.tuner) || (old.satellite && !new.satellite) ||
  (old.measure && !new.measure) || (old.host && !new.host)

/-! ## Engine states (R93) -/

/-- R93: no switch is under way. -/
def EngineState.resting : EngineState → Bool
  | .idle => true
  | .waiting => true
  | _ => false

/-- R93: IDLE if the queue is empty and WAITING otherwise. -/
def Engine.rest (e : Engine) : Engine :=
  { e with state := if e.queue.isEmpty then .idle else .waiting, current := none, fadeFrame := 0, fadeLength := 0 }

/-- R93: a resting engine is IDLE or WAITING by its queue. -/
def Engine.settle (e : Engine) : Engine :=
  if e.state.resting then { e with state := if e.queue.isEmpty then .idle else .waiting } else e

/-- The queue is put in place. -/
def State.setQueue (s : State) (q : List SwitchRequest) : State :=
  s.setEngine ({ s.engine with queue := q } : Engine).settle

/-- R93: the pending switch exists. -/
def EngineState.pendingSwitch : EngineState → Bool
  | .loading => true
  | .armed => true
  | .cutting => true
  | _ => false

/-- R93: the pending switch. -/
def Engine.pending (e : Engine) : Option CurrentSwitch := if e.state.pendingSwitch then e.current else none

/-! ## Scene requests taken (R116) and scene changes (R106 case 1) -/

/-- R111, R116: the scene a context applies for the one requested, and whether it was missing. -/
def Context.chooseScene (c : Context) (scene : Option Nat) : Nat × Bool :=
  match scene with
  | none => (c.header.defaultScene, false)
  | some n => if (c.scene n).isSome then (n, false) else (c.header.defaultScene, true)

/-- The record of a scene number; every stored preset holds its default scene (R81). -/
def Context.sceneRecord (c : Context) (n : Nat) : SceneRecord :=
  (c.scene n).getD { name := [], enables := c.slots.map Slot.enabled, overrides := [] }

/-- R116: a scene is applied to the ACTIVE context for a request, which then ends; the current frame becomes the activation frame
of its record, also where the request was a preset start that ends so (R106 case 1, log 33). -/
def State.sceneChange (s : State) (r : SwitchRequest) (b : BufferId) (c : Context) (scene : Nat) : State :=
  let ch := c.chooseScene (some scene)
  let status : SwitchStatus := if ch.2 then .sceneMissing else .ok
  let s := (s.applyScene b c ch.1 (c.sceneRecord ch.1)).editHistory
    (fun h => { h with scene := some ch.1, status := status, activation := some s.frameCounter })
  s.doneRequest r (some ch.1) status b (frameDiff s.frameCounter r.arrival) c

/-- R116: the scene request r, already removed from the head, is taken. -/
def State.takeScene (s : State) (r : SwitchRequest) : State :=
  let s := s.pushHistory (r.record s.frameCounter (some s.frameCounter))
  match s.active with
  | none => (s.editHistory (fun h => { h with status := .badState })).failRequest r .badState
  | some (b, c) => s.sceneChange r b c (r.scene.getD 0)

/-! ## Starts (R106) -/

/-- R106: a start that fails. -/
def State.failStart (s : State) (r : SwitchRequest) (status : SwitchStatus) : State :=
  (s.editHistory (fun h => { h with status := status })).failRequest r status

/-- R44, R106: every curve an AMP or DRIVE slot of a context names holds a list. -/
def curvesHeld (curves : List CurveEntry) (c : Context) : Bool :=
  c.slots.all (fun x => match x.curve with | none => true | some n => curveHeld curves n)

/-- R52, R107: the buffer of a load. -/
def Buffer.load (c : Context) : Buffer :=
  { Buffer.free with role := .loading, loadLeft := 1 + c.slots.length, context := some c }

/-- R106 case 3: the load of a stored preset into a FREE buffer. -/
def State.startLoad (s : State) (r : SwitchRequest) (number : Nat) (p : Preset) : State :=
  match s.withRole .free with
  | [] => s.failStart r .badState
  | b :: _ =>
    let c := p.load s.loops s.selected number
    let s := { s.setBuffer b (Buffer.load c) with curves := moveRefs s.curves true c }
    if curvesHeld s.curves c then
      s.setEngine { s.engine with
        state := .loading, current := some { request := r, buffer := b, sceneApplied := none, status := .inProgress } }
    else (s.freeBuffer b).failStart r .missingCurve

/-- R103: the start is recorded; RATE joins the set if the rules are now broken. -/
def State.recordStart (s : State) : State :=
  let e := { s.engine with rateHistory := (s.frameCounter :: s.engine.rateHistory).take Config.rateHistorySize }
  s.setEngine { e with holdOffs := { e.holdOffs with rate := e.holdOffs.rate || e.rateBroken s.frameCounter } }

/-- R106: the preset equals the ACTIVE context's and the force flag is clear. -/
def State.alreadyActive (s : State) (r : SwitchRequest) (number : Nat) : Option (BufferId × Context) :=
  match s.active with
  | none => none
  | some (b, c) => if c.number = number ∧ r.force = false then some (b, c) else none

/-- R106: the preset request r, already removed from the head, is started. -/
def State.startPreset (s : State) (r : SwitchRequest) (number : Nat) : State :=
  let s := s.recordStart.pushHistory (r.record s.frameCounter none)
  match s.alreadyActive r number with
  | some (b, c) =>
    match r.scene with
    | some n => s.sceneChange r b c n
    | none => (s.editHistory (fun h => { h with status := .unchanged })).doneRequest r none .unchanged b 0 c
  | none =>
    match s.presetAt number with
    | none => s.failStart r .empty
    | some p => s.startLoad r number p

/-! ## The head test (R105) -/

/-- R105: the head of the queue may be taken. -/
def Engine.mayTake (e : Engine) (r : SwitchRequest) : Bool :=
  e.state.resting &&
  (match r.preset with
   | some _ => e.holdOffs.isEmpty
   | none => !e.holdOffs.host && !e.holdOffs.measure)

/-- R105: the request r, at the head, is taken. -/
def State.takeHead (s : State) (r : SwitchRequest) (rest : List SwitchRequest) : State :=
  let s := s.setQueue rest
  match r.preset with
  | some number => s.startPreset r number
  | none => s.takeScene r

/-- R105: heads are taken while they may be, at most n of them. -/
def State.headTestN : Nat → State → State
  | 0, s => s
  | n + 1, s =>
    match s.engine.queue with
    | [] => s
    | r :: rest => if s.engine.mayTake r then State.headTestN n (s.takeHead r rest) else s

/-- R105: the head of the queue is tested, and after each head taken the next. -/
def State.headTest (s : State) : State := State.headTestN s.engine.queue.length s

/-- R101, R105: the conditions of the blocks are looked at again; a removal tests the head. -/
def State.syncTest (s : State) : State :=
  if s.engine.holdOffs.lost s.holdOffsNow then s.syncHoldOffs.headTest else s.syncHoldOffs

/-- R93: the engine leaves a switch and tests the head. -/
def State.restEngine (s : State) : State := (s.setEngine s.engine.rest).headTest

/-! ## Merges, abandonment and placing (R97 to R100, R108) -/

/-- R100: the receiving request after a merge. -/
def SwitchRequest.merge (r new : SwitchRequest) : SwitchRequest :=
  { r with scene := new.scene, merged := some { source := new.source, tag := new.tag, arrival := new.arrival } }

/-- R100: a merged request that a new merge supersedes. -/
def State.supersedeMerged (s : State) (r : SwitchRequest) : State :=
  match r.merged with
  | none => s
  | some m => s.post (.switchFailed m.source r.preset r.scene .superseded) (tagByte m.tag)

/-- R100: a request is merged into the pending switch. -/
def State.mergePending (s : State) (cur : CurrentSwitch) (new : SwitchRequest) : State :=
  let s := (s.supersedeMerged cur.request).editHistory (fun h => { h with scene := new.scene })
  s.setEngine { s.engine with current := some { cur with request := cur.request.merge new } }

/-- R100: a request is merged into the queued request r. -/
def State.mergeQueued (s : State) (r : SwitchRequest) (rest : List SwitchRequest) (new : SwitchRequest) : State :=
  (s.supersedeMerged r).setQueue (r.merge new :: rest)

/-- R108: the pending switch is abandoned with a status: its buffer is freed and its request fails; the engine rests. -/
def State.abandonPending (s : State) (cur : CurrentSwitch) (status : SwitchStatus) : State :=
  let s := ((s.freeBuffer cur.buffer).failRequest cur.request status).editHistory
    (fun h => { h with status := status, activation := none })
  s.setEngine s.engine.rest

/-- R97, R98, R104: queued requests are removed, oldest first, and fail. -/
def State.failAll (s : State) (rs : List SwitchRequest) (status : SwitchStatus) : State :=
  rs.foldl (fun t r => t.failRequest r status) s

/-- A request is queued at the tail, and the head is tested. -/
def State.enqueue (s : State) (r : SwitchRequest) : State := (s.setQueue (s.engine.queue ++ [r])).headTest

/-- R97: a preset request arrives in COLLAPSE mode. -/
def State.collapsePreset (s : State) (r : SwitchRequest) : State :=
  let s := (s.failAll s.engine.queue .superseded).setQueue []
  match s.engine.pending with
  | none => s.enqueue r
  | some cur =>
    if cur.request.preset = r.preset then s.mergePending cur r
    else if s.engine.state = .cutting then s.enqueue r
    else (s.abandonPending cur .superseded).enqueue r

/-- R98: a scene request arrives in COLLAPSE mode. -/
def State.collapseScene (s : State) (r : SwitchRequest) : State :=
  match s.engine.queue with
  | q :: rest =>
    if q.preset.isSome then s.mergeQueued q rest r
    else
      match s.engine.pending with
      | some cur => s.mergePending cur r
      | none => ((s.failRequest q .superseded).setQueue rest).enqueue r
  | [] =>
    match s.engine.pending with
    | some cur => s.mergePending cur r
    | none => s.enqueue r

/-- R97 to R99: a request is placed by the mode in force; false when the queue is full. -/
def State.arrive (s : State) (r : SwitchRequest) : State × Bool :=
  match s.engine.settings.mode with
  | .sequence => if s.engine.queue.length < Config.switchQueueSize then (s.enqueue r, true) else (s, false)
  | .collapse => if r.preset.isSome then (s.collapsePreset r, true) else (s.collapseScene r, true)

/-- R94: a switch request that arrives now. -/
def State.newRequest (s : State) (preset scene : Option Nat) (force : Bool) (source : SwitchSource) (tag : Option Byte) :
    SwitchRequest :=
  { preset := preset, scene := scene, force := force, source := source, tag := tag, arrival := s.frameCounter,
    merged := none }

/-- R96: a switch request of a pedal target; QUEUE_FULL is reported by notice. -/
def State.pedalRequest (s : State) (l : Link) (preset scene : Option Nat) (force : Bool) : State :=
  let r := s.newRequest preset scene force (.pedal l) none
  let t := s.arrive r
  if t.2 then t.1 else s.failRequest r .queueFull

/-! ## The activation (R111) and the way to it (R107, R109, R110) -/

/-- R111 step 1: the roles change; the values of R60 that hold at the activation are kept for SWITCH_DONE. -/
def State.swapRoles (s : State) (b : BufferId) (c : Context) : State :=
  let c' := { c with activationTotal := c.lanes.total, activationMisaligned := c.lanes.misaligned }
  let outgoing := s.buffers.map (fun (x : Buffer) => if x.role = .active then { x with role := .outgoing } else x)
  { s with buffers := outgoing.set b { s.buffers.get b with role := .active, context := some c' } }

/-- R111 step 5: a context's overlay is put in force. -/
def State.forceOverlay (s : State) (b : BufferId) (c : Context) : State :=
  { s with map := { s.map with overlay := some { buffer := b, preset := c.number, entries := c.overlay } } }

/-- R111: the crossfade of the pending switch starts. -/
def State.activate (s : State) (cur : CurrentSwitch) : State :=
  match (s.buffers.get cur.buffer).context with
  | none => s
  | some c0 =>
    let s := s.swapRoles cur.buffer c0
    let ch := c0.chooseScene cur.request.scene
    let s := s.setEngine { s.engine with
      state := .crossfading, fadeFrame := 0, fadeLength := c0.header.frames,
      current := some { cur with sceneApplied := some ch.1, status := if ch.2 then .sceneMissing else .ok } }
    let s := s.editHistory (fun h => { h with activation := some s.frameCounter, scene := some ch.1 })
    match (s.buffers.get cur.buffer).context with
    | none => s
    | some c =>
      let s := s.applyScene cur.buffer c ch.1 (c.sceneRecord ch.1)
      let s := ({ s with sat := s.sat.activate c.messages } : State).syncHoldOffs
      let s := (s.presetTempo c.header.tempo).forceOverlay cur.buffer c
      s.post (.presetActive cur.buffer c.number c.header.name ch.1)

/-- R110: the engine enters CUTTING. -/
def State.enterCutting (s : State) : State := s.setEngine { s.engine with state := .cutting }

/-- R110, R115: a SPILL buffer becomes CUTTING; its cut starts at the next frame. -/
def State.startCut (s : State) (b : BufferId) : State :=
  s.setBuffer b { s.buffers.get b with role := .cutting, cutFrames := 0, rowPeak := none }

/-- R110: the engine proceeds with the pending switch. -/
def State.proceed (s : State) (cur : CurrentSwitch) : State :=
  match s.withRole .spill with
  | b :: _ => (s.startCut b).enterCutting
  | [] => if (s.withRole .cutting).isEmpty then s.activate cur else s.enterCutting

/-- R107: the load of buffer b completes. -/
def State.loadDone (s : State) (cur : CurrentSwitch) (c : Context) : State :=
  let s := s.setBuffer cur.buffer { s.buffers.get cur.buffer with role := .ready }
  match c.header.quantize with
  | .off => s.proceed cur
  | _ => s.setEngine { s.engine with state := .armed }

/-- R109, R125: a beat event (and a bar event) reaches the engine. -/
def State.engineBeat (s : State) (bar : Bool) : State :=
  match s.engine.state, s.engine.current with
  | .armed, some cur =>
    match (s.buffers.get cur.buffer).context with
    | some c => if c.header.quantize = .bar ∧ bar = false then s else s.proceed cur
    | none => s
  | _, _ => s

/-- R110: a waiting crossfade starts when no buffer is SPILL or CUTTING any more. -/
def State.resumeCutting (s : State) : State :=
  match s.engine.state, s.engine.current with
  | .cutting, some cur => s.activate cur
  | _, _ => s

/-! ## The completion (R113) -/

/-- R113 step 1: the OUTGOING buffer spills or is freed. -/
def State.endOutgoing (s : State) (b : BufferId) : State :=
  match (s.buffers.get b).context with
  | none => s.freeBuffer b
  | some c =>
    if c.header.policy = .spill ∧ 0 < c.header.spillLimit then
      s.setBuffer b { s.buffers.get b with role := .spill, spillFrames := 0, quietCount := 0, rowPeak := none }
    else s.freeBuffer b

/-- Every main output. -/
def everyOutput : PerMain Bool := allMains true

/-- R113, R117: the request whose crossfade has ended ends with SWITCH_DONE. -/
def State.endSwitch (s : State) (cur : CurrentSwitch) (status : SwitchStatus) : State :=
  match (s.buffers.get cur.buffer).context with
  | none => s
  | some c =>
    let at' := match s.engine.history.head? with | some h => h.activation.getD h.arrival | none => s.frameCounter
    (s.editHistory (fun h => { h with status := status })).doneRequest cur.request cur.sceneApplied status cur.buffer
      (frameDiff at' cur.request.arrival) c

/-- R113: the crossfade completes. -/
def State.fadeDone (s : State) (cur : CurrentSwitch) : State :=
  let s := (s.withRole .outgoing).foldl State.endOutgoing s
  let s := (s.setMute .start false everyOutput).setMute .panic false everyOutput
  (s.endSwitch cur cur.status).restEngine

/-! ## PANIC (R69, R117) -/

/-- R64: the record of a loop. -/
def LoopUnit.get (u : LoopUnit) : LoopId → LoopRecord
  | .one => u.loop1
  | .two => u.loop2

/-- The record of a loop is put in place. -/
def LoopUnit.set (u : LoopUnit) (l : LoopId) (r : LoopRecord) : LoopUnit :=
  match l with
  | .one => { u with loop1 := r }
  | .two => { u with loop2 := r }

/-- R69: the measurement in progress is aborted. -/
def LoopUnit.abort (u : LoopUnit) : LoopUnit :=
  match u.measuring with
  | none => u
  | some m => { u.set m.loop { u.get m.loop with status := .aborted } with measuring := none }

/-- R69: an abort by PANIC posts MEASURE_DONE. -/
def State.abortMeasure (s : State) : State :=
  match s.loops.measuring with
  | none => s
  | some m =>
    let s := ({ s with loops := s.loops.abort } : State).syncHoldOffs
    s.post (.measureDone m.loop .aborted (s.loops.get m.loop).latency (s.loops.get m.loop).latency) m.tag

/-- R117: the buffers of a role become FREE. -/
def State.freeRole (s : State) (r : Role) : State := (s.withRole r).foldl State.freeBuffer s

/-- R117: a pending switch or a crossfade under way ends under PANIC. -/
def State.panicSwitch (s : State) : State :=
  match s.engine.current with
  | none => s
  | some cur =>
    if s.engine.state = .crossfading then (s.freeRole .outgoing).endSwitch cur .panic
    else s.abandonPending cur .panic

/-- R117: PANIC, as one event. -/
def State.panic (s : State) : State :=
  let s := s.setMute .panic true everyOutput
  let s := (s.failAll s.engine.queue .panic).setQueue []
  let s := ((s.panicSwitch.freeRole .spill).freeRole .cutting).abortMeasure
  s.setEngine { s.engine.rest with queue := [] }

end Sys2Proof.Machine
end

