-- ==== Sys2Proof/Machine/Loops.lean ====
section
/-! DEFINITION. The Loop unit (chapter 3): recomputation (R62), the capture (R68), MEASURE_COMPLETE, and the requests
LOOP_MEASURE (R65), LOOP_SET (R70) and LOOP_READ (R71). -/

namespace Sys2Proof.Machine

/-- R62: a buffer after a change of the latency of a loop. -/
def Buffer.recompute (u : LoopUnit) (loop : LoopId) (x : Buffer) : Buffer :=
  { x with context := x.context.map (fun c => if c.usesLoop loop then c.recompute x.role.running u else c) }

/-- R62: every context that uses the loop is recomputed. -/
def State.recomputeLoop (s : State) (loop : LoopId) : State :=
  { s with buffers := s.buffers.map (Buffer.recompute s.loops loop) }

/-- R64, R62: the record of a loop is put in place; a change of latency recomputes. -/
def State.setLoop (s : State) (loop : LoopId) (r : LoopRecord) : State :=
  let t := { s with loops := s.loops.set loop r }
  if (s.loops.get loop).latency = r.latency then t else t.recomputeLoop loop

/-- R65: LOOP_MEASURE. -/
def reqLoopMeasure (tag : Byte) (loop : Nat) (s : State) : State × Answer :=
  match loopOf loop with
  | none => refuse s .outOfRange
  | some l =>
    if s.loops.measuring.isSome then refuse s .busy
    else
      answer
        ({ s with loops := { s.loops with
            measuring := some { loop := l, tag := tag, taken := 0, found := none, block := none } } } : State).syncHoldOffs
        .accepted []

/-- The unit is measuring a loop. -/
def LoopUnit.measures (u : LoopUnit) (l : LoopId) : Bool :=
  match u.measuring with
  | none => false
  | some m => m.loop == l

/-- R70: LOOP_SET. -/
def reqLoopSet (loop : Nat) (latency : Option Nat) (s : State) : State × Answer :=
  match loopOf loop with
  | none => refuse s .outOfRange
  | some l =>
    if s.loops.measures l then refuse s .busy
    else
      let v := latency.map (fun n => min 4095 n)
      answer (s.setLoop l { latency := v, status := .set }) (okOr (v != latency)) (wOpt 2 v)

/-- R71: the progress of a measurement of this loop. -/
def wProgress (u : LoopUnit) (l : LoopId) : List Wire :=
  match u.measuring with
  | none => [.u 1 0]
  | some m => if m.loop = l then [.u 1 1, .u 2 m.taken] ++ wOpt 2 m.found else [.u 1 0]

/-- R64: a loop record. -/
def wLoop (r : LoopRecord) : List Wire := wOpt 2 r.latency ++ [.u 1 r.status.code]

/-- R71: LOOP_READ. -/
def reqLoopRead (loop : Nat) (s : State) : State × Answer :=
  match loopOf loop with
  | none => refuse s .outOfRange
  | some l => answer s .ok (wLoop (s.loops.get l) ++ wProgress s.loops l)

/-! ## The capture (R68) -/

/-- R68: the samples of a capture frame are taken as it ends; the first of magnitude 83,886 or more is the index. -/
def Measurement.take (m : Measurement) : Measurement :=
  match m.block with
  | none => m
  | some xs =>
    { m with
      taken := m.taken + xs.length,
      found := match m.found with
        | some n => some n
        | none =>
          (xs.findIdx? (fun x => decide (Config.captureThreshold ≤ magnitude x))).map (fun k => m.taken + k),
      block := none }

/-- R68 over the unit, as a frame ends. -/
def LoopUnit.settle (u : LoopUnit) : LoopUnit := { u with measuring := u.measuring.map Measurement.take }

/-- R68: the last capture frame has ended. -/
def LoopUnit.captureDone (u : LoopUnit) : Bool :=
  match u.measuring with
  | none => false
  | some m => decide (Config.captureSamples ≤ m.taken)

/-- R68: what the completion makes of a record. -/
def LoopRecord.measured (r : LoopRecord) (found : Option Nat) : LoopRecord :=
  match found with
  | some n => { latency := some n, status := .ok }
  | none => { r with status := .noReturn }

/-- R68: the measurement completes: record, IDLE, recomputation, hold-off set and head test, MEASURE_DONE. -/
def State.measureDone (s : State) (m : Measurement) : State :=
  let old := s.loops.get m.loop
  let new := old.measured m.found
  let s := ({ s with loops := { s.loops with measuring := none } } : State).setLoop m.loop new
  let s := s.syncTest
  s.post (.measureDone m.loop new.status old.latency new.latency) m.tag

end Sys2Proof.Machine
end

