-- ==== Sys2Proof/Machine/Output.lean ====
section
/-! DEFINITION. The requests of the output stage (chapter 1): MUTE (R21), UNMUTE (R22) and METERS (R24), and what the
output stage does as a frame ends (R7, R8, R23). -/

namespace Sys2Proof.Machine

/-- R21: MUTE. -/
def reqMute (source outputs : Nat) (s : State) : State × Answer :=
  match muteSourceOf source, outputsOf outputs with
  | some src, some outs => answer (s.setMute src true outs) .ok []
  | _, _ => refuse s .outOfRange

/-- R22: UNMUTE. -/
def reqUnmute (source outputs : Nat) (s : State) : State × Answer :=
  match muteSourceOf source, outputsOf outputs with
  | some src, some outs => answer (s.setMute src false outs) .ok []
  | _, _ => refuse s .outOfRange

/-- R24: the part of the METERS reply about the ACTIVE context. -/
def wActiveClips : Option (BufferId × Context) → List Wire
  | none => [.u 1 0]
  | some (b, c) =>
    [.u 1 1, .u 1 b.code] ++ wList (fun (x : Slot) => [.u 2 x.clips]) c.slots ++ [.u 2 c.mergeClips]

/-- R24: the fields of the METERS reply. -/
def metersFields (s : State) : List Wire :=
  s.meters.toList.flatMap (fun m => [.u 4 m.peak, .u 2 m.clips]) ++
  s.mains.toList.flatMap (fun m => [.u 1 m.sources.mask, .u 1 m.stored]) ++
  wActiveClips s.active

/-- R24: the six peaks are set to 0. -/
def clearPeaks (s : State) : State := { s with meters := s.meters.map (fun (m : Meter) => { m with peak := 0 }) }

/-- R24: with clear clips, the output clip counters, the clip counters of the ACTIVE context and every clip-pending mark
are cleared; the counts of frames since a posting are left. -/
def clearClips (s : State) : State :=
  let s := { s with meters := s.meters.map (fun (m : Meter) => { m with clips := 0, clipMark := false }) }
  match s.active with
  | none => s
  | some (b, c) =>
    s.setContext b { c with slots := c.slots.map (fun x => { x with clips := 0 }), mergeClips := 0 }

/-- R24: METERS. -/
def reqMeters (clear : Nat) (s : State) : State × Answer :=
  match boolOf clear with
  | none => refuse s .outOfRange
  | some c =>
    answer (if c then clearClips (clearPeaks s) else clearPeaks s) .ok (metersFields s)

/-! ## As a frame ends -/

/-- R7, R8, R23: an output's counters take in the frame that ends; the count since the last posting rises. -/
def Meter.settle (m : Meter) : Meter :=
  { m with clips := bump m.clips m.freshClips, clipMark := m.clipMark || decide (0 < m.freshClips),
           clipAge := min Config.clipInterval (m.clipAge + 1), peak := max m.peak m.freshPeak,
           freshClips := 0, freshPeak := 0 }

/-- R7: the slot and merge counters of a context take in the frame that ends. -/
def Context.settle (c : Context) : Context :=
  { c with
    slots := c.slots.map (fun x => { x with clips := bump x.clips x.freshClips, freshClips := 0 }),
    mergeClips := bump c.mergeClips c.freshMergeClips, freshMergeClips := 0 }

/-- R20: the stored mute code takes a fall as the frame that falls ends. -/
def MuteStage.settle (m : MuteStage) : MuteStage := { m with stored := m.gain.code }

/-- R8: the mark and the count of an output after its CLIP posting. -/
def Meter.posted (m : Meter) : Meter := { m with clipMark := false, clipAge := 0 }

/-- R8: the CLIP notice of an output is due. -/
def Meter.clipDue (m : Meter) : Bool := m.clipMark && m.clipAge == Config.clipInterval

/-- One output's meter is put in place. -/
def setMeter (meters : PerOut Meter) (o : Out) (m : Meter) : PerOut Meter :=
  PerOut.of (fun p => if p = o then m else meters.get p)

/-- R8: CLIP for one output, if it is due. -/
def State.postClip (s : State) (o : Out) : State :=
  let m := s.meters.get o
  if m.clipDue then { s.post (.clip o m.clips) with meters := setMeter s.meters o m.posted } else s

/-- R7, R8, R20, R23: the output stage as a frame ends; CLIP notices due together are posted in the order of R7, FOH-L, FOH-R,
STAGE, MON, SEND-1, SEND-2, by the model's choice (log 30). -/
def State.settleOutputs (s : State) : State :=
  allOuts.foldl State.postClip
    { s with
      meters := s.meters.map Meter.settle,
      mains := s.mains.map MuteStage.settle,
      buffers := s.buffers.map (fun b => { b with context := b.context.map Context.settle }) }

end Sys2Proof.Machine
end

