-- ==== Sys2Proof/Machine/Parse.lean ====
section
/-! DEFINITION. Request frames (R199, R200, R210, R211): the kind byte of each request, the fields a request's payload
carries, and the parser from the bytes of a frame to the request, to UNKNOWN_KIND or to BAD_LENGTH; and the readers of the
inbound pedal and satellite frames (R154, R193, R212). -/

namespace Sys2Proof.Machine

/-- R210: the kind byte of a request. -/
def requestKind : Request → Byte
  | .mute _ _ => 0x01
  | .unmute _ _ => 0x02
  | .meters _ => 0x03
  | .curveWrite _ _ _ => 0x04
  | .curveRead _ => 0x05
  | .curveErase _ => 0x06
  | .paramSet _ _ _ => 0x07
  | .slotSet _ _ => 0x08
  | .inputSelect _ => 0x09
  | .loopMeasure _ => 0x0A
  | .loopSet _ _ => 0x0B
  | .loopRead _ => 0x0C
  | .presetBegin _ _ => 0x0D
  | .presetSlot _ _ => 0x0E
  | .presetScene _ _ => 0x0F
  | .presetMap _ _ => 0x10
  | .presetSatmsg _ _ => 0x11
  | .presetEnd => 0x12
  | .presetRead _ _ => 0x13
  | .presetErase _ => 0x14
  | .presetCopy _ _ => 0x15
  | .switch _ _ _ => 0x16
  | .scene _ => 0x17
  | .hold _ => 0x18
  | .switchSetup _ _ _ _ _ _ => 0x19
  | .panic => 0x1A
  | .history _ => 0x1B
  | .tempoSet _ => 0x1C
  | .tap => 0x1D
  | .tempoLock _ => 0x1E
  | .tuner _ => 0x1F
  | .tunerProfile _ _ _ => 0x20
  | .tunerSetup _ _ => 0x21
  | .gestureTiming _ _ _ _ => 0x22
  | .pedalStatus _ _ _ => 0x23
  | .mapWrite _ _ => 0x24
  | .mapErase _ => 0x25
  | .mapRead _ _ => 0x26
  | .permit _ _ => 0x27
  | .satAddr _ _ => 0x28
  | .satSend _ _ _ => 0x29
  | .satBypass _ _ => 0x2A
  | .satStatus _ => 0x2B
  | .ident => 0x2C
  | .status _ => 0x2D
  | .reset => 0x2E
  | .noticeRoute _ _ => 0x2F

/-! ## The fields of a request, as a host encodes them (R211) -/

def wOptS (width : Nat) : Option Int → List Wire
  | none => [.u 1 0]
  | some v => [.u 1 1, .s width v]

def wRawKey (k : RawKey) : List Wire :=
  [.u 1 k.link, .u 1 k.sourceKind, .u 1 k.number, .u 1 k.gesture] ++ if k.gesture = 4 then [.u 1 k.partner] else []

def wRawTarget : RawTarget → List Wire
  | .preset l f => [.u 1 0, .u 1 l, .u 1 f]
  | .presetStep d => [.u 1 1, .s 1 d]
  | .scene n => [.u 1 2, .u 1 n]
  | .sceneStep d => [.u 1 3, .s 1 d]
  | .slotToggle p => [.u 1 4, .u 1 p]
  | .slotSet p e => [.u 1 5, .u 1 p, .u 1 e]
  | .param p i lo hi => [.u 1 6, .u 1 p, .u 1 i, .s 2 lo, .s 2 hi]
  | .guitar c => [.u 1 7, .u 1 c]
  | .tuner c => [.u 1 8, .u 1 c]
  | .tap => [.u 1 9]
  | .satMessage a p => .u 1 10 :: .u 1 a :: wBytes p
  | .hostNotice v => [.u 1 11, .u 1 v]
  | .panic => [.u 1 12]

/-- R183, R184: either a key or an index: a selector byte, 0 for a key and 1 for an index (log 11). -/
def wSelector : EntrySelector → List Wire
  | .key k => .u 1 0 :: wRawKey k
  | .index n => [.u 1 1, .u 1 n]

def wHeaderFields (h : HeaderFields) : List Wire :=
  wBytes h.name ++ [.u 1 h.inputMode, .u 1 h.inputLevel, .u 1 h.nPre, .u 1 h.nX, .u 1 h.nY, .u 1 h.nPost,
    .u 1 h.gX, .u 1 h.gY] ++ wRow h.outputMatrix.fohL ++ wRow h.outputMatrix.fohR ++ wRow h.outputMatrix.stage ++
  wRow h.outputMatrix.mon ++ [.u 1 h.frames, .u 1 h.policy, .u 2 h.spillLimit, .u 1 h.quantize] ++ wOpt 2 h.tempo ++
  [.u 1 h.defaultScene]

/-- R211: the payload fields of a request; a slot parameter value travels as a signed number of 2 bytes (log 32). -/
def requestFields : Request → List Wire
  | .mute s o => [.u 1 s, .u 1 o]
  | .unmute s o => [.u 1 s, .u 1 o]
  | .meters c => [.u 1 c]
  | .curveWrite i n ps => .u 1 i :: wBytes n ++ wList (fun p => [.s 3 p.1, .s 3 p.2]) ps
  | .curveRead i => [.u 1 i]
  | .curveErase i => [.u 1 i]
  | .paramSet p i v => [.u 1 p, .u 1 i, .s 2 v]
  | .slotSet p e => [.u 1 p, .u 1 e]
  | .inputSelect i => [.u 1 i]
  | .loopMeasure l => [.u 1 l]
  | .loopSet l v => .u 1 l :: wOpt 2 v
  | .loopRead l => [.u 1 l]
  | .presetBegin l h => .u 1 l :: wHeaderFields h
  | .presetSlot s p => [.u 1 s.kind, .u 1 s.enabled] ++ wList (fun v => [.s 2 v]) s.values ++ wOpt 1 p
  | .presetScene s n =>
    wBytes s.name ++ wList (fun e => [.u 1 e]) s.enables ++
      wList (fun (o : Override) => [.u 1 o.position, .u 1 o.index, .s 2 o.value]) s.overrides ++ wOpt 1 n
  | .presetMap k ts => wRawKey k ++ wList wRawTarget ts
  | .presetSatmsg a p => .u 1 a :: wBytes p
  | .presetEnd => []
  | .presetRead l p => [.u 1 l, .u 1 p]
  | .presetErase l => [.u 1 l]
  | .presetCopy s d => [.u 1 s, .u 1 d]
  | .switch p s f => wOpt 1 p ++ wOpt 1 s ++ [.u 1 f]
  | .scene s => [.u 1 s]
  | .hold v => [.u 1 v]
  | .switchSetup m w1 k w2 t s => [.u 1 m, .u 2 w1, .u 1 k, .u 2 w2, .u 1 t, .u 1 s]
  | .panic => []
  | .history f => [.u 1 f]
  | .tempoSet t => [.u 2 t]
  | .tap => []
  | .tempoLock v => [.u 1 v]
  | .tuner a => [.u 1 a]
  | .tunerProfile p t os => .u 1 p :: wOptS 1 t ++ os.flatMap (wOptS 1)
  | .tunerSetup a ps => [.u 2 a, .u 1 ps.fohL, .u 1 ps.fohR, .u 1 ps.stage, .u 1 ps.mon]
  | .gestureTiming l c h d => .u 1 l :: wOpt 1 c ++ wOpt 2 h ++ wOpt 2 d
  | .pedalStatus l f c => [.u 1 l, .u 1 f, .u 1 c]
  | .mapWrite k ts => wRawKey k ++ wList wRawTarget ts
  | .mapErase e => wSelector e
  | .mapRead t e => .u 1 t :: wSelector e
  | .permit l m => .u 1 l :: wOpt 1 m
  | .satAddr w t =>
    (match w with
     | none => [.u 1 0]
     | some x => [.u 1 1, .u 1 x.logical] ++ wOpt 1 x.physical ++ [.u 1 x.acknowledge]) ++ wOpt 2 t
  | .satSend p a d => [.u 1 p, .u 1 a] ++ wBytes d
  | .satBypass v t => .u 1 v :: if v = 1 then wOpt 2 t else []
  | .satStatus c => [.u 1 c]
  | .ident => []
  | .status s => [.u 1 s]
  | .reset => []
  | .noticeRoute k d => .u 1 k :: wOpt 1 d

/-- R199, R210, R211: the bytes of the frame that carries a request, after the start byte. -/
def requestFrame (tag : Byte) (r : Request) : List Byte :=
  (controlBytes tag (requestKind r) (wireBytes (requestFields r))).drop 1

/-! ## The parser -/

/-- A reader takes what it needs from the front of the payload; none when the bytes do not suffice. -/
abbrev Reader (α : Type) := StateT (List Byte) Option α

/-- One byte. -/
def getByte : Reader Byte := fun bs =>
  match bs with
  | [] => none
  | b :: rest => some (b, rest)

/-- A number, most significant byte first. -/
def getUFrom : Nat → Nat → Reader Nat
  | 0, acc => pure acc
  | w + 1, acc => do
    let b ← getByte
    getUFrom w (acc * 256 + b.toNat)

def getU (width : Nat) : Reader Nat := getUFrom width 0

/-- A signed number in two's complement. -/
def getS (width : Nat) : Reader Int := do
  let v ← getU width
  pure (if 2 * v < 256 ^ width then (v : Int) else (v : Int) - (256 ^ width : Nat))

/-- A reader that fails: the length is not one the encoding allows. -/
def getNone {α : Type} : Reader α := fun _ => none

/-- R211: the presence byte of an optional field (log 10: a byte other than 0 and 1). -/
def getPresent : Reader Bool := do
  let b ← getByte
  if b = 0 then pure false
  else if b = 1 then pure true
  else match Config.oddPresence b with
    | some p => pure p
    | none => getNone

def getOpt {α : Type} (r : Reader α) : Reader (Option α) := do
  if (← getPresent) then do
    let v ← r
    pure (some v)
  else pure none

def getTimes {α : Type} (r : Reader α) : Nat → Reader (List α)
  | 0 => pure []
  | n + 1 => do
    let x ← r
    let xs ← getTimes r n
    pure (x :: xs)

/-- R211: a list or a string: a count byte, then the items. -/
def getList {α : Type} (r : Reader α) : Reader (List α) := do
  let n ← getU 1
  getTimes r n

def getRow : Reader MatrixRow := do
  let main ← getU 1
  let dry ← getU 1
  let aux ← getU 1
  pure { main := main, dry := dry, aux := aux }

def getHeader : Reader HeaderFields := do
  let name ← getList getByte
  let inputMode ← getU 1
  let inputLevel ← getU 1
  let nPre ← getU 1
  let nX ← getU 1
  let nY ← getU 1
  let nPost ← getU 1
  let gX ← getU 1
  let gY ← getU 1
  let fohL ← getRow
  let fohR ← getRow
  let stage ← getRow
  let mon ← getRow
  let frames ← getU 1
  let policy ← getU 1
  let spillLimit ← getU 2
  let quantize ← getU 1
  let tempo ← getOpt (getU 2)
  let defaultScene ← getU 1
  pure { name := name, inputMode := inputMode, inputLevel := inputLevel, nPre := nPre, nX := nX, nY := nY,
         nPost := nPost, gX := gX, gY := gY,
         outputMatrix := { fohL := fohL, fohR := fohR, stage := stage, mon := mon },
         frames := frames, policy := policy, spillLimit := spillLimit, quantize := quantize, tempo := tempo,
         defaultScene := defaultScene }

/-- A key: the partner byte follows the gesture COMBO alone. -/
def getKey : Reader RawKey := do
  let link ← getU 1
  let sourceKind ← getU 1
  let number ← getU 1
  let gesture ← getU 1
  if gesture = 4 then do
    let partner ← getU 1
    pure { link := link, sourceKind := sourceKind, number := number, gesture := gesture, partner := partner }
  else pure { link := link, sourceKind := sourceKind, number := number, gesture := gesture, partner := 0 }

/-- A target: its kind, then the fields of the kind; a kind byte that is none has no fields a length could be held
against (log 11). -/
def getTarget : Reader RawTarget := do
  let kind ← getU 1
  match kind with
  | 0 => do
    let l ← getU 1
    let f ← getU 1
    pure (.preset l f)
  | 1 => do
    let d ← getS 1
    pure (.presetStep d)
  | 2 => do
    let n ← getU 1
    pure (.scene n)
  | 3 => do
    let d ← getS 1
    pure (.sceneStep d)
  | 4 => do
    let p ← getU 1
    pure (.slotToggle p)
  | 5 => do
    let p ← getU 1
    let e ← getU 1
    pure (.slotSet p e)
  | 6 => do
    let p ← getU 1
    let i ← getU 1
    let lo ← getS 2
    let hi ← getS 2
    pure (.param p i lo hi)
  | 7 => do
    let c ← getU 1
    pure (.guitar c)
  | 8 => do
    let c ← getU 1
    pure (.tuner c)
  | 9 => pure .tap
  | 10 => do
    let a ← getU 1
    let p ← getList getByte
    pure (.satMessage a p)
  | 11 => do
    let v ← getU 1
    pure (.hostNotice v)
  | 12 => pure .panic
  | _ => getNone

def getSelector : Reader EntrySelector := do
  let c ← getU 1
  match c with
  | 0 => do
    let k ← getKey
    pure (.key k)
  | 1 => do
    let n ← getU 1
    pure (.index n)
  | _ => getNone

def getPoint : Reader (Int × Int) := do
  let x ← getS 3
  let y ← getS 3
  pure (x, y)

def getOverride : Reader Override := do
  let p ← getU 1
  let i ← getU 1
  let v ← getS 2
  pure { position := p, index := i, value := v }

def getAddressWrite : Reader AddressWrite := do
  let l ← getU 1
  let p ← getOpt (getU 1)
  let a ← getU 1
  pure { logical := l, physical := p, acknowledge := a }

/-- R195, R211: the timeout follows on alone; a value that is neither on nor off may be followed by one or not. -/
def getBypassTimeout (value : Nat) : Reader (Option Nat) := fun bs =>
  if value = 1 then getOpt (getU 2) bs
  else if value = 0 ∨ bs = [] then some (none, bs)
  else getOpt (getU 2) bs

/-- One field of one byte. -/
def get1 (f : Nat → Request) : Reader Request := do
  let a ← getU 1
  pure (f a)

/-- Two fields of one byte. -/
def get2 (f : Nat → Nat → Request) : Reader Request := do
  let a ← getU 1
  let b ← getU 1
  pure (f a b)

/-- Three fields of one byte. -/
def get3 (f : Nat → Nat → Nat → Request) : Reader Request := do
  let a ← getU 1
  let b ← getU 1
  let c ← getU 1
  pure (f a b c)

/-- R210, R211: the reader of a request kind's payload; none for a kind byte that is no request kind. -/
def requestReader (kind : Nat) : Option (Reader Request) :=
  match kind with
  | 0x01 => some (get2 .mute)
  | 0x02 => some (get2 .unmute)
  | 0x03 => some (get1 .meters)
  | 0x04 => some (do
      let i ← getU 1
      let n ← getList getByte
      let ps ← getList getPoint
      pure (.curveWrite i n ps))
  | 0x05 => some (get1 .curveRead)
  | 0x06 => some (get1 .curveErase)
  | 0x07 => some (do
      let p ← getU 1
      let i ← getU 1
      let v ← getS 2
      pure (.paramSet p i v))
  | 0x08 => some (get2 .slotSet)
  | 0x09 => some (get1 .inputSelect)
  | 0x0A => some (get1 .loopMeasure)
  | 0x0B => some (do
      let l ← getU 1
      let v ← getOpt (getU 2)
      pure (.loopSet l v))
  | 0x0C => some (get1 .loopRead)
  | 0x0D => some (do
      let l ← getU 1
      let h ← getHeader
      pure (.presetBegin l h))
  | 0x0E => some (do
      let k ← getU 1
      let e ← getU 1
      let vs ← getList (getS 2)
      let p ← getOpt (getU 1)
      pure (.presetSlot { kind := k, enabled := e, values := vs } p))
  | 0x0F => some (do
      let n ← getList getByte
      let es ← getList (getU 1)
      let os ← getList getOverride
      let p ← getOpt (getU 1)
      pure (.presetScene { name := n, enables := es, overrides := os } p))
  | 0x10 => some (do
      let k ← getKey
      let ts ← getList getTarget
      pure (.presetMap k ts))
  | 0x11 => some (do
      let a ← getU 1
      let p ← getList getByte
      pure (.presetSatmsg a p))
  | 0x12 => some (pure .presetEnd)
  | 0x13 => some (get2 .presetRead)
  | 0x14 => some (get1 .presetErase)
  | 0x15 => some (get2 .presetCopy)
  | 0x16 => some (do
      let p ← getOpt (getU 1)
      let s ← getOpt (getU 1)
      let f ← getU 1
      pure (.switch p s f))
  | 0x17 => some (get1 .scene)
  | 0x18 => some (get1 .hold)
  | 0x19 => some (do
      let m ← getU 1
      let w1 ← getU 2
      let k ← getU 1
      let w2 ← getU 2
      let t ← getU 1
      let s ← getU 1
      pure (.switchSetup m w1 k w2 t s))
  | 0x1A => some (pure .panic)
  | 0x1B => some (get1 .history)
  | 0x1C => some (do
      let t ← getU 2
      pure (.tempoSet t))
  | 0x1D => some (pure .tap)
  | 0x1E => some (get1 .tempoLock)
  | 0x1F => some (get1 .tuner)
  | 0x20 => some (do
      let p ← getU 1
      let t ← getOpt (getS 1)
      let os ← getTimes (getOpt (getS 1)) 12
      pure (.tunerProfile p t os))
  | 0x21 => some (do
      let a ← getU 2
      let l ← getU 1
      let r ← getU 1
      let s ← getU 1
      let m ← getU 1
      pure (.tunerSetup a { fohL := l, fohR := r, stage := s, mon := m }))
  | 0x22 => some (do
      let l ← getU 1
      let c ← getOpt (getU 1)
      let h ← getOpt (getU 2)
      let d ← getOpt (getU 2)
      pure (.gestureTiming l c h d))
  | 0x23 => some (get3 .pedalStatus)
  | 0x24 => some (do
      let k ← getKey
      let ts ← getList getTarget
      pure (.mapWrite k ts))
  | 0x25 => some (do
      let e ← getSelector
      pure (.mapErase e))
  | 0x26 => some (do
      let t ← getU 1
      let e ← getSelector
      pure (.mapRead t e))
  | 0x27 => some (do
      let l ← getU 1
      let m ← getOpt (getU 1)
      pure (.permit l m))
  | 0x28 => some (do
      let w ← getOpt getAddressWrite
      let t ← getOpt (getU 2)
      pure (.satAddr w t))
  | 0x29 => some (do
      let p ← getU 1
      let a ← getU 1
      let d ← getList getByte
      pure (.satSend p a d))
  | 0x2A => some (do
      let v ← getU 1
      let t ← getBypassTimeout v
      pure (.satBypass v t))
  | 0x2B => some (get1 .satStatus)
  | 0x2C => some (pure .ident)
  | 0x2D => some (get1 .status)
  | 0x2E => some (pure .reset)
  | 0x2F => some (do
      let k ← getU 1
      let d ← getOpt (getU 1)
      pure (.noticeRoute k d))
  | _ => none

/-- R200: what a valid frame of this kind and payload carries. -/
def parseBody (kind : Byte) (payload : List Byte) : FrameBody :=
  match requestReader kind.toNat with
  | none => .unknownKind kind
  | some r =>
    match r payload with
    | some (req, []) => .request req
    | _ => .badLength kind

/-- R199, R212: what a frame holds between its length and its checksum, the bytes from the length through the checksum being
given: none when the length byte lies outside 2..`most`, when it does not count the bytes there are, or when the checksum
fails. -/
def frameBody (most : Nat) (bytes : List Byte) : Option (List Byte) :=
  match bytes with
  | [] => none
  | length :: rest =>
    if length.toNat < 2 ∨ most < length.toNat ∨ rest.length ≠ length.toNat + 1
        ∨ bytes.foldl (fun sum b => sum + b) 0 ≠ (0 : Byte) then none
    else some rest.dropLast

/-- R199: the frame on the control line: its tag and kind, and what its payload carries. -/
def parseFrame (bytes : List Byte) : Option ControlFrame :=
  match frameBody 252 bytes with
  | some (tag :: kind :: payload) => some { tag := tag, body := parseBody kind payload }
  | _ => none

/-! ## Inbound pedal and satellite frames -/

/-- R158, R212: a SWITCH frame by its level byte: 1 down, 0 up; of another the spec does not say how it is read, and a
frame rejected is one that names no switch a controller can have (log 36). -/
def switchCommand (link : Link) (number level : Byte) : Instr :=
  match (if level = 1 then some true else if level = 0 then some false else Config.oddLevel level) with
  | some true => .switchDown link number
  | some false => .switchRelease link number
  | none => .switchDown link 255

/-- R154, R212: the command that a frame ended on the inbound line of a pedal link is, its bytes from the length through the
checksum being given; a position has its most significant byte first (log 43). -/
def pedalCommand (link : Link) (bytes : List Byte) : Instr :=
  match frameBody 22 bytes with
  | none => .pedalBadFrame link .framing
  | some body =>
    match body with
    | [0x01, switches, pedals, lines] => .pedalIdent link switches pedals lines
    | [0x02, number, level] => switchCommand link number level
    | [0x03, pedal, high, low] => .pedalExpr link pedal (high ++ low)
    | _ => .pedalBadFrame link .unknownForm

/-- R193, R212: the command that a frame ended on the inbound satellite line is; its length, kind and address are those of a
valid frame, or it is discarded. -/
def satelliteCommand (bytes : List Byte) : Instr :=
  match frameBody 18 bytes with
  | some [address, 0x02] => if address = 0 ∨ address = 255 then .satBadFrame else .satAck address
  | some (address :: 0x01 :: b :: payload) =>
    if address = 0 ∨ address = 255 then .satBadFrame else .satData address (b :: payload)
  | _ => .satBadFrame

end Sys2Proof.Machine
end

