-- ==== Sys2Proof/Machine/Library.lean ====
section
/-! DEFINITION. The preset library and the staging record (chapter 4): PRESET_BEGIN (R76), PRESET_SLOT (R77),
PRESET_SCENE (R78), PRESET_MAP (R79), PRESET_SATMSG (R80), PRESET_END (R81, R82), PRESET_READ (R83, R84), PRESET_ERASE
(R85) and PRESET_COPY (R86). -/

namespace Sys2Proof.Machine

/-- A list item is replaced at a position below the length, else appended. -/
def putAt {α : Type} (xs : List α) (n : Nat) (x : α) : List α := if n < xs.length then xs.set n x else xs ++ [x]

/-! ## The staging record -/

/-- R76: a matrix row with its codes clamped. -/
def clampRow (r : MatrixRow) : MatrixRow :=
  { main := clampNat 0 240 r.main, dry := clampNat 0 240 r.dry, aux := clampNat 0 240 r.aux }

/-- R76: the section counts are each in 0..16 and their sum in 1..16. -/
def countsOk (h : HeaderFields) : Bool :=
  decide (h.nPre ≤ 16 ∧ h.nX ≤ 16 ∧ h.nY ≤ 16 ∧ h.nPost ≤ 16 ∧
    1 ≤ h.nPre + h.nX + h.nY + h.nPost ∧ h.nPre + h.nX + h.nY + h.nPost ≤ 16)

/-- R76: the header with its numeric fields clamped, when its other fields pass their checks. -/
def headerOf (h : HeaderFields) : Option Header :=
  match inputModeOf h.inputMode, policyOf h.policy, quantizeOf h.quantize with
  | some m, some p, some q =>
    if countsOk h && decide (h.defaultScene ≤ 7) && nameOk 16 h.name then
      some { name := h.name, inputMode := m, inputLevel := clampNat 0 192 h.inputLevel, nPre := h.nPre, nX := h.nX,
             nY := h.nY, nPost := h.nPost, gX := clampNat 0 240 h.gX, gY := clampNat 0 240 h.gY,
             outputMatrix := h.outputMatrix.map clampRow, frames := clampNat 1 64 h.frames, policy := p,
             spillLimit := clampNat 0 8000 h.spillLimit, quantize := q, tempo := h.tempo.map (clampNat 400 3000),
             defaultScene := h.defaultScene }
    else none
  | _, _, _ => none

/-- R76: some numeric field was clamped. -/
def headerClamped (f : HeaderFields) (h : Header) : Bool :=
  h.inputLevel != f.inputLevel || h.gX != f.gX || h.gY != f.gY || h.outputMatrix != f.outputMatrix ||
  h.frames != f.frames || h.spillLimit != f.spillLimit || h.tempo != f.tempo

/-- R75: a staging record just opened. -/
def Staging.begin (location : Nat) (h : Header) : Staging :=
  { location := location, record := { header := h, slots := [], scenes := [], overlay := [], messages := [] } }

/-- R76: PRESET_BEGIN. -/
def reqPresetBegin (location : Nat) (fields : HeaderFields) (s : State) : State × Answer :=
  match headerOf fields with
  | none => refuse s .outOfRange
  | some h =>
    if 255 < location then refuse s .outOfRange
    else
      answer { s with staging := some (Staging.begin location h) }
        (if s.staging.isSome then .replaced else okOr (headerClamped fields h)) (wHeader h)

/-- The staging record takes a new record. -/
def State.stage (s : State) (st : Staging) (p : Preset) : State := { s with staging := some { st with record := p } }

/-- R77: the slot record carried, with its values clamped. -/
def slotRecordOf (f : SlotFields) : Option SlotRecord :=
  match slotKindOf f.kind, boolOf f.enabled with
  | some k, some e =>
    if f.values.length = k.paramCount then some { kind := k, enabled := e, values := k.clampAll f.values } else none
  | _, _ => none

/-- R77, R78: REPLACED for a replacement. -/
def placedCode (held position : Nat) (clamped : Bool) : ReplyCode :=
  if position < held then .replaced else okOr clamped

/-- R77: PRESET_SLOT. -/
def reqPresetSlot (fields : SlotFields) (position : Option Nat) (s : State) : State × Answer :=
  match s.staging with
  | none => refuse s .notOpen
  | some st =>
    let held := st.record.slots.length
    let at' := position.getD held
    if held < at' then refuse s .outOfRange
    else if at' = held ∧ 16 ≤ held then refuse s .full
    else
      match slotRecordOf fields with
      | none => refuse s .outOfRange
      | some r =>
        answer (s.stage st { st.record with slots := putAt st.record.slots at' r })
          (placedCode held at' (r.values != fields.values)) (.u 1 at' :: wList (fun v => [.s 2 v]) r.values)

/-- R78: the scene record carried. -/
def sceneRecordOf (f : SceneFields) : Option SceneRecord :=
  if nameOk 8 f.name && decide (1 ≤ f.enables.length ∧ f.enables.length ≤ 16) &&
      f.enables.all (fun e => (boolOf e).isSome) && decide (f.overrides.length ≤ 16) &&
      f.overrides.all (fun o => decide (o.position ≤ 15 ∧ o.index ≤ 7) && isInt16 o.value) then
    some { name := f.name, enables := f.enables.map (fun e => e == 1), overrides := f.overrides }
  else none

/-- R78: PRESET_SCENE. -/
def reqPresetScene (fields : SceneFields) (number : Option Nat) (s : State) : State × Answer :=
  match s.staging with
  | none => refuse s .notOpen
  | some st =>
    let held := st.record.scenes.length
    let at' := number.getD held
    if held < at' then refuse s .outOfRange
    else if at' = held ∧ 8 ≤ held then refuse s .full
    else
      match sceneRecordOf fields with
      | none => refuse s .outOfRange
      | some r =>
        answer (s.stage st { st.record with scenes := putAt st.record.scenes at' r })
          (placedCode held at' false) [.u 1 at']

/-- R79, R182: an entry replaces the one with its key, in place. -/
def replaceEntry (entries : List MapEntry) (e : MapEntry) : List MapEntry :=
  entries.map (fun x => if x.key = e.key then e else x)

/-- R79: PRESET_MAP. -/
def reqPresetMap (key : RawKey) (targets : List RawTarget) (s : State) : State × Answer :=
  match s.staging with
  | none => refuse s .notOpen
  | some st =>
    match entryOf key targets with
    | .error _ => refuse s .outOfRange
    | .ok e =>
      if st.record.overlay.any (fun x => x.key == e.key) then
        answer (s.stage st { st.record with overlay := replaceEntry st.record.overlay e }) .replaced []
      else if 16 ≤ st.record.overlay.length then refuse s .full
      else answer (s.stage st { st.record with overlay := st.record.overlay ++ [e] }) .ok []

/-- R80: PRESET_SATMSG. -/
def reqPresetSatmsg (address : Nat) (payload : List Byte) (s : State) : State × Answer :=
  match s.staging with
  | none => refuse s .notOpen
  | some st =>
    if 8 ≤ st.record.messages.length then refuse s .full
    else if 15 < address ∨ payload.length < 1 ∨ 16 < payload.length then refuse s .outOfRange
    else
      answer (s.stage st { st.record with
        messages := st.record.messages ++ [{ address := address, payload := payload }] }) .ok []

/-! ## PRESET_END (R81, R82) -/

/-- The first position of a list at which a check fails. -/
def firstBad {α : Type} (ok : α → Bool) (xs : List α) : Option Nat := xs.findIdx? (fun x => !ok x)

/-- R81 check 6: an override names a slot and parameter that exist, and not parameter 0 of a LOOP slot. -/
def overrideOk (slots : List SlotRecord) (o : Override) : Bool :=
  match slots[o.position]? with
  | none => false
  | some r => decide (o.index < r.kind.paramCount) && !(r.kind == .loop && o.index == 0)

/-- R81 check 7: the position of the second of two LOOP slots that hold the same loop number. -/
def secondLoop (slots : List SlotRecord) : Option Nat :=
  (List.range slots.length).find? (fun n =>
    match slots[n]? with
    | some r =>
      r.kind == .loop && (slots.take n).any (fun q => q.kind == .loop && q.values.getD 0 0 == r.values.getD 0 0)
    | none => false)

/-- R81 check 9: the curve a slot names holds a list. -/
def curveOk (curves : List CurveEntry) (r : SlotRecord) : Bool :=
  match r.curve with
  | none => true
  | some n => curveHeld curves n

/-- R81 check 10: every target's class lies in the mask of the entry's link. -/
def overlayOk (masks : PerLink (BitVec 8)) (e : MapEntry) : Bool :=
  e.targets.all (fun t => allowed (masks.get e.key.link) t.class)

/-- R28: the cost of a record. -/
def Preset.cost (p : Preset) : Nat := (p.slots.map (fun r => r.kind.cost)).sum

/-- R81: the checks 2 to 10, in order: the first that fails, with its part index in the numbering of R83. -/
def Preset.check (curves : List CurveEntry) (masks : PerLink (BitVec 8)) (p : Preset) : Option (ReplyCode × Nat) :=
  if p.slots.length ≠ p.header.nPre + p.header.nX + p.header.nY + p.header.nPost then some (.badState, 0)
  else if p.scenes.isEmpty then some (.badState, 0)
  else
    match firstBad (fun (c : SceneRecord) => c.enables.length == p.slots.length) p.scenes with
    | some n => some (.badState, 1 + p.slots.length + n)
    | none =>
      if p.scenes.length ≤ p.header.defaultScene then some (.outOfRange, 0)
      else
        match firstBad (fun (c : SceneRecord) => c.overrides.all (overrideOk p.slots)) p.scenes with
        | some n => some (.outOfRange, 1 + p.slots.length + n)
        | none =>
          match secondLoop p.slots with
          | some n => some (.badState, 1 + n)
          | none =>
            if Config.contextBudget < p.cost then some (.overBudget, 0)
            else
              match firstBad (curveOk curves) p.slots with
              | some n => some (.missingCurve, 1 + n)
              | none =>
                (firstBad (overlayOk masks) p.overlay).map
                  (fun n => (.denied, 1 + p.slots.length + p.scenes.length + n))

/-- The location record of a number. -/
def State.location (s : State) (n : Nat) : Location := s.library.getD n { preset := none, stores := 0 }

/-- R72: a location is written or erased, and its store count rises by one. -/
def State.setLocation (s : State) (n : Nat) (p : Option Preset) : State :=
  { s with library := s.library.set n { preset := p, stores := wrap16 ((s.location n).stores + 1) } }

/-- R81, R82: PRESET_END. -/
def reqPresetEnd (s : State) : State × Answer :=
  match s.staging with
  | none => answer s .notOpen (wOpt 1 none)
  | some st =>
    match st.record.check s.curves s.map.masks with
    | some (code, part) => answer s code (wOpt 1 (some part))
    | none =>
      let s' := { s.setLocation st.location (some st.record) with staging := none }
      answer s' .ok [.u 1 st.location, .u 2 (s'.location st.location).stores]

/-! ## Reading, erasing and copying -/

/-- R83: the part count of a record. -/
def Preset.partCount (p : Preset) : Nat :=
  1 + p.slots.length + p.scenes.length + p.overlay.length + p.messages.length

/-- A slot part (R84). -/
def wSlotPart (n : Nat) (r : SlotRecord) : List Wire :=
  [.u 1 n, .u 1 r.kind.code, wFlag r.enabled] ++ wList (fun v => [.s 2 v]) r.values

/-- A scene part (R84). -/
def wScenePart (n : Nat) (r : SceneRecord) : List Wire :=
  .u 1 n :: wBytes r.name ++ wList (fun e => [wFlag e]) r.enables ++
  wList (fun (o : Override) => [.u 1 o.position, .u 1 o.index, .s 2 o.value]) r.overrides

/-- A map entry: key and targets. -/
def wEntry (e : MapEntry) : List Wire := wKey e.key ++ wList wTarget e.targets

/-- A message part (R84). -/
def wMessage (m : SatMessage) : List Wire := .u 1 m.address :: wBytes m.payload

/-- R83, R84: the part with an index below the part count. -/
def Preset.part (p : Preset) (n : Nat) : List Wire :=
  if n = 0 then
    wHeader p.header ++ [.u 1 p.slots.length, .u 1 p.scenes.length, .u 1 p.overlay.length, .u 1 p.messages.length]
  else
    (p.slots.zipIdx.map (fun q => wSlotPart q.2 q.1) ++ p.scenes.zipIdx.map (fun q => wScenePart q.2 q.1) ++
      p.overlay.map wEntry ++ p.messages.map wMessage).getD (n - 1) []

/-- R84: PRESET_READ. -/
def reqPresetRead (location part : Nat) (s : State) : State × Answer :=
  if 255 < location then refuse s .outOfRange
  else
    match s.location location with
    | { preset := none, stores := n } => answer s .empty [.u 2 n]
    | { preset := some p, stores := n } =>
      if p.partCount ≤ part then answer s .endOfRecord [.u 1 p.partCount, .u 2 n]
      else answer s .ok ([.u 1 location, .u 1 part, .u 1 p.partCount, .u 2 n] ++ p.part part)

/-- R85: PRESET_ERASE. -/
def reqPresetErase (location : Nat) (s : State) : State × Answer :=
  if 255 < location then refuse s .outOfRange
  else if (s.location location).preset.isNone then refuse s .empty
  else answer (s.setLocation location none) .ok []

/-- R86: PRESET_COPY. -/
def reqPresetCopy (source destination : Nat) (s : State) : State × Answer :=
  if 255 < source ∨ 255 < destination then refuse s .outOfRange
  else
    match (s.location source).preset with
    | none => refuse s .empty
    | some p => answer (if destination = source then s else s.setLocation destination (some p)) .ok []

end Sys2Proof.Machine
end

