-- ==== Sys2Proof/Machine/Tuner.lean ====
section
/-! DEFINITION. The Tuner (chapter 7): engage and disengage (R136 to R138), the collection of samples (R140), the reading
of an estimate (R141 to R143), LISTENING and TRACKING (R144, R145), the change of input (R146) and the requests TUNER
(R149), TUNER_PROFILE (R150), TUNER_SETUP (R151). INPUT_SELECT (R57) is here because the Tuner reads the selection. -/

namespace Sys2Proof.Machine

/-! ## The engage set -/

/-- R138, R146: the Tuner with its window cleared and both runs set to 0. -/
def Tuner.cleared (t : Tuner) (state : TunerState) : Tuner :=
  { t with state := state, window := [], count := 0, block := none, estimateDue := false, run := [], weak := 0 }

/-- R148: TUNER_STATE is posted. -/
def State.postTunerState (s : State) : State :=
  s.post (.tunerState s.tuner.state s.tuner.engage s.selected s.tuner.last)

/-- R139: the outputs whose policy is MUTE. -/
def Tuner.mutes (t : Tuner) : PerMain Bool := t.policies.map (fun p => p == .mute)

/-- R137: an engage. -/
def State.engageTuner (s : State) : State :=
  let s := s.setMute .tuner true s.tuner.mutes
  let s := { s with tuner := s.tuner.cleared .listening }
  s.syncHoldOffs.postTunerState

/-- R138: a disengage. -/
def State.disengageTuner (s : State) : State :=
  let s := s.setMute .tuner false everyOutput
  let s := { s with tuner := { s.tuner.cleared .off with last := none }, notices := s.notices.withdrawReadings }
  s.syncTest.postTunerState

/-- R136: the engage set becomes another set. -/
def State.setEngage (s : State) (e : EngageSet) : State :=
  let old := s.tuner.engage
  if old = e then s
  else
    let s := { s with tuner := { s.tuner with engage := e } }
    if old.isEmpty then s.engageTuner else if e.isEmpty then s.disengageTuner else s.postTunerState

/-- The empty engage set. -/
def EngageSet.none : EngageSet := { host := false, pedalA := false, pedalB := false }

/-- R136: a link's member. -/
def EngageSet.has (e : EngageSet) : Link → Bool
  | .a => e.pedalA
  | .b => e.pedalB

/-- R136: a link's member is added or removed. -/
def EngageSet.put (e : EngageSet) (l : Link) (on : Bool) : EngageSet :=
  match l with
  | .a => { e with pedalA := on }
  | .b => { e with pedalB := on }

/-- R136: a TUNER target of a link. -/
def State.tunerTarget (s : State) (l : Link) (a : TunerAction) : State :=
  match a with
  | .on => s.setEngage (s.tuner.engage.put l true)
  | .off => s.setEngage (s.tuner.engage.put l false)
  | .toggle => s.setEngage (s.tuner.engage.put l (!s.tuner.engage.has l))

/-- R149: the engage set the values ON, OFF and CLEAR leave. -/
def engageFor (e : EngageSet) : Nat → Option EngageSet
  | 0 => some { e with host := true }
  | 1 => some { e with host := false }
  | 2 => some EngageSet.none
  | _ => none

/-- R149: TUNER. -/
def reqTuner (action : Nat) (s : State) : State × Answer :=
  match engageFor s.tuner.engage action with
  | none => refuse s .outOfRange
  | some e =>
    let s' := s.setEngage e
    answer s' .ok [.u 1 s'.tuner.engage.mask, .u 1 s'.tuner.state.code]

/-! ## The estimator's window (R140) -/

/-- R140: an estimate is made at this count. -/
def estimateAt (count : Nat) : Bool := decide (2048 ≤ count) && (count - 2048) % 1024 == 0

/-- R140: the collection as a frame ends. -/
def Tuner.collect (t : Tuner) : Tuner :=
  match t.block with
  | none => t
  | some xs =>
    let w := t.window ++ xs
    { t with window := w.drop (w.length - Config.tunerWindow), count := t.count + xs.length, block := none,
             estimateDue := estimateAt (t.count + xs.length) }

/-- R152: the frames until the next estimate: the frames of collection that have still to end, that in progress among them
(log 37). -/
def framesToEstimate (count : Nat) : Nat :=
  if count < 2048 then (2048 - count) / 32 else (1024 - (count - 2048) % 1024) / 32

/-! ## From frequency to note and cents (R141 to R143) -/

/-- Whether 2^e ≤ (f / a)^p, in exact integers. -/
def powLe (e : Int) (f a p : Nat) : Bool :=
  if 0 ≤ e then decide (a ^ p * 2 ^ e.toNat ≤ f ^ p) else decide (a ^ p ≤ f ^ p * 2 ^ (-e).toNat)

/-- The largest number up to n that satisfies a test (0 when none does). -/
def largest (p : Nat → Bool) : Nat → Nat
  | 0 => 0
  | n + 1 => if p (n + 1) then n + 1 else largest p n

/-- R142: 12 × log2 (f / a) rounded half up, for f in range; searched over −60..40. -/
def semitones (f a : Nat) : Int :=
  (largest (fun i => powLe (2 * ((i : Int) - 60) - 1) f a 24) 100 : Int) - 60

/-- R142, R143: 1200 × log2 (f / a) rounded to an integer, given the rounded number of semitones; the offset from 100
times that number lies in −50..50. (An exact tie would need f / a to be an irrational power of 2.) -/
def totalCents (f a : Nat) (semi : Int) : Int :=
  100 * semi - 51 +
    (largest (fun i => powLe (2 * (100 * semi - 51 + (i : Int)) - 1) f a 2400) 102 : Int)

/-- R135: the profile of an input. -/
def Tuner.profile (t : Tuner) : Input → Profile
  | .a => t.profileA
  | .b => t.profileB

/-- R142, R143: the reading of an estimate, when the frequency and the displayed note are in range. -/
def readingOf (t : Tuner) (input : Input) (frame frequency confidence : Nat) : Option Reading :=
  if frequency < 25000 ∨ 2000000 < frequency then none
  else
    let semi := semitones frequency (t.aref * 100)
    let d := 57 + semi - (t.profile input).transpose
    if d < 0 ∨ 119 < d then none
    else
      let c := totalCents frequency (t.aref * 100) semi - 100 * semi - (t.profile input).offsets.getD (d % 12).toNat 0
      some { input := input, note := d.toNat, cents := clampInt (-99) 99 c, frequency := frequency,
             confidence := confidence, frame := frame }

/-- R141: the effective confidence of an estimate. -/
def effectiveConfidence (reading : Option Reading) (confidence : Nat) : Nat :=
  match reading with
  | none => 0
  | some _ => confidence

/-! ## LISTENING and TRACKING (R144, R145) -/

/-- R144: the run holds only steady estimates: one note, and deviations no more than 10 cents apart. -/
def steady (run : List (Nat × Int)) : Bool :=
  run.all (fun p => run.all (fun q => decide (p.1 = q.1 ∧ p.2 - q.2 ≤ 10)))

/-- R144: the oldest estimates are removed until the run is steady. -/
def trimRun : List (Nat × Int) → List (Nat × Int)
  | [] => []
  | e :: rest => if steady (e :: rest) then e :: rest else trimRun rest

/-- R144: an estimate of reading r joins the run in LISTENING; at 3 the state becomes TRACKING. -/
def State.qualify (s : State) (r : Reading) : State :=
  let run := trimRun (s.tuner.run ++ [(r.note, r.cents)])
  if 3 ≤ run.length then
    let s := { s with tuner := { s.tuner with state := .tracking, weak := 0, run := [], last := some (r, .live) } }
    s.postTunerState.post (.tunerReading r .new r.confidence)
  else { s with tuner := { s.tuner with run := run } }

/-- R144: an estimate in LISTENING. -/
def State.listen (s : State) (reading : Option Reading) (confidence : Nat) : State :=
  match reading with
  | some r => if 60 ≤ confidence then s.qualify r else { s with tuner := { s.tuner with run := [] } }
  | none => { s with tuner := { s.tuner with run := [] } }

/-- R145: a weak estimate in TRACKING. -/
def State.weaken (s : State) (confidence : Nat) : State :=
  if s.tuner.weak + 1 < 4 then
    let s := { s with tuner := { s.tuner with weak := s.tuner.weak + 1 } }
    match s.tuner.last with
    | none => s
    | some (r, _) => s.post (.tunerReading r .held confidence)
  else
    ({ s with tuner := { s.tuner with state := .listening, weak := 0, run := [],
                                      last := s.tuner.last.map (fun p => (p.1, .stale)) } } : State).postTunerState

/-- R145: an estimate in TRACKING. -/
def State.track (s : State) (reading : Option Reading) (confidence : Nat) : State :=
  match reading with
  | some r =>
    if 40 ≤ confidence then
      ({ s with tuner := { s.tuner with weak := 0, last := some (r, .live) } } : State).post
        (.tunerReading r .new confidence)
    else s.weaken confidence
  | none => s.weaken confidence

/-- R140, R144, R145: an estimate that has fallen due acts. -/
def State.estimate (s : State) (frequency confidence : Nat) : State :=
  let reading := readingOf s.tuner s.selected s.frameCounter frequency confidence
  let s := { s with tuner := { s.tuner with estimateDue := false } }
  match s.tuner.state with
  | .off => s
  | .listening => s.listen reading confidence
  | .tracking => s.track reading confidence

/-! ## A change of input (R57, R59, R146) -/

/-- R146: the Tuner on a change of the selected input. -/
def State.tunerInput (s : State) : State :=
  match s.tuner.state with
  | .off => s
  | _ =>
    ({ s with tuner := { s.tuner.cleared .listening with last := none },
              notices := s.notices.withdrawReadings } : State).postTunerState

/-- R59: a LOADING or READY buffer follows the selection at once. -/
def Buffer.follow (selected : Input) (x : Buffer) : Buffer :=
  if x.role.running then x else { x with context := x.context.map (Context.followAtOnce selected) }

/-- R57: the selection takes an input. -/
def State.selectInput (s : State) (i : Input) : State :=
  if s.selected = i then s
  else ({ s with selected := i, buffers := s.buffers.map (Buffer.follow i) } : State).tunerInput

/-- R57: INPUT_SELECT. -/
def reqInputSelect (input : Nat) (s : State) : State × Answer :=
  match inputOf input with
  | none => refuse s .outOfRange
  | some i => answer (s.selectInput i) .ok []

/-! ## The settings (R147, R150, R151) -/

/-- R147: a change of the settings in force empties the qualifying run of an engaged tuner. -/
def Tuner.retuned (t : Tuner) : Tuner :=
  match t.state with
  | .off => t
  | _ => { t with run := [] }

/-- R150: all values or none. -/
def profileValues (transpose : Option Int) (offsets : List (Option Int)) : Option (Option (Int × List Int)) :=
  if offsets.length ≠ 12 then none
  else
    match transpose with
    | none => if offsets.all Option.isNone then some none else none
    | some t => if offsets.all Option.isSome then some (some (t, offsets.map (fun o => o.getD 0))) else none

/-- R150: the profile the values make, clamped. -/
def clampProfile (v : Int × List Int) : Profile :=
  { transpose := clampInt (-12) 12 v.1, offsets := v.2.map (clampInt (-20) 20) }

/-- R150: a profile is put in place. -/
def Tuner.setProfile (t : Tuner) (i : Input) (p : Profile) : Tuner :=
  match i with
  | .a => { t with profileA := p }
  | .b => { t with profileB := p }

/-- R150: a profile as a reply carries it: a fixed number of values, so by the model's choice with no count before them (log 46). -/
def wProfile (p : Profile) : List Wire := .s 1 p.transpose :: p.offsets.map (fun o => .s 1 o)

/-- R150: TUNER_PROFILE. -/
def reqTunerProfile (profile : Nat) (transpose : Option Int) (offsets : List (Option Int)) (s : State) : State × Answer :=
  match inputOf profile, profileValues transpose offsets with
  | some i, some none => answer s .ok (wProfile (s.tuner.profile i))
  | some i, some (some v) =>
    let p := clampProfile v
    let t := s.tuner.setProfile i p
    answer { s with tuner := if i = s.selected ∧ p ≠ s.tuner.profile i then t.retuned else t }
      (okOr (p.transpose != v.1 || p.offsets != v.2)) (wProfile p)
  | _, _ => refuse s .outOfRange

/-- R151: the policies carried. -/
def policiesOf (p : PerMain Nat) : Option (PerMain MutePolicy) :=
  match mutePolicyOf p.fohL, mutePolicyOf p.fohR, mutePolicyOf p.stage, mutePolicyOf p.mon with
  | some a, some b, some c, some d => some { fohL := a, fohR := b, stage := c, mon := d }
  | _, _, _, _ => none

/-- R139: the TUNER source of every output under the policies of an engaged tuner. -/
def State.applyPolicies (s : State) (old new : PerMain MutePolicy) : State :=
  let changed (p : MutePolicy) : PerMain Bool := PerMain.of (fun o => old.get o != new.get o && new.get o == p)
  match s.tuner.state with
  | .off => s
  | _ => (s.setMute .tuner true (changed .mute)).setMute .tuner false (changed .pass)

/-- R151: TUNER_SETUP. -/
def reqTunerSetup (aref : Nat) (policies : PerMain Nat) (s : State) : State × Answer :=
  match policiesOf policies with
  | none => refuse s .outOfRange
  | some p =>
    let a := clampNat 4300 4500 aref
    let s' := s.applyPolicies s.tuner.policies p
    let t := { s.tuner with aref := a, policies := p }
    answer { s' with tuner := if a = s.tuner.aref then t else t.retuned } (okOr (a != aref))
      (.u 2 a :: p.toList.map (fun x => .u 1 x.code))

/-- R152: the Tuner's portion of STATUS. -/
def tunerFields (s : State) : List Wire :=
  let t := s.tuner
  [.u 1 t.state.code, .u 1 t.engage.mask, .u 1 (inputCode s.selected), .u 4 t.count] ++
  wOpt 1 (if t.state = .off then none else some (framesToEstimate t.count)) ++
  [.u 1 t.run.length, .u 1 t.weak] ++ wLast t.last ++ [.u 2 t.aref] ++ t.policies.toList.map (fun x => .u 1 x.code) ++
  [.s 1 t.profileA.transpose, .s 1 t.profileB.transpose]

end Sys2Proof.Machine
end

