-- ==== Sys2Proof/Machine/Map.lean ====
section
/-! DEFINITION. The Control Map (chapter 9): dispatch (R175), the targets (R176 to R179) and the requests MAP_WRITE
(R182), MAP_ERASE (R183), MAP_READ (R184), PERMIT (R181), with the map's portion of STATUS (R186). -/

namespace Sys2Proof.Machine

/-! ## Switching targets (R176) -/

/-- R72: a location holds a preset. -/
def State.holdsPreset (s : State) (n : Nat) : Bool := (s.presetAt n).isSome

/-- R176: the locations PRESET_STEP looks at, in order. -/
def stepOrder (d : Direction) (from' : Option Nat) : List Nat :=
  match d, from' with
  | .up, some a => (List.range 256).map (fun k => (a + 1 + k) % 256)
  | .down, some a => (List.range 256).map (fun k => (a + 255 - k) % 256)
  | .up, none => List.range 256
  | .down, none => (List.range 256).reverse

/-- R176: the location a PRESET_STEP names. -/
def State.presetStep (s : State) (d : Direction) : Option Nat :=
  (stepOrder d (s.active.map (fun p => p.2.number))).find? s.holdsPreset

/-- R176: the scene a SCENE_STEP names. -/
def Context.sceneStep (c : Context) (d : Direction) : Nat :=
  let a := c.activeScene.getD 0
  match d with
  | .up => (a + 1) % c.scenes.length
  | .down => (a + c.scenes.length - 1) % c.scenes.length

/-! ## Slot and satellite targets (R177, R179) -/

/-- R177: SLOT_TOGGLE and SLOT_SET; `want` gives the enabled value asked for. -/
def State.slotTarget (s : State) (l : Link) (position : Nat) (want : Bool → Bool) : State :=
  match s.active with
  | none => s.countUnapplied l
  | some (b, c) =>
    match c.slots[position]? with
    | none => s.countUnapplied l
    | some slot => s.setSlotEnabled b c position slot (want slot.enabled)

/-- R179: the input a GUITAR target selects. -/
def guitarInput (choice : GuitarChoice) (selected : Input) : Input :=
  match choice, selected with
  | .select i, _ => i
  | .toggle, .a => .b
  | .toggle, .b => .a

/-- R179: SAT_MESSAGE. -/
def State.mapMessage (s : State) (address : Nat) (payload : List Byte) : State :=
  ({ s with sat := s.sat.hand .map false { address := address, payload := payload } } : State).syncTest

/-! ## Dispatch (R175) -/

/-- R176 to R179: a target of an entry that has passed the permission check; p is the position of a MOVE. -/
def State.runTarget (s : State) (key : MapKey) (p : Nat) (t : Target) : State :=
  match t with
  | .preset n force => s.pedalRequest key.link (some n) none force
  | .presetStep d =>
    match s.presetStep d with
    | none => s.countUnapplied key.link
    | some n => s.pedalRequest key.link (some n) none false
  | .scene n => s.pedalRequest key.link none (some n) false
  | .sceneStep d =>
    match s.active with
    | none => s.countUnapplied key.link
    | some (_, c) => s.pedalRequest key.link none (some (c.sceneStep d)) false
  | .slotToggle n => s.slotTarget key.link n (fun e => !e)
  | .slotSet n e => s.slotTarget key.link n (fun _ => e)
  | .param n i lo hi => (s.runParam key.link n i lo hi p).1
  | .guitar c => s.selectInput (guitarInput c s.selected)
  | .tuner a => s.tunerTarget key.link a
  | .tap => s.takeTap
  | .satMessage a d => s.mapMessage a d
  | .hostNotice v => s.post (.gesture key v)
  | .panic => s.panic

/-- R175: one target of an entry: run if its class lies in the mask, else denied. -/
def State.dispatchTarget (key : MapKey) (p : Nat) (s : State) (it : Target × Nat) : State :=
  if s.permits key.link it.1 then s.runTarget key p it.1 else s.denyTarget key it.2 it.1 false

/-- R175: an entry is dispatched: its targets in list order. -/
def State.dispatch (s : State) (e : MapEntry) (p : Nat) : State :=
  e.targets.zipIdx.foldl (State.dispatchTarget e.key p) s

/-- R174: the overlay in force, as entries. -/
def ControlMap.overlayEntries (m : ControlMap) : List MapEntry :=
  match m.overlay with
  | none => []
  | some o => o.entries

/-- R174: the effective entries of a link. -/
def ControlMap.effective (m : ControlMap) (l : Link) : List MapEntry := effectiveFor m.overlayEntries m.entries l

/-! ## Requests -/

/-- The change count rises (R172). -/
def State.setEntries (s : State) (entries : List MapEntry) : State :=
  { s with map := { s.map with entries := entries, changes := wrap16 (s.map.changes + 1) } }

/-- The index of a key in a table. -/
def indexOfKey (entries : List MapEntry) (k : MapKey) : Option Nat := entries.findIdx? (fun e => e.key == k)

/-- R182: MAP_WRITE. -/
def reqMapWrite (key : RawKey) (targets : List RawTarget) (s : State) : State × Answer :=
  match entryOf key targets with
  | .error n => answer s .outOfRange (wOpt 1 n)
  | .ok e =>
    match firstDenied (s.map.masks.get e.key.link) 0 e.targets with
    | some n => answer s .denied [.u 1 n]
    | none =>
      match indexOfKey s.map.entries e.key with
      | some n =>
        let s' := s.setEntries (replaceEntry s.map.entries e)
        answer s' .replaced [.u 1 n, .u 2 s'.map.changes]
      | none =>
        if Config.mapTableSize ≤ s.map.entries.length then refuse s .full
        else
          let s' := s.setEntries (s.map.entries ++ [e])
          answer s' .ok [.u 1 s.map.entries.length, .u 2 s'.map.changes]

/-- R183, R184: what a selector comes to in a table. -/
inductive Found where
  | outOfRange
  | notFound
  | beyond
  | entry (index : Nat) (entry : MapEntry)
deriving DecidableEq, Repr

/-- R183, R184: the entry a selector names. -/
def findEntry (entries : List MapEntry) (sel : EntrySelector) : Found :=
  match sel with
  | .index n =>
    if 95 < n then .outOfRange
    else
      match entries[n]? with
      | none => .beyond
      | some e => .entry n e
  | .key k =>
    match keyOf k with
    | none => .outOfRange
    | some k' =>
      match indexOfKey entries k' with
      | none => .notFound
      | some n =>
        match entries[n]? with
        | none => .notFound
        | some e => .entry n e

/-- R183: MAP_ERASE. -/
def reqMapErase (sel : EntrySelector) (s : State) : State × Answer :=
  match findEntry s.map.entries sel with
  | .outOfRange => refuse s .outOfRange
  | .notFound => refuse s .notFound
  | .beyond => refuse s .notFound
  | .entry n e =>
    let s' := s.setEntries (s.map.entries.eraseIdx n)
    answer s' .ok (wKey e.key ++ [.u 1 s'.map.entries.length, .u 2 s'.map.changes])

/-- R182, R184: an entry holds a target whose class lies outside its link's mask. -/
def outsideMask (masks : PerLink (BitVec 8)) (e : MapEntry) : Bool :=
  e.targets.any (fun t => !allowed (masks.get e.key.link) t.class)

/-- R184: an entry as a reply carries it. -/
def wMapEntry (masks : PerLink (BitVec 8)) (index held : Nat) (e : MapEntry) : List Wire :=
  [.u 1 index, .u 1 held] ++ wKey e.key ++ wList (fun (t : Target) => wTarget t ++ [.u 1 t.class.code]) e.targets ++
  [wFlag (outsideMask masks e)]

/-- R184: a read of a table, with what follows an entry. -/
def readTable (s : State) (entries : List MapEntry) (sel : EntrySelector) (tail : List Wire) : State × Answer :=
  match findEntry entries sel with
  | .outOfRange => refuse s .outOfRange
  | .notFound => refuse s .notFound
  | .beyond => answer s .endOfRecord [.u 1 entries.length]
  | .entry n e => answer s .ok (wMapEntry s.map.masks n entries.length e ++ tail)

/-- R184: a selector that no table could hold. -/
def selectorOk : EntrySelector → Bool
  | .index n => decide (n ≤ 95)
  | .key k => (keyOf k).isSome

/-- R184: what MAP_READ reads. -/
def mapReading (table : Nat) (sel : EntrySelector) (s : State) : State × Answer :=
  if 1 < table ∨ selectorOk sel = false then refuse s .outOfRange
  else if table = 0 then readTable s s.map.entries sel []
  else
    match s.map.overlay with
    | none => refuse s .badState
    | some o => readTable s o.entries sel [.u 1 o.buffer.code, .u 1 o.preset]

/-- R172, R184: MAP_READ: every reply carries the change count, last (log 40). -/
def reqMapRead (table : Nat) (sel : EntrySelector) (s : State) : State × Answer :=
  let r := mapReading table sel s
  answer r.1 r.2.code (r.2.fields ++ [.u 2 s.map.changes])

/-- R181: entries of a table for a link that hold a target outside the mask. -/
def outsideCount (masks : PerLink (BitVec 8)) (entries : List MapEntry) (l : Link) : Nat :=
  (entriesFor entries l).countP (outsideMask masks)

/-- R181: the reply of PERMIT. -/
def permitFields (m : ControlMap) (l : Link) : List Wire :=
  [.u 1 (m.masks.get l).toNat, .u 1 (outsideCount m.masks m.entries l),
    .u 1 (outsideCount m.masks m.overlayEntries l)]

/-- R181: a link's mask is put in place. -/
def ControlMap.setMask (m : ControlMap) (l : Link) (mask : Nat) : ControlMap :=
  { m with masks := m.masks.set l (BitVec.ofNat 8 mask) }

/-- R181: PERMIT. -/
def reqPermit (link : Nat) (mask : Option Nat) (s : State) : State × Answer :=
  match linkOf link with
  | none => refuse s .outOfRange
  | some l =>
    match mask with
    | none => answer s .ok (permitFields s.map l)
    | some v =>
      if 255 < v then refuse s .outOfRange
      else answer { s with map := s.map.setMask l v } .ok (permitFields (s.map.setMask l v) l)

/-- R186: a link in the map's portion. -/
def wMapLink (m : ControlMap) (l : Link) : List Wire :=
  let c := m.counts.get l
  [wFlag (!(entriesFor m.overlayEntries l).isEmpty), .u 1 (m.masks.get l).toNat, .u 2 c.denied, .u 2 c.unapplied,
    .u 2 c.clamped]

/-- R186: section 4 of STATUS. -/
def mapFields (s : State) : List Wire :=
  [.u 1 s.map.entries.length, .u 2 s.map.changes] ++
  (match s.map.overlay with
   | none => [.u 1 0]
   | some o => [.u 1 1, .u 1 o.buffer.code, .u 1 o.preset]) ++
  wMapLink s.map .a ++ wMapLink s.map .b

end Sys2Proof.Machine
end

