-- ==== Sys2Proof/Machine/Pedals.lean ====
section
/-! DEFINITION. The pedal link units (chapter 8): presence (R154 to R156), expression (R157), gestures (R158 to R165), the
display line (R166, R169) and the requests GESTURE_TIMING (R170) and PEDAL_STATUS (R171). -/

namespace Sys2Proof.Machine

/-! ## Frames on the link (R154) -/

/-- R154: a valid frame sets the silence count to 0. -/
def PedalLink.hear (p : PedalLink) : PedalLink := { p with silence := 0, heard := true }

/-- R154: a rejected frame is counted. -/
def PedalLink.reject (p : PedalLink) : PedalLink := { p with rejected := bump p.rejected 1 }

/-- R154: a framing error is counted. -/
def PedalLink.framing (p : PedalLink) : PedalLink := { p with framingErrors := bump p.framingErrors 1 }

/-- A link unit is changed. -/
def State.onLink (s : State) (l : Link) (f : PedalLink → PedalLink) : State := s.setLink l (f (s.pedals.get l))

/-- R154: a frame discarded, by its cause; a SWITCH or EXPR frame on an ABSENT link is valid, so it is heard (log 25). -/
def PedalLink.badFrame (p : PedalLink) : PedalFault → PedalLink
  | .framing => p.framing
  | .unknownForm => p.reject
  | .noPresence => if p.identity.isNone then p.hear.reject else p

/-! ## Switch records -/

/-- The record of a switch. -/
def PedalLink.switch (p : PedalLink) (n : Nat) : SwitchRecord := p.switches.getD n SwitchRecord.reset

/-- The record of a switch is put in place. -/
def PedalLink.setSwitch (p : PedalLink) (n : Nat) (r : SwitchRecord) : PedalLink :=
  { p with switches := p.switches.set n r }

/-- On the state. -/
def State.switchAt (s : State) (l : Link) (n : Nat) : SwitchRecord := (s.pedals.get l).switch n

def State.setSwitch (s : State) (l : Link) (n : Nat) (r : SwitchRecord) : State :=
  s.onLink l (fun p => p.setSwitch n r)

/-- R156, R164: a switch that is UP and up, with its snapshot discarded. -/
def SwitchRecord.up (r : SwitchRecord) : SwitchRecord :=
  { r with state := .up, isDown := false, snapshot := none, hold := none, window := none }

/-- The entries of a snapshot. -/
def SwitchRecord.entries (r : SwitchRecord) : List MapEntry := r.snapshot.getD []

/-! ## Snapshots (R158) and firing (R160) -/

/-- R158: an entry bears on a switch: keyed on it, or a COMBO whose partner it is. -/
def bearsOn (n : Nat) (e : MapEntry) : Bool :=
  e.key.source == .switch n || e.key.gesture == .combo n

/-- R158: the snapshot a down event takes. -/
def State.snapshotOf (s : State) (l : Link) (n : Nat) : List MapEntry := (s.map.effective l).filter (bearsOn n)

/-- R160: the entry of a snapshot keyed on a switch with a gesture. -/
def entryFor (snapshot : List MapEntry) (n : Nat) (g : Gesture) : Option MapEntry :=
  snapshot.find? (fun e => e.key.source == .switch n && e.key.gesture == g)

/-- R160: a gesture of a switch fires against a snapshot. -/
def State.fire (s : State) (snapshot : List MapEntry) (n : Nat) (g : Gesture) : State :=
  match entryFor snapshot n g with
  | none => s
  | some e => s.dispatch e 0

/-- The snapshot holds an entry of a gesture for this switch. -/
def hasEntry (snapshot : List MapEntry) (n : Nat) (g : Gesture) : Bool := (entryFor snapshot n g).isSome

/-- R162: the snapshot holds a COMBO entry of either form that names this switch. -/
def hasCombo (snapshot : List MapEntry) : Bool :=
  snapshot.any (fun e => match e.key.gesture with | .combo _ => true | _ => false)

/-! ## DOWN (R161) -/

/-- R161: switch n enters DOWN. -/
def State.enterDown (s : State) (l : Link) (n : Nat) : State :=
  let r := s.switchAt l n
  let snap := r.entries
  if hasEntry snap n .hold then s.setSwitch l n { r with state := .down, window := none }
  else if hasEntry snap n .double then
    s.setSwitch l n { r with state := .doubleWait, window := some (msToFrames (s.pedals.get l).doubleMs) }
  else (s.setSwitch l n { r with state := .down, window := none }).fire snap n .press

/-! ## The down event (R162, R165) -/

/-- R162: switch t waits for a combination with switch n under n's snapshot. -/
def pairedWith (snapshot : List MapEntry) (n t : Nat) : Bool :=
  hasEntry snapshot n (.combo t) || hasEntry snapshot t (.combo n)

/-- R162: the switches in COMBO_WAIT that are paired with n. -/
def PedalLink.partners (p : PedalLink) (snapshot : List MapEntry) (n : Nat) : List Nat :=
  (List.range p.switches.length).filter
    (fun t => t != n && (p.switch t).state == .comboWait && pairedWith snapshot n t)

/-- R162: of the switches waiting, the one whose down event came earliest. -/
def PedalLink.earliest (p : PedalLink) (ts : List Nat) : Option Nat :=
  ts.foldl (fun best t =>
    match best with
    | none => some t
    | some b => if (p.switch t).order < (p.switch b).order then some t else some b) none

/-- R162: the entry a COMBO fires with. -/
def comboEntry (snapshot : List MapEntry) (n t : Nat) : Option MapEntry :=
  match entryFor snapshot n (.combo t) with
  | some e => some e
  | none => entryFor snapshot t (.combo n)

/-- R162: a switch becomes CONSUMED, its waits cancelled. -/
def SwitchRecord.consume (r : SwitchRecord) : SwitchRecord :=
  { r with state := .consumed, hold := none, window := none }

/-- R162: switch n, with its snapshot taken, and t fire a COMBO. -/
def State.fireCombo (s : State) (l : Link) (n t : Nat) (snap : List MapEntry) : State :=
  let s := s.onLink l (fun p =>
    (p.setSwitch n { (p.switch n).consume with isDown := true }).setSwitch t (p.switch t).consume)
  match comboEntry snap n t with
  | none => s
  | some e => s.dispatch e 0

/-- R162: switch n begins to wait for a combination. -/
def PedalLink.comboWait (p : PedalLink) (n : Nat) : PedalLink :=
  let q := p.setSwitch n { p.switch n with state := .comboWait, window := some (msToFrames p.comboMs), order := p.downs }
  { q with downs := p.downs + 1 }

/-- R158, R162: the record of a switch as its down event begins: snapshot and hold timer. -/
def PedalLink.stamp (p : PedalLink) (n : Nat) (snap : List MapEntry) : PedalLink :=
  p.setSwitch n { p.switch n with
    isDown := true, snapshot := some snap, window := none,
    hold := if hasEntry snap n .hold then some (msToFrames p.holdMs) else none }

/-- R162: a down event of a switch in UP. -/
def State.downFromUp (s : State) (l : Link) (n : Nat) : State :=
  let snap := s.snapshotOf l n
  let s := s.onLink l (fun p => p.stamp n snap)
  match (s.pedals.get l).earliest ((s.pedals.get l).partners snap n) with
  | some t => s.fireCombo l n t snap
  | none => if hasCombo snap then s.onLink l (fun p => p.comboWait n) else s.enterDown l n

/-- R158, R162, R165: a down frame of switch n below the switch count. -/
def State.takeDown (s : State) (l : Link) (n : Nat) : State :=
  let r := s.switchAt l n
  if r.isDown then s
  else
    match r.state with
    | .doubleWait => (s.setSwitch l n { r.consume with isDown := true }).fire r.entries n .double
    | _ => s.downFromUp l n

/-! ## The release event (R164) -/

/-- R164: the row of the table for the state of switch n, outside COMBO_WAIT. -/
def State.releaseRow (s : State) (l : Link) (n : Nat) : State :=
  let r := s.switchAt l n
  let snap := r.entries
  match r.state with
  | .down =>
    if hasEntry snap n .hold then
      if hasEntry snap n .double then
        let wait := msToFrames (s.pedals.get l).doubleMs
        (s.setSwitch l n { r with state := .doubleWait, isDown := false, hold := none, window := some wait }).fire
          snap n .release
      else (((s.setSwitch l n r.up).fire snap n .press).fire snap n .release)
    else (s.setSwitch l n r.up).fire snap n .release
  | .held => (s.setSwitch l n r.up).fire snap n .release
  | .doubleWait => (s.setSwitch l n { r with isDown := false }).fire snap n .release
  | .consumed => s.setSwitch l n r.up
  | _ => s.setSwitch l n r.up

/-- R164: an up frame of switch n below the switch count. -/
def State.takeUp (s : State) (l : Link) (n : Nat) : State :=
  let r := s.switchAt l n
  if r.isDown then
    match r.state with
    | .comboWait => (s.enterDown l n).releaseRow l n
    | _ => s.releaseRow l n
  else s

/-! ## The waits (R161, R163, R165) -/

/-- R162: the combo window of switch n expires. -/
def State.comboExpiry (s : State) (l : Link) (n : Nat) : State := s.enterDown l n

/-- R163: the hold timer of switch n expires. -/
def State.holdExpiry (s : State) (l : Link) (n : Nat) : State :=
  let r := s.switchAt l n
  (s.setSwitch l n { r with state := .held, hold := none }).fire r.entries n .hold

/-- R165: the double window of switch n expires. -/
def State.doubleExpiry (s : State) (l : Link) (n : Nat) : State :=
  let r := s.switchAt l n
  (s.setSwitch l n (if r.isDown then { r with state := .down, window := none } else r.up)).fire r.entries n .press

/-- R159: a wait has run out in a state. -/
def SwitchRecord.windowDue (r : SwitchRecord) (state : GestureState) : Bool :=
  r.state == state && r.window == some 0

/-- R159: the hold timer has run out in DOWN. -/
def SwitchRecord.holdDue (r : SwitchRecord) : Bool := r.state == .down && r.hold == some 0

/-- R159: the waits of a switch fall by one as a frame goes by. -/
def SwitchRecord.tick (r : SwitchRecord) : SwitchRecord :=
  { r with hold := r.hold.map (fun n => n - 1), window := r.window.map (fun n => n - 1) }

/-- R159 over a link. -/
def PedalLink.tick (p : PedalLink) : PedalLink := { p with switches := p.switches.map SwitchRecord.tick }

/-- R156: the silence count as a frame ends. -/
def PedalLink.settle (p : PedalLink) : PedalLink :=
  { p with
    heard := false,
    silence := if p.identity.isSome && !p.heard then min Config.silenceFrames (p.silence + 1) else p.silence }

/-- R156: the silence count of a PRESENT link has reached its end. -/
def PedalLink.silent (p : PedalLink) : Bool := p.identity.isSome && p.silence == Config.silenceFrames

/-! ## Presence (R155, R156, R169) -/

/-- R156: the link becomes ABSENT, for a cause. -/
def State.linkLost (s : State) (l : Link) (i : Identity) (cause : LinkCause) : State :=
  let s := s.onLink l (fun p =>
    { p with switches := p.switches.map SwitchRecord.up, display := [], identity := none })
  (s.setEngage (s.tuner.engage.put l false)).post (.linkState l false i cause)

/-- R169: the messages of a refresh about the ACTIVE context. -/
def State.refreshContext (s : State) (l : Link) (i : Identity) : List DisplayMsg :=
  match s.active with
  | none => []
  | some (b, c) =>
    (if (s.destinations .presetActive).pedal l then [presetText c.number c.header.name] else []) ++
    (match c.activeScene with
     | some n =>
       if (s.destinations .sceneActive).pedal l then [sceneText i.lines c.number n (c.sceneRecord n).name] else []
     | none => []) ++
    (if (s.destinations .slotState).pedal l then [ledsOf s l b (c.slots.map Slot.enabled) i.switches] else [])

/-- R169: the TUNER_VIEW of a refresh. -/
def State.refreshTuner (s : State) (l : Link) : List DisplayMsg :=
  if (s.destinations .tunerState).pedal l || (s.destinations .tunerReading).pedal l then
    [tunerStateView s.tuner.state s.tuner.last]
  else []

/-- R155: expression positions at or above the pedal count become none. -/
def keepPositions (positions : List (Option Nat)) (pedals : Nat) : List (Option Nat) :=
  positions.zipIdx.map (fun p => if p.2 < pedals then p.1 else none)

/-- R155: the link becomes PRESENT with an identity. -/
def State.linkFound (s : State) (l : Link) (i : Identity) : State :=
  let s := s.onLink l (fun p =>
    { p with identity := some i, switches := p.switches.map SwitchRecord.up,
             positions := keepPositions p.positions i.pedals })
  let s := s.post (.linkState l true i .ident)
  s.onLink l (fun p => p.placeAll (s.refreshContext l i ++ s.refreshTuner l))

/-- R155: the identity a frame carries, when it is acceptable. -/
def identityOf (switches pedals lines : Byte) : Option Identity :=
  if switches.toNat < 1 ∨ 32 < switches.toNat ∨ 4 < pedals.toNat ∨ 2 < lines.toNat then none
  else some { switches := switches.toNat, pedals := pedals.toNat, lines := lines.toNat }

/-- R155: an IDENT frame. -/
def State.takeIdent (s : State) (l : Link) (switches pedals lines : Byte) : State :=
  let s := s.onLink l PedalLink.hear
  match identityOf switches pedals lines with
  | none => s.onLink l PedalLink.reject
  | some i =>
    match (s.pedals.get l).identity with
    | none => s.linkFound l i
    | some old => if old = i then s else (s.linkLost l old .changed).linkFound l i

/-- R154, R158: a SWITCH frame: heard, and rejected on an ABSENT link or for a number at or above the switch count. -/
def State.takeSwitch (s : State) (l : Link) (number : Byte) (isDown : Bool) : State :=
  let s := s.onLink l PedalLink.hear
  match (s.pedals.get l).identity with
  | none => s.onLink l PedalLink.reject
  | some i =>
    if i.switches ≤ number.toNat then s.onLink l PedalLink.reject
    else if isDown then s.takeDown l number.toNat else s.takeUp l number.toNat

/-! ## Expression (R157) -/

/-- R157: the MOVE entries of a pedal among the effective entries. -/
def moveEntries (entries : List MapEntry) (pedal : Nat) : List MapEntry :=
  entries.filter (fun e => e.key.source == .expr pedal && e.key.gesture == .move)

/-- R157: a new position is held and its MOVE dispatched. -/
def State.takeMove (s : State) (l : Link) (pedal position : Nat) : State :=
  let s := s.onLink l (fun p => { p with positions := p.positions.set pedal (some position) })
  (moveEntries (s.map.effective l) pedal).foldl (fun t e => t.dispatch e position) s

/-- R157: an EXPR frame. -/
def State.takeExpr (s : State) (l : Link) (pedal : Byte) (position : BitVec 16) : State :=
  let s := s.onLink l PedalLink.hear
  match (s.pedals.get l).identity with
  | none => s.onLink l PedalLink.reject
  | some i =>
    if i.pedals ≤ pedal.toNat then s.onLink l PedalLink.reject
    else
      let v := min 1023 position.toNat
      if (s.pedals.get l).positions.getD pedal.toNat none = some v then s else s.takeMove l pedal.toNat v

/-! ## The display line (R166) -/

/-- R166: with the line free, the head message leaves the queue. -/
def PedalLink.displayStart (p : PedalLink) : PedalLink :=
  match p.displayTx, p.display with
  | none, m :: rest => { p with display := rest, displayTx := some { message := m, bytes := m.bytes } }
  | _, _ => p

/-- R166: the message has gone out and the line is free. -/
def PedalLink.displayEnd (p : PedalLink) : PedalLink := { p with displayTx := none }

/-! ## Requests -/

/-- R170: the three settings of a link. -/
def wTimings (p : PedalLink) : List Wire := [.u 1 p.comboMs, .u 2 p.holdMs, .u 2 p.doubleMs]

/-- R170: GESTURE_TIMING. -/
def reqGestureTiming (link : Nat) (combo holdTime double : Option Nat) (s : State) : State × Answer :=
  match linkOf link, combo, holdTime, double with
  | some l, none, none, none => answer s .ok (wTimings (s.pedals.get l))
  | some l, some c, some h, some d =>
    let p := { s.pedals.get l with
      comboMs := clampNat 10 200 c, holdMs := clampNat 300 2000 h, doubleMs := clampNat 100 500 d }
    answer (s.setLink l p) (okOr (p.comboMs != c || p.holdMs != h || p.doubleMs != d)) (wTimings p)
  | _, _, _, _ => refuse s .outOfRange

/-- R171: a switch in the reply; the frames remaining on a wait are those that follow the frame under way (log 37). -/
def wSwitch (n : Nat) (r : SwitchRecord) : List Wire :=
  [.u 1 n, .u 1 r.state.code, wFlag r.isDown] ++ wOpt 2 r.hold ++ wOpt 2 r.window

/-- R171: the presence and identity of a link, which share one presence byte: an identity is held exactly while PRESENT
(log 38). -/
def wPresence : Option Identity → List Wire
  | none => [.u 1 0]
  | some i => .u 1 1 :: wIdentity i

/-- R171: the numbers of the switches in the reply. -/
def switchNumbers (p : PedalLink) (first : Nat) : List Nat :=
  match p.identity with
  | none => []
  | some i => ((List.range i.switches).drop first).take 16

/-- R171: the pedals in the reply. -/
def pedalNumbers (p : PedalLink) : List Nat :=
  match p.identity with
  | none => List.range 4
  | some i => List.range i.pedals

/-- R171: the fields of a PEDAL_STATUS reply. -/
def pedalFields (p : PedalLink) (first : Nat) : List Wire :=
  wPresence p.identity ++ [.u 2 p.silence] ++ wList (fun n => wSwitch n (p.switch n)) (switchNumbers p first) ++
  wList (fun n => wOpt 2 (p.positions.getD n none)) (pedalNumbers p) ++ wTimings p ++
  [.u 1 p.display.length, .u 2 p.framingErrors, .u 2 p.rejected]

/-- R171: PEDAL_STATUS. -/
def reqPedalStatus (link first clear : Nat) (s : State) : State × Answer :=
  match linkOf link, boolOf clear with
  | some l, some c =>
    if 31 < first then refuse s .outOfRange
    else
      answer (if c then s.onLink l (fun p => { p with framingErrors := 0, rejected := 0 }) else s) .ok
        (pedalFields (s.pedals.get l) first)
  | _, _ => refuse s .outOfRange

end Sys2Proof.Machine
end

