-- ==== Sys2Proof/Machine/Satellite.lean ====
section
/-! DEFINITION. The Satellite unit as its events and requests reach it (chapter 10): the events of its lines (R192, R193)
with the SATELLITE condition they end (R191), and the requests SAT_ADDR (R188), SAT_SEND (R194), SAT_BYPASS (R195) and
SAT_STATUS (R198). -/

namespace Sys2Proof.Machine

/-- The unit changes, and the Switch Engine looks at its condition (R191). -/
def State.withSat (s : State) (u : Satellite) : State := ({ s with sat := u } : State).syncTest

/-- R192: the ACK wait of the frame in flight expires: SAT_TIMEOUT, by the model's choice after the notices of the head test that
the end of the SATELLITE condition makes (log 42). -/
def State.satTimeout (s : State) : State :=
  match s.sat.inFlight with
  | none => s
  | some x =>
    let f := x.frame
    (s.withSat { s.sat.finish with timeouts := bump s.sat.timeouts 1 }).post
      (.satTimeout f.physical f.logical f.origin f.tag) (tagByte f.tag)

/-- R193: a framing error is counted. -/
def Satellite.framing (u : Satellite) : Satellite := { u with framingErrors := bump u.framingErrors 1 }

/-- R193: an address byte that no satellite has. -/
def badAddress (address : Byte) : Bool := address == 0 || address == 255

/-- R193: an inbound ACK. -/
def State.takeAck (s : State) (address : Byte) : State :=
  if badAddress address then { s with sat := s.sat.framing } else s.withSat (s.sat.ack address.toNat)

/-- R193: an inbound DATA frame. -/
def State.takeData (s : State) (address : Byte) (payload : List Byte) : State :=
  if badAddress address ∨ payload.length < 1 ∨ 16 < payload.length then { s with sat := s.sat.framing }
  else s.post (.satReceived address.toNat (s.sat.logicalOf address.toNat) payload)

/-! ## SAT_ADDR (R188) -/

/-- R188: the entry write carried is acceptable. -/
def writeOk (w : AddressWrite) : Bool :=
  decide (w.logical ≤ 14) && (boolOf w.acknowledge).isSome &&
  (match w.physical with
   | none => true
   | some p => decide (1 ≤ p ∧ p ≤ 254))

/-- R188: the table after an entry write. -/
def writeEntry (table : List AddressEntry) (w : AddressWrite) : List AddressEntry :=
  table.set w.logical { physical := w.physical, acknowledge := w.acknowledge == 1 }

/-- R188: the table and the timeout as a reply carries them. The table holds a fixed number of entries, 15, and by the model's choice
no count stands before them (log 46). -/
def addressFields (u : Satellite) : List Wire :=
  u.table.flatMap (fun e => wOpt 1 e.physical ++ [wFlag e.acknowledge]) ++ [.u 2 u.ackTimeout]

/-- R188: the unit after the writes carried. -/
def Satellite.write (u : Satellite) (w : Option AddressWrite) (timeout : Option Nat) : Satellite :=
  { u with
    table := match w with | none => u.table | some x => writeEntry u.table x,
    ackTimeout := match timeout with | none => u.ackTimeout | some t => clampNat 10 500 t }

/-- R188: SAT_ADDR. -/
def reqSatAddr (w : Option AddressWrite) (timeout : Option Nat) (s : State) : State × Answer :=
  if w.all writeOk then
    let u := s.sat.write w timeout
    answer { s with sat := u } (okOr (timeout.any (fun t => clampNat 10 500 t != t)))
      (addressFields u)
  else refuse s .outOfRange

/-! ## SAT_SEND (R194) -/

/-- R194: the RAW frame of a request. -/
def rawFrame (tag : Byte) (physical : Nat) (acknowledge : Bool) (payload : List Byte) : SatFrame :=
  { physical := physical, logical := none, payload := payload, acknowledge := acknowledge, origin := .raw,
    tag := some tag, mark := false }

/-- R194: SAT_SEND; the head of the queue is position 0 (log 35). -/
def reqSatSend (tag : Byte) (physical acknowledge : Nat) (payload : List Byte) (s : State) : State × Answer :=
  match boolOf acknowledge with
  | none => refuse s .outOfRange
  | some a =>
    if physical < 1 ∨ 254 < physical ∨ payload.length < 1 ∨ 16 < payload.length then refuse s .outOfRange
    else
      let u := s.sat.restartTimer
      if Config.satQueueSize ≤ u.queue.length then answer { s with sat := u } .queueFull []
      else
        answer { s with sat := { u with queue := u.queue ++ [rawFrame tag physical a payload] } } .ok
          [.u 1 u.queue.length]

/-! ## SAT_BYPASS (R195, R197) -/

/-- R195: the timeouts. -/
def timeoutOk : Option Nat → Bool
  | none => true
  | some t => t == 250 || t == 1000 || t == 4000

/-- R195: SAT_BYPASS. -/
def reqSatBypass (value : Nat) (timeout : Option Nat) (s : State) : State × Answer :=
  match boolOf value with
  | none => refuse s .outOfRange
  | some false => answer (s.withSat s.sat.bypassEnd) .ok []
  | some true =>
    if !timeoutOk timeout then refuse s .outOfRange
    else
      match s.sat.bypass with
      | some _ => answer { s with sat := s.sat.bypassTimer timeout } .ok []
      | none =>
        let u := s.sat.bypassOn timeout
        answer (s.withSat u) .ok [.u 1 u.catchUp.length]

/-! ## SAT_STATUS (R198) -/

/-- R198: a frame, without its payload. -/
def wSatFrame (f : SatFrame) : List Wire :=
  .u 1 f.physical :: wOpt 1 f.logical ++ [wFlag f.acknowledge, .u 1 f.origin.code] ++
  wOpt 1 (f.tag.map BitVec.toNat) ++ [wFlag f.mark]

def wInFlight : Option InFlight → List Wire
  | none => [.u 1 0]
  | some x => .u 1 1 :: wSatFrame x.frame ++ wOpt 2 x.wait

def wBypass : Option Bypass → List Wire
  | none => [.u 1 0]
  | some b => .u 1 1 :: wOpt 2 b.timeout ++ wOpt 2 b.remaining

/-- R198: a catch-up entry. -/
def wCatchUp (e : CatchUp) : List Wire := [.u 1 e.address, .u 1 e.origin.code]

/-- R198: the fields of the reply. -/
def satFields (u : Satellite) : List Wire :=
  .u 2 u.ackTimeout :: wList wSatFrame u.queue ++ wInFlight u.inFlight ++
  [.u 1 u.activationCount, wFlag u.condition] ++ wBypass u.bypass ++ wList wCatchUp u.catchUp ++
  [.u 2 u.unmapped, .u 2 u.dropped, .u 2 u.timeouts, .u 2 u.strayAcks, .u 2 u.framingErrors]

/-- R198: SAT_STATUS. -/
def reqSatStatus (clear : Nat) (s : State) : State × Answer :=
  match boolOf clear with
  | none => refuse s .outOfRange
  | some c =>
    answer
      (if c then
         { s with sat := { s.sat with unmapped := 0, dropped := 0, timeouts := 0, strayAcks := 0, framingErrors := 0 } }
       else s) .ok (satFields s.sat)

/-- R198: the Satellite unit's portion of STATUS. -/
def satPortion (u : Satellite) : List Wire :=
  [.u 1 u.queue.length, wFlag u.inFlight.isSome, .u 1 u.activationCount, wFlag u.bypass.isSome, .u 1 u.catchUp.length]

end Sys2Proof.Machine
end

