-- ==== Sys2Proof/Machine/SwitchReq.lean ====
section
/-! DEFINITION. The requests of the Switch Engine: SWITCH (R94), SCENE (R95), HOLD (R102), SWITCH_SETUP (R104), PANIC
(R117), HISTORY (R119), and the engine's portions of STATUS (R120). -/

namespace Sys2Proof.Machine

/-- R94, R95: ACCEPTED, or QUEUE_FULL when nothing was queued. -/
def acceptedOr (r : State × Bool) : State × Answer :=
  if r.2 then answer r.1 .accepted [] else refuse r.1 .queueFull

/-- An optional field within its range. -/
def optAtMost (most : Nat) : Option Nat → Bool
  | none => true
  | some v => decide (v ≤ most)

/-- R94: SWITCH. -/
def reqSwitch (tag : Byte) (preset scene : Option Nat) (force : Nat) (s : State) : State × Answer :=
  match boolOf force with
  | none => refuse s .outOfRange
  | some f =>
    if !optAtMost 255 preset || !optAtMost 7 scene || (preset.isNone && scene.isNone) then refuse s .outOfRange
    else acceptedOr (s.arrive (s.newRequest preset scene f .control (some tag)))

/-- R95: SCENE. -/
def reqScene (tag : Byte) (scene : Nat) (s : State) : State × Answer :=
  if 7 < scene then refuse s .outOfRange
  else acceptedOr (s.arrive (s.newRequest none (some scene) false .control (some tag)))

/-- R102: HOLD. -/
def reqHold (value : Nat) (s : State) : State × Answer :=
  match boolOf value with
  | none => refuse s .outOfRange
  | some true => answer (s.setHoldOffs { s.engine.holdOffs with host := true }) .ok []
  | some false =>
    answer
      (if s.engine.holdOffs.host then (s.setHoldOffs { s.engine.holdOffs with host := false }).headTest else s) .ok []

/-- R104: the settings carried, clamped; none when a mode or enable is no value of its kind. -/
def settingsOf (mode w1 k w2 tunerHold satHold : Nat) : Option SwitchSettings :=
  match queueModeOf mode, boolOf tunerHold, boolOf satHold with
  | some m, some t, some h =>
    some { mode := m, w1 := clampNat 0 500 w1, k := clampNat 2 8 k, w2 := clampNat 100 5000 w2, tunerHold := t,
           satHold := h }
  | _, _, _ => none

/-- R104: settings as a reply carries them. -/
def wSettings (x : SwitchSettings) : List Wire :=
  [.u 1 x.mode.code, .u 2 x.w1, .u 1 x.k, .u 2 x.w2, wFlag x.tunerHold, wFlag x.satHold]

/-- R104: a change from SEQUENCE to COLLAPSE keeps the newest queued request; each older one fails. -/
def State.collapseQueue (s : State) : State :=
  let q := s.engine.queue
  (s.failAll q.dropLast .superseded).setQueue (q.drop (q.length - 1))

/-- R104: the settings are taken. -/
def State.takeSettings (s : State) (x : SwitchSettings) : State :=
  let old := s.engine.settings
  let s := s.setEngine { s.engine with settings := x }
  let s := if old.mode = .sequence ∧ x.mode = .collapse then s.collapseQueue else s
  s.testRate.syncHoldOffs.headTest

/-- R104: SWITCH_SETUP. -/
def reqSwitchSetup (mode w1 k w2 tunerHold satHold : Nat) (s : State) : State × Answer :=
  match settingsOf mode w1 k w2 tunerHold satHold with
  | none => refuse s .outOfRange
  | some x => answer (s.takeSettings x) (okOr (x.w1 != w1 || x.k != k || x.w2 != w2)) (wSettings x)

/-- R117: PANIC. -/
def reqPanic (s : State) : State × Answer := answer s.panic .ok []

/-- R118, R119: a history record. -/
def wHistory (h : HistoryRecord) : List Wire :=
  wOpt 1 h.preset ++ wOpt 1 h.scene ++ [.u 1 h.source.code, .u 1 h.status.historyCode, .u 4 h.arrival, .u 4 h.start] ++
  wOpt 4 h.activation

/-- R119: HISTORY. -/
def reqHistory (first : Nat) (s : State) : State × Answer :=
  let h := s.engine.history
  if 15 < first then refuse s .outOfRange
  else if h.length ≤ first then answer s .endOfRecord [.u 1 h.length]
  else answer s .ok (.u 1 h.length :: wList wHistory ((h.drop first).take 4))

/-! ## STATUS (R120) -/

def wOptTag (t : Option Byte) : List Wire := wOpt 1 (t.map BitVec.toNat)

def wMerged : Option MergedRequest → List Wire
  | none => [.u 1 0]
  | some m => [.u 1 1, .u 1 m.source.code] ++ wOptTag m.tag ++ [.u 4 m.arrival]

/-- R94, R120: a switch request. -/
def wRequest (r : SwitchRequest) : List Wire :=
  wOpt 1 r.preset ++ wOpt 1 r.scene ++ [wFlag r.force, .u 1 r.source.code] ++ wOptTag r.tag ++ [.u 4 r.arrival] ++
  wMerged r.merged

/-- R120: the pending switch with its buffer. -/
def wPending : Option CurrentSwitch → List Wire
  | none => [.u 1 0]
  | some c => .u 1 1 :: wRequest c.request ++ [.u 1 c.buffer.code]

/-- R103, R120: the frame at which RATE will leave the set. -/
def Engine.rateRelease (e : Engine) (now : Nat) : Option Nat :=
  if e.holdOffs.rate then some ((now + e.rateRemaining now) % frameModulus) else none

/-- R120: section 1 of STATUS. -/
def engineFields (s : State) : List Wire :=
  let e := s.engine
  [.u 1 e.state.code, .u 1 e.settings.mode.code] ++ wList wRequest e.queue ++ wPending e.pending ++
  [.u 1 e.holdOffs.mask, .u 2 e.settings.w1, .u 1 e.settings.k, .u 2 e.settings.w2, wFlag e.settings.tunerHold,
    wFlag e.settings.satHold] ++ wOpt 4 (e.rateRelease s.frameCounter)

/-- R120: a buffer: what its role gives it follows its role with no presence byte, only what may hold none has one (log 38). -/
def wBuffer (x : Buffer) : List Wire :=
  .u 1 x.role.code ::
  (match x.context with
   | none => []
   | some c => .u 1 c.number :: wOpt 1 c.activeScene) ++
  (if x.role.running then [.u 1 x.tOut.code, .u 1 x.tIn.code] else []) ++
  (match x.role with
   | .spill => [.u 2 x.spillFrames, .u 1 x.quietCount]
   | .loading => [.u 1 x.loadLeft]
   | _ => [])

/-- R60, R120: the applied lane values of the ACTIVE context. -/
def wLanes : Option (BufferId × Context) → List Wire
  | none => [.u 1 0]
  | some (_, c) =>
    [.u 1 1, .u 2 c.lanes.lx, .u 2 c.lanes.ly, .u 2 c.lanes.compX, .u 2 c.lanes.compY, .u 2 c.lanes.total,
      wFlag c.lanes.misaligned]

/-- R20, R120: section 2 of STATUS, the stored mute codes last (log 39). -/
def bufferFields (s : State) : List Wire :=
  s.buffers.toList.flatMap wBuffer ++
  (if s.engine.state = .crossfading then [.u 1 1, .u 1 s.engine.fadeFrame, .u 1 s.engine.fadeLength] else [.u 1 0]) ++
  wLanes s.active ++ s.mains.toList.map (fun m => .u 1 m.stored)

end Sys2Proof.Machine
end

