-- ==== Sys2Proof/Machine/Control.lean ====
section
/-! DEFINITION. The control link (chapter 11): the requests IDENT (R206), STATUS (R207), NOTICE_ROUTE (R205) and RESET
(R208), the taking of requests (R200), the outbound line (R201), and the resets (R208, R209). -/

namespace Sys2Proof.Machine

/-! ## IDENT, STATUS, NOTICE_ROUTE, RESET -/

/-- R206: the fields of the IDENT reply. -/
def identFields : List Wire :=
  wBytes [0x4B, 0x5A, 0x43] ++
  [.u 1 72, .u 1 Config.revision, .u 1 3, .u 1 Config.slotCount, .u 1 Config.contextBudget, .u 1 Config.engineBudget,
    .u 2 Config.locationCount, .u 1 Config.curveCount, .u 1 Config.mapTableSize, .u 1 Config.overlaySize,
    .u 1 Config.sceneCount, .u 1 Config.noticeQueueSize, .u 1 Config.satQueueSize, .u 1 Config.displayQueueSize,
    .u 1 Config.frameSamples, .u 2 48000]

/-- R206: IDENT. -/
def reqIdent (s : State) : State × Answer := answer s .ok identFields

/-- R203, R207: the overflow state. -/
def wOverflow : Overflow → List Wire
  | .clear => [.u 1 0]
  | .pending n => [.u 1 1, .u 2 n]
  | .queued => [.u 1 2]

/-- R64, R207: the measurement state. -/
def wMeasuring : Option Measurement → List Wire
  | none => [.u 1 0]
  | some m => [.u 1 1, .u 1 m.loop.code, .u 1 m.tag.toNat, .u 2 m.taken] ++ wOpt 2 m.found

/-- R207: section 0. -/
def linkFields (s : State) : List Wire :=
  [.u 2 s.control.framingErrors, .u 2 s.control.overruns, .u 2 s.notices.drops, .u 1 s.notices.queue.length,
    .u 1 s.control.replies.length] ++ wOverflow s.notices.overflow ++ [.u 1 (inputCode s.selected)] ++
  wMeasuring s.loops.measuring ++ wLoop s.loops.loop1 ++ wLoop s.loops.loop2 ++
  wPresence s.pedals.a.identity ++ wPresence s.pedals.b.identity ++ satPortion s.sat

/-- R207: a section of STATUS; none above 4. -/
def sectionFields (s : State) : Nat → Option (List Wire)
  | 0 => some (linkFields s)
  | 1 => some (engineFields s)
  | 2 => some (bufferFields s)
  | 3 => some (tempoFields s ++ tunerFields s)
  | 4 => some (mapFields s)
  | _ => none

/-- R207: STATUS; the reply gives the section number, then the frame counter, then the section (log 44). -/
def reqStatus (part : Nat) (s : State) : State × Answer :=
  match sectionFields s part with
  | none => refuse s .outOfRange
  | some fields => answer s .ok ([.u 1 part, .u 4 s.frameCounter] ++ fields)

/-- R205: a set that a kind may have. -/
def routable (k : NoticeKind) (d : Destinations) : Bool := k.renderable || !(d.pedalA || d.pedalB)

/-- R205: NOTICE_ROUTE. -/
def reqNoticeRoute (kind : Nat) (destinations : Option Nat) (s : State) : State × Answer :=
  match noticeKindOf kind with
  | none => refuse s .outOfRange
  | some k =>
    match destinations with
    | none => answer s .ok [.u 1 (s.destinations k).mask]
    | some m =>
      if k = .ready then refuse s .readOnly
      else
        match destinationsOf m with
        | none => refuse s .outOfRange
        | some d =>
          if routable k d then answer { s with routing := s.routing.set k.code d } .ok [.u 1 d.mask]
          else refuse s .outOfRange

/-- R208: RESET: valid frames are discarded from now on, those in the receive hold too. -/
def reqReset (s : State) : State × Answer :=
  answer { s with control := { s.control with gate := .resetDiscard, hold := [] } } .ok []

/-! ## Requests taken (R200) -/

/-- R200: the request goes to the block that owns it. -/
def perform (tag : Byte) (r : Request) (s : State) : State × Answer :=
  match r with
  | .mute source outputs => reqMute source outputs s
  | .unmute source outputs => reqUnmute source outputs s
  | .meters clear => reqMeters clear s
  | .curveWrite index name points => reqCurveWrite index name points s
  | .curveRead index => reqCurveRead index s
  | .curveErase index => reqCurveErase index s
  | .paramSet position index value => reqParamSet position index value s
  | .slotSet position enabled => reqSlotSet position enabled s
  | .inputSelect input => reqInputSelect input s
  | .loopMeasure loop => reqLoopMeasure tag loop s
  | .loopSet loop latency => reqLoopSet loop latency s
  | .loopRead loop => reqLoopRead loop s
  | .presetBegin location header => reqPresetBegin location header s
  | .presetSlot slot position => reqPresetSlot slot position s
  | .presetScene scene number => reqPresetScene scene number s
  | .presetMap key targets => reqPresetMap key targets s
  | .presetSatmsg address payload => reqPresetSatmsg address payload s
  | .presetEnd => reqPresetEnd s
  | .presetRead location part => reqPresetRead location part s
  | .presetErase location => reqPresetErase location s
  | .presetCopy source destination => reqPresetCopy source destination s
  | .switch preset scene force => reqSwitch tag preset scene force s
  | .scene scene => reqScene tag scene s
  | .hold value => reqHold value s
  | .switchSetup mode w1 k w2 tunerHold satHold => reqSwitchSetup mode w1 k w2 tunerHold satHold s
  | .panic => reqPanic s
  | .history first => reqHistory first s
  | .tempoSet tempo => reqTempoSet tempo s
  | .tap => reqTap s
  | .tempoLock value => reqTempoLock value s
  | .tuner action => reqTuner action s
  | .tunerProfile profile transpose offsets => reqTunerProfile profile transpose offsets s
  | .tunerSetup aref policies => reqTunerSetup aref policies s
  | .gestureTiming link combo holdTime double => reqGestureTiming link combo holdTime double s
  | .pedalStatus link first clear => reqPedalStatus link first clear s
  | .mapWrite key targets => reqMapWrite key targets s
  | .mapErase entry => reqMapErase entry s
  | .mapRead table entry => reqMapRead table entry s
  | .permit link mask => reqPermit link mask s
  | .satAddr write timeout => reqSatAddr write timeout s
  | .satSend physical acknowledge payload => reqSatSend tag physical acknowledge payload s
  | .satBypass value timeout => reqSatBypass value timeout s
  | .satStatus clear => reqSatStatus clear s
  | .ident => reqIdent s
  | .status part => reqStatus part s
  | .reset => reqReset s
  | .noticeRoute kind destinations => reqNoticeRoute kind destinations s

/-- R200: the reply is placed at the tail of the reply queue. -/
def State.reply (s : State) (tag kind : Byte) (a : Answer) : State :=
  { s with control := { s.control with
      replies := s.control.replies ++ [{ tag := tag, kind := kind, code := a.code, fields := a.fields }] } }

/-- R200: a valid frame is taken as a request. -/
def takeFrame (f : ControlFrame) (s : State) : State :=
  match f.body with
  | .request r => (perform f.tag r s).1.reply f.tag (requestKind r) (perform f.tag r s).2
  | .unknownKind k => s.reply f.tag k { code := .unknownKind, fields := [] }
  | .badLength k => s.reply f.tag k { code := .badLength, fields := [] }

/-- R200: a valid frame that is not taken yet is held, or discarded as an overrun. -/
def ControlLink.holdFrame (c : ControlLink) (f : ControlFrame) : ControlLink :=
  if c.hold.length < Config.receiveHoldSize then { c with hold := c.hold ++ [f] }
  else { c with overruns := bump c.overruns 1 }

/-- R200, R208, R209: a valid frame ends on the control line. -/
def receive (f : ControlFrame) (s : State) : State :=
  match s.control.gate with
  | .taking =>
    if s.control.replies.length < Config.replyQueueSize then takeFrame f s
    else { s with control := s.control.holdFrame f }
  | _ => s

/-- R199: a discarded frame raises the framing error count. R209 exempts every frame that ends until READY has gone out after a
power-on; by the model's choice a frame broken off before its checksum byte is not counted then either (log 28). -/
def ControlLink.badFrame (c : ControlLink) : ControlLink :=
  match c.gate with
  | .startDiscard => c
  | _ => { c with framingErrors := bump c.framingErrors 1 }

/-! ## The outbound line (R201) -/

/-- R200: as a reply leaves the queue, the first held frame is taken. -/
def takeHeld (s : State) : State :=
  match s.control.hold with
  | [] => s
  | f :: rest => takeFrame f { s with control := { s.control with hold := rest } }

/-- R201: the head reply leaves its queue. -/
def sendReply (s : State) (r : Reply) (rest : List Reply) : State :=
  takeHeld { s with control := { s.control with
    replies := rest, tx := some { item := .reply r, bytes := r.bytes } } }

/-- R201, R203: the head notice leaves its queue. -/
def sendNotice (s : State) (n : Notice) : State :=
  { s with notices := s.notices.depart s.overflowRouted s.frameCounter,
           control := { s.control with tx := some { item := .notice n, bytes := n.bytes } } }

/-- R201: the line is free: the head reply, or else the head notice, leaves. -/
def txStart (s : State) : State :=
  match s.control.tx, s.control.replies, s.notices.queue with
  | some _, _, _ => s
  | none, r :: rest, _ => sendReply s r rest
  | none, [], n :: _ => sendNotice s n
  | none, [], [] => s

/-! ## Resets (R208, R209) -/

/-- R64, R69: the Loop unit after a soft reset. -/
def LoopUnit.softReset (u : LoopUnit) : LoopUnit := u.abort

/-- R122, R124, R130: the Tempo clock after a soft reset. -/
def Tempo.softReset (t : Tempo) : Tempo :=
  { t with lastBeat := 0, nextBeat := t.period, beatCounter := 0, beatTaken := false, taps := [] }

/-- R135: the Tuner after a soft reset. -/
def Tuner.softReset (t : Tuner) : Tuner :=
  { Tuner.reset with aref := t.aref, profileA := t.profileA, profileB := t.profileB, policies := t.policies }

/-- R153: a pedal link unit after a soft reset; a message whose transmission has begun is completed. -/
def PedalLink.softReset (p : PedalLink) : PedalLink :=
  { PedalLink.reset p.comboMs p.holdMs p.doubleMs with displayTx := p.displayTx }

/-- R172, R174, R175, R181: the Control Map after a soft reset. -/
def ControlMap.softReset (m : ControlMap) : ControlMap :=
  { ControlMap.reset with entries := m.entries, changes := m.changes, masks := m.masks }

/-- R44, R121: the curve table after a soft reset. -/
def curvesSoftReset (curves : List CurveEntry) : List CurveEntry := curves.map (fun e => { e with refs := 0 })

/-- R208: the soft reset: every block takes its soft-reset values, and READY is posted. -/
def softReset (s : State) : State :=
  { State.reset with
    pending := s.pending,
    selected := s.selected,
    curves := curvesSoftReset s.curves,
    loops := s.loops.softReset,
    library := s.library,
    engine := Engine.reset s.engine.settings,
    tempo := s.tempo.softReset,
    tuner := s.tuner.softReset,
    pedals := { a := s.pedals.a.softReset, b := s.pedals.b.softReset },
    map := s.map.softReset,
    sat := s.sat.softReset,
    control := ControlLink.reset .resetDiscard,
    notices := NoticeQueue.reset .softReset,
    routing := s.routing }

/-- R208: the frame on the line is the OK reply of a RESET. -/
def isResetReply : TxItem → Bool
  | .reply r => r.kind == 0x2E && r.code == .ok
  | .notice _ => false

/-- R208, R209: the frame on the line is READY. -/
def isReady : TxItem → Bool
  | .reply _ => false
  | .notice n => match n.body with | .ready _ _ => true | _ => false

/-- R201, R208, R209: the last byte of the frame on the line has gone out. -/
def txEnd (s : State) : State :=
  match s.control.tx with
  | none => s
  | some t =>
    if isResetReply t.item then softReset s
    else
      { s with control := { s.control with
          tx := none, gate := if isReady t.item then .taking else s.control.gate } }

/-- R209: every block takes its power-on values; the pin is low, and nothing is sent or taken. -/
def powerOnReset (s : State) : State :=
  { State.reset with
    pending := s.pending, power := .pinLow,
    notices := { queue := [], drops := 0, overflow := .clear } }

/-- R209: initialisation completes: the part at its power-on values, with READY posted. -/
def initComplete (s : State) : State := { State.reset with pending := s.pending }

/-- Commands reach the part only while it runs (R209, log 6). -/
def State.ifRunning (s : State) (f : State → State) : State :=
  match s.power with
  | .running => f s
  | _ => s

end Sys2Proof.Machine
end

