-- ==== Sys2Proof/Machine/FrameStep.lean ====
section
/-! DEFINITION. The frame (R5): its end with the events that fall due at it, and its beginning with the computation of the
contexts (R53), the transition mixer (R17, R18), the mute stage (R20) and the meters (R23). -/

namespace Sys2Proof.Machine

/-! ## The end of a frame -/

/-- R115: the counts of a SPILL buffer as a frame ends. -/
def Buffer.settle (x : Buffer) : Buffer :=
  match x.role, x.rowPeak with
  | .spill, some p =>
    { x with spillFrames := x.spillFrames + 1, quietCount := if p < Config.quietLevel then x.quietCount + 1 else 0,
             rowPeak := none }
  | _, _ => { x with rowPeak := none }

/-- What every block counts as a frame ends: meters and CLIP (R7, R8, R20, R23), spill counts (R115), capture (R68), the
estimator's window (R140), silence counts (R156) and the inactivity timer (R196). -/
def State.settleFrame (s : State) : State :=
  ({ s with
     buffers := s.buffers.map Buffer.settle,
     loops := s.loops.settle,
     tuner := s.tuner.collect,
     pedals := { a := s.pedals.a.settle, b := s.pedals.b.settle },
     sat := s.sat.settle } : State).settleOutputs

/-- The frame that is open ends: taken once for each frame (log 1). -/
def State.endFrame (s : State) : State :=
  if s.frameOpen && !s.frameEnded then { s.settleFrame with frameEnded := true } else s

/-! ### Events due at a frame end -/

/-- R103: RATE is in the set and the current frame breaks no rate rule. -/
def State.rateDue (s : State) : Bool := s.engine.holdOffs.rate && !s.engine.rateBroken s.frameCounter

/-- R103: RATE leaves the set. -/
def State.rateExpiry (s : State) : State := (s.setHoldOffs { s.engine.holdOffs with rate := false }).headTest

/-- R68: the capture is complete. -/
def State.measureDue (s : State) : Bool := s.loops.captureDone

/-- R68: the measurement completes. -/
def State.measureEvent (s : State) : State :=
  match s.loops.measuring with
  | none => s
  | some m => s.measureDone m

/-- R125: the next beat lies in the frame that ends. -/
def State.beatDue (s : State) : Bool := s.tempo.beatIn s.frameCounter

/-- R125: the beat event. -/
def State.beatEvent (s : State) : State :=
  let s := { s with tempo := s.tempo.beat }
  let s := s.engineBeat (s.tempo.beatCounter == 0)
  s.post (.beat s.tempo.beatCounter s.tempo.tempo s.tempo.source)

/-- R107: the last frame of the load has begun. -/
def State.loadDue (s : State) : Bool :=
  match s.engine.state, s.engine.current with
  | .loading, some cur => (s.buffers.get cur.buffer).loadLeft == 0
  | _, _ => false

/-- R107: the load completes. -/
def State.loadEvent (s : State) : State :=
  match s.engine.current with
  | none => s
  | some cur =>
    match (s.buffers.get cur.buffer).context with
    | none => s
    | some c => s.loadDone cur c

/-- R110: the buffers whose fourth cut frame has begun. -/
def State.cutBuffers (s : State) : List BufferId :=
  (s.withRole .cutting).filter (fun b => (s.buffers.get b).cutFrames == 4)

/-- R110: a cut is done. -/
def State.cutDue (s : State) : Bool := !s.cutBuffers.isEmpty

/-- R110: the buffer of a cut that is done becomes FREE, and a waiting crossfade starts. -/
def State.cutEvent (s : State) : State :=
  match s.cutBuffers with
  | [] => s
  | b :: _ => (s.freeBuffer b).resumeCutting

/-- R113: the T-th crossfade frame has begun. -/
def State.fadeDue (s : State) : Bool :=
  s.engine.state == .crossfading && s.engine.current.isSome && decide (s.engine.fadeLength ≤ s.engine.fadeFrame)

/-- R113: the crossfade completes. -/
def State.fadeEvent (s : State) : State :=
  match s.engine.current with
  | none => s
  | some cur => s.fadeDone cur

/-- R115: a SPILL buffer is quiet. -/
def Buffer.quiet (x : Buffer) : Bool := decide (Config.quietFrames ≤ x.quietCount)

/-- R115: a SPILL buffer is at its limit. -/
def Buffer.atLimit (x : Buffer) : Bool :=
  match x.context with
  | none => false
  | some c => decide (msToFrames c.header.spillLimit ≤ x.spillFrames)

/-- R115: the SPILL buffers that are quiet. -/
def State.quietBuffers (s : State) : List BufferId :=
  (s.withRole .spill).filter (fun b => (s.buffers.get b).quiet)

/-- R115: a spill is quiet. -/
def State.quietDue (s : State) : Bool := !s.quietBuffers.isEmpty

/-- R115: a spill ends quiet, with no ramp. -/
def State.quietEvent (s : State) : State :=
  match s.quietBuffers with
  | [] => s
  | b :: _ => (s.freeBuffer b).resumeCutting

/-- R115: the SPILL buffers that are at their limit and not quiet. -/
def State.limitBuffers (s : State) : List BufferId :=
  (s.withRole .spill).filter (fun b => (s.buffers.get b).atLimit && !(s.buffers.get b).quiet)

/-- R115: a spill is at its limit. -/
def State.limitDue (s : State) : Bool := !s.limitBuffers.isEmpty

/-- R115: a spill reaches its limit and is cut. -/
def State.limitEvent (s : State) : State :=
  match s.limitBuffers with
  | [] => s
  | b :: _ => s.startCut b

/-- R140: an estimate has fallen due. -/
def State.estimateDue (s : State) : Bool := s.tuner.estimateDue

/-- R156: the silence count of a PRESENT link has reached 2,250. -/
def State.silenceDue (s : State) (l : Link) : Bool := (s.pedals.get l).silent

/-- R156: silence makes a link ABSENT. -/
def State.silenceEvent (s : State) (l : Link) : State :=
  match (s.pedals.get l).identity with
  | none => s
  | some i => s.linkLost l i .silence

/-- R162: a combo window expires. -/
def State.comboDue (s : State) (l : Link) (n : Nat) : Bool := (s.switchAt l n).windowDue .comboWait

/-- R163: a hold timer expires. -/
def State.holdDue (s : State) (l : Link) (n : Nat) : Bool := (s.switchAt l n).holdDue

/-- R165: a double window expires. -/
def State.doubleDue (s : State) (l : Link) (n : Nat) : Bool := (s.switchAt l n).windowDue .doubleWait

/-- R192: the ACK wait expires. -/
def State.ackDue (s : State) : Bool := s.sat.ackDue

/-- R196: the inactivity timer has run out. -/
def State.bypassDue (s : State) : Bool := s.sat.bypassDue

/-- R197: bypass ends. -/
def State.bypassEvent (s : State) : State := s.withSat s.sat.bypassEnd

/-- An event is taken if it is due. -/
def State.ifDue (s : State) (due : State → Bool) (event : State → State) : State := if due s then event s else s

/-- The waits of switch n that are due. -/
def State.switchEvents (l : Link) (s : State) (n : Nat) : State :=
  ((s.ifDue (fun t => t.comboDue l n) (fun t => t.comboExpiry l n)).ifDue (fun t => t.holdDue l n)
    (fun t => t.holdExpiry l n)).ifDue (fun t => t.doubleDue l n) (fun t => t.doubleExpiry l n)

/-- The switches of a link that have a wait run out, in order. -/
def State.waitingSwitches (s : State) (l : Link) : List Nat :=
  (List.range (s.pedals.get l).switches.length).filter (fun n =>
    (s.switchAt l n).hold == some 0 || (s.switchAt l n).window == some 0)

/-- The engine's and the clock's events due at a frame end, in one fixed order (log 1). -/
def State.flushEngine (s : State) : State :=
  (((((((s.ifDue State.rateDue State.rateExpiry).ifDue State.measureDue State.measureEvent).ifDue State.beatDue
    State.beatEvent).ifDue State.loadDue State.loadEvent).ifDue State.cutDue State.cutEvent).ifDue State.fadeDue
    State.fadeEvent).ifDue State.quietDue State.quietEvent).ifDue State.limitDue State.limitEvent

/-- R140, R141: an estimate that no command has taken: its values are free, the confidence in 0..100 (log 14). -/
def State.flushEstimate (s : State) : State :=
  s.ifDue State.estimateDue
    (fun t => t.estimate (Config.estimator t.tuner.window).1 (min 100 (Config.estimator t.tuner.window).2))

/-- The events of the pedal links due at a frame end. -/
def State.flushLink (s : State) (l : Link) : State :=
  let s := s.ifDue (fun t => t.silenceDue l) (fun t => t.silenceEvent l)
  (s.waitingSwitches l).foldl (State.switchEvents l) s

/-- The events due at the end of the open frame that no command has taken (log 1). -/
def State.flush (s : State) : State :=
  ((((s.endFrame.flushLink .a).flushLink .b).flushEngine.flushEstimate.ifDue State.ackDue State.satTimeout).ifDue
    State.bypassDue State.bypassEvent)

/-- R5, R159, R192: the open frame has ended: what is due at its end and no command has taken is taken, the waits of the links
fall by one, and the frame counter advances, wrapping to 0 after 4,294,967,295. -/
def State.closeFrame (s : State) : State :=
  if s.frameOpen then
    let t := s.flush
    { t with
      frameCounter := (s.frameCounter + 1) % frameModulus, frameOpen := false, frameEnded := false,
      tempo := { t.tempo with beatTaken := false },
      pedals := { a := t.pedals.a.tick, b := t.pedals.b.tick },
      sat := t.sat.tick }
  else s

/-- R5, R131: the moment in which a command that is no event of a frame's end is taken: when the end of the open frame has
begun, the rest of it comes first, and the command is taken in the frame that then begins (log 1). -/
def State.late (s : State) : State :=
  if s.frameOpen && s.frameEnded then { s.closeFrame with frameEnded := true } else s

/-- On a running part (R209), a command that is no event of a frame's end. -/
def State.inFrame (s : State) (f : State → State) : State := s.ifRunning (fun t => f t.late)

/-! ## The beginning of a frame: codes -/

/-- R107, R110: the counts of a buffer as a frame begins: the load frames remaining are those that follow the frame under way
(log 37). -/
def Buffer.tick (x : Buffer) : Buffer :=
  match x.role with
  | .loading => { x with loadLeft := x.loadLeft - 1 }
  | .cutting => { x with cutFrames := min 4 (x.cutFrames + 1) }
  | _ => x

/-- R112: the crossfade frame. -/
def Engine.tick (e : Engine) : Engine :=
  if e.state = .crossfading then { e with fadeFrame := min e.fadeLength (e.fadeFrame + 1) } else e

/-- R92: the codes of a role, given those held; `fading` says that a crossfade runs, in frame k of T. -/
def roleCodes (role : Role) (policy : SpillPolicy) (fading : Bool) (t k cutFrames heldIn : Nat) : Nat × Nat :=
  match role with
  | .active => (if fading then risingCode t k else 192, 192)
  | .outgoing =>
    match policy with
    | .spill => (192, fallingCode t k)
    | .cut => (fallingCode t k, 192)
  | .spill => (192, 0)
  | .cutting => (cutCode cutFrames, heldIn)
  | _ => (0, 192)

/-- R92: a buffer takes the codes of its role for the frame. -/
def Buffer.takeCodes (e : Engine) (x : Buffer) : Buffer :=
  match x.context with
  | none => x
  | some c =>
    let p := roleCodes x.role c.header.policy (e.state == .crossfading) e.fadeLength e.fadeFrame x.cutFrames x.tIn.code
    { x with tOut := { x.tOut with code := p.1 }, tIn := { x.tIn with code := p.2 } }

/-- R59: a context's running frames: the first is fed from the selected input at unity. -/
def Context.start (selected : Input) (c : Context) : Context :=
  if c.started then c else { c.followAtOnce selected with started := true }

/-- R58, R59, R63: a context in a running role as the frame begins. -/
def Buffer.beginContext (selected : Input) (x : Buffer) : Buffer :=
  if x.role.running then
    { x with context := x.context.map (fun c => ((c.start selected).followStep selected).laneStep) }
  else x

/-- R9: the factors reached are the previous factors of the next frame. -/
def Buffer.passCodes (x : Buffer) : Buffer := { x with tOut := x.tOut.passed, tIn := x.tIn.passed }

/-! ## The frame's samples -/

/-- R67: a return as the contexts read it: silence while its loop is measured. -/
def returnRead (u : LoopUnit) (l : LoopId) (block : List Int) : List Int := if u.measures l then silence else block

/-- What the contexts read in this frame. -/
def contextEnv (s : State) (input : FrameInput) : ContextEnv :=
  { slotEnv :=
      { curves := s.curves.map CurveEntry.points, period := s.tempo.period,
        ret1 := returnRead s.loops .one (Block.ints input.ret1), ret2 := returnRead s.loops .two (Block.ints input.ret2) },
    inA := Block.ints input.inA, inB := Block.ints input.inB, aux := Block.ints input.aux }

/-- A buffer's run: none outside the running roles. -/
def Buffer.run (env : ContextEnv) (x : Buffer) : Option ContextRun :=
  if x.role.running then x.context.map (Context.runFrame env x.tIn) else none

/-- R115: the largest row magnitude of a run. -/
def ContextRun.rowPeak (r : ContextRun) : Nat := (r.rows.toList.map peakOf).foldl max 0

/-- A buffer after its run. -/
def Buffer.afterRun (x : Buffer) : Option ContextRun → Buffer
  | none => x
  | some r => { x with context := some r.context, rowPeak := if x.role = .spill then some r.rowPeak else none }

/-- R17: the terms of the transition mixer for an output, over the running contexts. -/
def mixerSums (buffers : PerBuffer Buffer) (runs : PerBuffer (Option ContextRun)) (o : MainOut) : List Int :=
  bufferIds.foldl (fun acc b =>
    match runs.get b with
    | none => acc
    | some r => addBlocks acc (levelBlock (buffers.get b).tOut.factor (r.rows.get o))) silence

/-- R56: the clips of the running contexts' rows for an output. -/
def rowClipsOf (runs : PerBuffer (Option ContextRun)) (o : MainOut) : Nat :=
  (runs.toList.map (fun r => match r with | none => 0 | some x => x.rowClips.get o)).sum

/-- R18: the sums of a send, over the running contexts. -/
def sendSums (runs : PerBuffer (Option ContextRun)) (l : LoopId) : List Int :=
  runs.toList.foldl (fun acc r =>
    match r with
    | none => acc
    | some x => addBlocks acc (match l with | .one => x.send1 | .two => x.send2)) silence

/-- R66: the measurement signal of a capture frame. -/
def markerBlock (taken : Nat) : List Int :=
  if taken = 0 then List.replicate 4 Config.markerLevel ++ List.replicate 28 0 else silence

/-- R18, R66: what a send carries, with its clips. -/
def sendBlock (u : LoopUnit) (runs : PerBuffer (Option ContextRun)) (l : LoopId) : List Int × Nat :=
  match u.measuring with
  | some m =>
    if m.loop = l then (markerBlock m.taken, 0) else (clampBlock (sendSums runs l), clipsOf (sendSums runs l))
  | none => (clampBlock (sendSums runs l), clipsOf (sendSums runs l))

/-- R20: the mute code of a frame, from the set and the code of the frame before. -/
def muteCode (sources : MuteSet) (code : Nat) : Nat :=
  if sources.panic then 0 else if sources.isEmpty then min 192 (code + 24) else code - 24

/-- R20: the mute stage as a frame begins: the frame's code, and the stored code with a rise taken. -/
def MuteStage.begin (m : MuteStage) : MuteStage :=
  let code := muteCode m.sources m.gain.code
  { m with gain := { m.gain with code := code }, stored := max m.stored code }

/-- R9: on the mute gain. -/
def MuteStage.passed (m : MuteStage) : MuteStage := { m with gain := m.gain.passed }

/-- R20: the sums of a mute stage for a mixed block. -/
def MuteStage.sums (m : MuteStage) (mixed : List Int) : List Int := levelBlock m.gain.factor mixed

/-- What an output carries in the frame, and the clips counted against it. -/
def outputBlock (s : State) (runs : PerBuffer (Option ContextRun)) (o : Out) : List Int × Nat :=
  match o with
  | .main m =>
    let mixed := mixerSums s.buffers runs m
    let sums := (s.mains.get m).sums (clampBlock mixed)
    (clampBlock sums, rowClipsOf runs m + clipsOf mixed + clipsOf sums)
  | .send1 => sendBlock s.loops runs .one
  | .send2 => sendBlock s.loops runs .two

/-- R7, R23: the meter of an output in a frame that has begun. -/
def Meter.frame (m : Meter) (p : List Int × Nat) : Meter :=
  { m with carried := p.1, freshClips := p.2, freshPeak := peakOf p.1 }

/-- R68: the return block of a capture frame waits for the frame's end. -/
def LoopUnit.feed (u : LoopUnit) (input : FrameInput) : LoopUnit :=
  { u with
    measuring := u.measuring.map (fun m =>
      { m with block := some (Block.ints (match m.loop with | .one => input.ret1 | .two => input.ret2)) }) }

/-- R140: the input block of a frame waits for the frame's end, while the tuner is not OFF. -/
def Tuner.feed (t : Tuner) (selected : Input) (input : FrameInput) : Tuner :=
  match t.state with
  | .off => t
  | _ => { t with block := some (Block.ints (match selected with | .a => input.inA | .b => input.inB)) }

/-- The codes and counts of the part as a frame begins. -/
def State.prepareFrame (s : State) : State :=
  let e := s.engine.tick
  { s with
    engine := { e with holdOffs := { e.holdOffs with rate := e.holdOffs.rate || e.rateBroken s.frameCounter } },
    buffers := s.buffers.map (fun (x : Buffer) => ((x.tick.takeCodes e).beginContext s.selected)),
    mains := s.mains.map MuteStage.begin }

/-- R5: the frame is computed from the state as it stands when the frame begins. -/
def State.computeFrame (s : State) (input : FrameInput) : State :=
  let env := contextEnv s input
  let runs := s.buffers.map (Buffer.run env)
  { s with
    buffers := PerBuffer.map Buffer.passCodes
      { b0 := s.buffers.b0.afterRun runs.b0, b1 := s.buffers.b1.afterRun runs.b1, b2 := s.buffers.b2.afterRun runs.b2 },
    meters := PerOut.of (fun o => (s.meters.get o).frame (outputBlock s runs o)),
    mains := s.mains.map MuteStage.passed,
    loops := s.loops.feed input,
    tuner := s.tuner.feed s.selected input }

/-- R5: FRAME: the open frame ends with what is due at it, and the next frame begins and is computed. -/
def State.runFrame (s : State) (input : FrameInput) : State :=
  { s.closeFrame.prepareFrame.computeFrame input with frameOpen := true, frameEnded := false }

/-- An event that the table gives a row of its own, at the end of the open frame: the counts of the frame are taken in first;
with no frame open, or when the event is not due, nothing happens (log 2). -/
def State.atFrameEnd (s : State) (due : State → Bool) (event : State → State) : State :=
  if s.frameOpen && due s.endFrame then event s.endFrame else s

end Sys2Proof.Machine
end

