-- ==== Sys2Proof/Machine/ClockEvents.lean ====
section
/-! DEFINITION. The meanings of FRAME (R5) and of the events that fall due in a frame. Each such event acts when it is due
and is without effect when it is not (log 2); one that falls due at a frame's end ends the open frame first (log 1). -/

namespace Sys2Proof.Machine

/-- R5: FRAME. -/
def execFrame (input : FrameInput) (s : State) : Host.Outcome State Fault Refusal :=
  .next (s.ifRunning (fun s => s.runFrame input))

/-- R68: MEASURE_COMPLETE. -/
def execMeasureComplete (s : State) : Host.Outcome State Fault Refusal :=
  .next (s.ifRunning (fun s => s.atFrameEnd State.measureDue State.measureEvent))

/-- R125: BEAT_EVENT. -/
def execBeatEvent (s : State) : Host.Outcome State Fault Refusal :=
  .next (s.ifRunning (fun s => s.atFrameEnd State.beatDue State.beatEvent))

/-- R103: RATE_WINDOW_EXPIRY, as a frame begins. -/
def execRateWindowExpiry (s : State) : Host.Outcome State Fault Refusal :=
  .next (s.inFrame (fun s => s.ifDue State.rateDue State.rateExpiry))

/-- R107: LOAD_COMPLETE. -/
def execLoadComplete (s : State) : Host.Outcome State Fault Refusal :=
  .next (s.ifRunning (fun s => s.atFrameEnd State.loadDue State.loadEvent))

/-- R110: CUT_COMPLETE. -/
def execCutComplete (s : State) : Host.Outcome State Fault Refusal :=
  .next (s.ifRunning (fun s => s.atFrameEnd State.cutDue State.cutEvent))

/-- R113: CROSSFADE_COMPLETE. -/
def execCrossfadeComplete (s : State) : Host.Outcome State Fault Refusal :=
  .next (s.ifRunning (fun s => s.atFrameEnd State.fadeDue State.fadeEvent))

/-- R115: SPILL_QUIET_END. -/
def execSpillQuietEnd (s : State) : Host.Outcome State Fault Refusal :=
  .next (s.ifRunning (fun s => s.atFrameEnd State.quietDue State.quietEvent))

/-- R115: SPILL_LIMIT_REACHED. -/
def execSpillLimitReached (s : State) : Host.Outcome State Fault Refusal :=
  .next (s.ifRunning (fun s => s.atFrameEnd State.limitDue State.limitEvent))

/-- R140, R144, R145: TUNER_ESTIMATE, with what the estimator found. -/
def execTunerEstimate (frequency confidence : Nat) (s : State) : Host.Outcome State Fault Refusal :=
  .next (s.ifRunning (fun s => s.atFrameEnd State.estimateDue (fun t => t.estimate frequency confidence)))

/-- R156: PEDAL_SILENCE_TIMEOUT. -/
def execPedalSilenceTimeout (link : Link) (s : State) : Host.Outcome State Fault Refusal :=
  .next (s.ifRunning (fun s => s.atFrameEnd (fun t => t.silenceDue link) (fun t => t.silenceEvent link)))

/-- R162: COMBO_WINDOW_EXPIRY. -/
def execComboWindowExpiry (link : Link) (number : Nat) (s : State) : Host.Outcome State Fault Refusal :=
  .next (s.ifRunning (fun s => s.atFrameEnd (fun t => t.comboDue link number) (fun t => t.comboExpiry link number)))

/-- R163: HOLD_TIMER_EXPIRY. -/
def execHoldTimerExpiry (link : Link) (number : Nat) (s : State) : Host.Outcome State Fault Refusal :=
  .next (s.ifRunning (fun s => s.atFrameEnd (fun t => t.holdDue link number) (fun t => t.holdExpiry link number)))

/-- R165: DOUBLE_WINDOW_EXPIRY. -/
def execDoubleWindowExpiry (link : Link) (number : Nat) (s : State) : Host.Outcome State Fault Refusal :=
  .next (s.ifRunning (fun s => s.atFrameEnd (fun t => t.doubleDue link number) (fun t => t.doubleExpiry link number)))

/-- R192: SAT_ACK_TIMEOUT. -/
def execSatAckTimeout (s : State) : Host.Outcome State Fault Refusal :=
  .next (s.ifRunning (fun s => s.atFrameEnd State.ackDue State.satTimeout))

/-- R196: SAT_BYPASS_TIMEOUT. -/
def execSatBypassTimeout (s : State) : Host.Outcome State Fault Refusal :=
  .next (s.ifRunning (fun s => s.atFrameEnd State.bypassDue State.bypassEvent))

end Sys2Proof.Machine
end

