-- ==== Sys2Proof/Machine/HostRequests.lean ====
section
/-! DEFINITION. The meanings of the 47 host requests: each the arrival, on a running part, of the valid control-line frame
that carries the request under its tag, taken, held or discarded by R200 (log 8); what a request taken does is its own rule,
reached through `perform`. -/

namespace Sys2Proof.Machine

/-- R200: the arrival of the frame that carries a request, taken within a frame (log 1). -/
def State.arrival (s : State) (tag : Byte) (r : Request) : State :=
  s.inFrame (receive { tag := tag, body := .request r })

/-- R21: MUTE. -/
def execMute (tag : Byte) (source outputs : Nat) (s : State) : Host.Outcome State Fault Refusal :=
  .next (s.arrival tag (.mute source outputs))

/-- R22: UNMUTE. -/
def execUnmute (tag : Byte) (source outputs : Nat) (s : State) : Host.Outcome State Fault Refusal :=
  .next (s.arrival tag (.unmute source outputs))

/-- R24: METERS. -/
def execMeters (tag : Byte) (clear : Nat) (s : State) : Host.Outcome State Fault Refusal :=
  .next (s.arrival tag (.meters clear))

/-- R46: CURVE_WRITE. -/
def execCurveWrite (tag : Byte) (index : Nat) (name : List Byte) (points : List (Int × Int)) (s : State) : Host.Outcome State Fault Refusal :=
  .next (s.arrival tag (.curveWrite index name points))

/-- R48: CURVE_READ. -/
def execCurveRead (tag : Byte) (index : Nat) (s : State) : Host.Outcome State Fault Refusal :=
  .next (s.arrival tag (.curveRead index))

/-- R47: CURVE_ERASE. -/
def execCurveErase (tag : Byte) (index : Nat) (s : State) : Host.Outcome State Fault Refusal :=
  .next (s.arrival tag (.curveErase index))

/-- R49: PARAM_SET. -/
def execParamSet (tag : Byte) (position index : Nat) (value : Int) (s : State) : Host.Outcome State Fault Refusal :=
  .next (s.arrival tag (.paramSet position index value))

/-- R50: SLOT_SET. -/
def execSlotSet (tag : Byte) (position enabled : Nat) (s : State) : Host.Outcome State Fault Refusal :=
  .next (s.arrival tag (.slotSet position enabled))

/-- R57: INPUT_SELECT. -/
def execInputSelect (tag : Byte) (input : Nat) (s : State) : Host.Outcome State Fault Refusal :=
  .next (s.arrival tag (.inputSelect input))

/-- R65: LOOP_MEASURE. -/
def execLoopMeasure (tag : Byte) (loop : Nat) (s : State) : Host.Outcome State Fault Refusal :=
  .next (s.arrival tag (.loopMeasure loop))

/-- R70: LOOP_SET. -/
def execLoopSet (tag : Byte) (loop : Nat) (latency : Option Nat) (s : State) : Host.Outcome State Fault Refusal :=
  .next (s.arrival tag (.loopSet loop latency))

/-- R71: LOOP_READ. -/
def execLoopRead (tag : Byte) (loop : Nat) (s : State) : Host.Outcome State Fault Refusal :=
  .next (s.arrival tag (.loopRead loop))

/-- R76: PRESET_BEGIN. -/
def execPresetBegin (tag : Byte) (location : Nat) (header : HeaderFields) (s : State) : Host.Outcome State Fault Refusal :=
  .next (s.arrival tag (.presetBegin location header))

/-- R77: PRESET_SLOT. -/
def execPresetSlot (tag : Byte) (slot : SlotFields) (position : Option Nat) (s : State) : Host.Outcome State Fault Refusal :=
  .next (s.arrival tag (.presetSlot slot position))

/-- R78: PRESET_SCENE. -/
def execPresetScene (tag : Byte) (scene : SceneFields) (number : Option Nat) (s : State) : Host.Outcome State Fault Refusal :=
  .next (s.arrival tag (.presetScene scene number))

/-- R79: PRESET_MAP. -/
def execPresetMap (tag : Byte) (key : RawKey) (targets : List RawTarget) (s : State) : Host.Outcome State Fault Refusal :=
  .next (s.arrival tag (.presetMap key targets))

/-- R80: PRESET_SATMSG. -/
def execPresetSatmsg (tag : Byte) (address : Nat) (payload : List Byte) (s : State) : Host.Outcome State Fault Refusal :=
  .next (s.arrival tag (.presetSatmsg address payload))

/-- R81: PRESET_END. -/
def execPresetEnd (tag : Byte) (s : State) : Host.Outcome State Fault Refusal :=
  .next (s.arrival tag (.presetEnd))

/-- R84: PRESET_READ. -/
def execPresetRead (tag : Byte) (location part : Nat) (s : State) : Host.Outcome State Fault Refusal :=
  .next (s.arrival tag (.presetRead location part))

/-- R85: PRESET_ERASE. -/
def execPresetErase (tag : Byte) (location : Nat) (s : State) : Host.Outcome State Fault Refusal :=
  .next (s.arrival tag (.presetErase location))

/-- R86: PRESET_COPY. -/
def execPresetCopy (tag : Byte) (source destination : Nat) (s : State) : Host.Outcome State Fault Refusal :=
  .next (s.arrival tag (.presetCopy source destination))

/-- R94: SWITCH. -/
def execSwitch (tag : Byte) (preset scene : Option Nat) (force : Nat) (s : State) : Host.Outcome State Fault Refusal :=
  .next (s.arrival tag (.switch preset scene force))

/-- R95: SCENE. -/
def execScene (tag : Byte) (number : Nat) (s : State) : Host.Outcome State Fault Refusal :=
  .next (s.arrival tag (.scene number))

/-- R102: HOLD. -/
def execHold (tag : Byte) (value : Nat) (s : State) : Host.Outcome State Fault Refusal :=
  .next (s.arrival tag (.hold value))

/-- R104: SWITCH_SETUP. -/
def execSwitchSetup (tag : Byte) (mode w1 k w2 tunerHold satHold : Nat) (s : State) : Host.Outcome State Fault Refusal :=
  .next (s.arrival tag (.switchSetup mode w1 k w2 tunerHold satHold))

/-- R117: PANIC. -/
def execPanic (tag : Byte) (s : State) : Host.Outcome State Fault Refusal :=
  .next (s.arrival tag (.panic))

/-- R119: HISTORY. -/
def execHistory (tag : Byte) (first : Nat) (s : State) : Host.Outcome State Fault Refusal :=
  .next (s.arrival tag (.history first))

/-- R129: TEMPO_SET. -/
def execTempoSet (tag : Byte) (tempo : Nat) (s : State) : Host.Outcome State Fault Refusal :=
  .next (s.arrival tag (.tempoSet tempo))

/-- R132: TAP. -/
def execTap (tag : Byte) (s : State) : Host.Outcome State Fault Refusal :=
  .next (s.arrival tag (.tap))

/-- R128: TEMPO_LOCK. -/
def execTempoLock (tag : Byte) (value : Nat) (s : State) : Host.Outcome State Fault Refusal :=
  .next (s.arrival tag (.tempoLock value))

/-- R149: TUNER. -/
def execTuner (tag : Byte) (action : Nat) (s : State) : Host.Outcome State Fault Refusal :=
  .next (s.arrival tag (.tuner action))

/-- R150: TUNER_PROFILE. -/
def execTunerProfile (tag : Byte) (profile : Nat) (transpose : Option Int) (offsets : List (Option Int)) (s : State) : Host.Outcome State Fault Refusal :=
  .next (s.arrival tag (.tunerProfile profile transpose offsets))

/-- R151: TUNER_SETUP. -/
def execTunerSetup (tag : Byte) (aref : Nat) (policies : PerMain Nat) (s : State) : Host.Outcome State Fault Refusal :=
  .next (s.arrival tag (.tunerSetup aref policies))

/-- R170: GESTURE_TIMING. -/
def execGestureTiming (tag : Byte) (link : Nat) (combo holdTime double : Option Nat) (s : State) : Host.Outcome State Fault Refusal :=
  .next (s.arrival tag (.gestureTiming link combo holdTime double))

/-- R171: PEDAL_STATUS. -/
def execPedalStatus (tag : Byte) (link first clear : Nat) (s : State) : Host.Outcome State Fault Refusal :=
  .next (s.arrival tag (.pedalStatus link first clear))

/-- R182: MAP_WRITE. -/
def execMapWrite (tag : Byte) (key : RawKey) (targets : List RawTarget) (s : State) : Host.Outcome State Fault Refusal :=
  .next (s.arrival tag (.mapWrite key targets))

/-- R183: MAP_ERASE. -/
def execMapErase (tag : Byte) (entry : EntrySelector) (s : State) : Host.Outcome State Fault Refusal :=
  .next (s.arrival tag (.mapErase entry))

/-- R184: MAP_READ. -/
def execMapRead (tag : Byte) (table : Nat) (entry : EntrySelector) (s : State) : Host.Outcome State Fault Refusal :=
  .next (s.arrival tag (.mapRead table entry))

/-- R181: PERMIT. -/
def execPermit (tag : Byte) (link : Nat) (mask : Option Nat) (s : State) : Host.Outcome State Fault Refusal :=
  .next (s.arrival tag (.permit link mask))

/-- R188: SAT_ADDR. -/
def execSatAddr (tag : Byte) (write : Option AddressWrite) (timeout : Option Nat) (s : State) : Host.Outcome State Fault Refusal :=
  .next (s.arrival tag (.satAddr write timeout))

/-- R194: SAT_SEND. -/
def execSatSend (tag : Byte) (physical acknowledge : Nat) (payload : List Byte) (s : State) : Host.Outcome State Fault Refusal :=
  .next (s.arrival tag (.satSend physical acknowledge payload))

/-- R195: SAT_BYPASS. -/
def execSatBypass (tag : Byte) (value : Nat) (timeout : Option Nat) (s : State) : Host.Outcome State Fault Refusal :=
  .next (s.arrival tag (.satBypass value timeout))

/-- R198: SAT_STATUS. -/
def execSatStatus (tag : Byte) (clear : Nat) (s : State) : Host.Outcome State Fault Refusal :=
  .next (s.arrival tag (.satStatus clear))

/-- R206: IDENT. -/
def execIdent (tag : Byte) (s : State) : Host.Outcome State Fault Refusal :=
  .next (s.arrival tag (.ident))

/-- R207: STATUS. -/
def execStatus (tag : Byte) (part : Nat) (s : State) : Host.Outcome State Fault Refusal :=
  .next (s.arrival tag (.status part))

/-- R208: RESET. -/
def execReset (tag : Byte) (s : State) : Host.Outcome State Fault Refusal :=
  .next (s.arrival tag (.reset))

/-- R205: NOTICE_ROUTE. -/
def execNoticeRoute (tag : Byte) (kind : Nat) (destinations : Option Nat) (s : State) : Host.Outcome State Fault Refusal :=
  .next (s.arrival tag (.noticeRoute kind destinations))

end Sys2Proof.Machine
end

