-- ==== Sys2Proof/Machine/LinkEvents.lean ====
section
/-! DEFINITION. The meanings of the events of the lines: the control link (R199 to R201, R208, R209), the pedal links
(R154 to R158, R166) and the satellite link (R192, R193), with the resets and the pin. On a part that is not running only
the pin, the power and the end of initialisation act (R209, log 6). -/

namespace Sys2Proof.Machine

/-! ## The control link and the resets -/

/-- R199, R200: CONTROL_FRAME_RECEIVED: the bytes of a frame, from its length through its checksum. -/
def execControlFrameReceived (bytes : List Byte) (s : State) : Host.Outcome State Fault Refusal :=
  .next (s.inFrame (fun s =>
    match parseFrame bytes with
    | some f => receive f s
    | none => { s with control := s.control.badFrame }))

/-- R199: CONTROL_BAD_FRAME. -/
def execControlBadFrame (s : State) : Host.Outcome State Fault Refusal :=
  .next (s.inFrame (fun s => { s with control := s.control.badFrame }))

/-- R199: CONTROL_BYTE_GAP_TIMEOUT. -/
def execControlByteGapTimeout (s : State) : Host.Outcome State Fault Refusal :=
  .next (s.inFrame (fun s => { s with control := s.control.badFrame }))

/-- R201: CONTROL_TX_START. -/
def execControlTxStart (s : State) : Host.Outcome State Fault Refusal := .next (s.inFrame txStart)

/-- R201, R208, R209: CONTROL_TX_END. -/
def execControlTxEnd (s : State) : Host.Outcome State Fault Refusal := .next (s.inFrame txEnd)

/-- R208: the RESET reply is on the line. -/
def resetReplyLeaving (s : State) : Bool :=
  match s.control.tx with
  | none => false
  | some t => isResetReply t.item

/-- R208: SOFT_RESET, as the last byte of the RESET reply goes out (log 7). -/
def execSoftReset (s : State) : Host.Outcome State Fault Refusal :=
  .next (s.inFrame (fun s => if resetReplyLeaving s then softReset s else s))

/-- R209: POWER_ON_RESET, at any time. -/
def execPowerOnReset (s : State) : Host.Outcome State Fault Refusal := .next (powerOnReset s)

/-- R209: RESET_PIN_RELEASE begins initialisation. -/
def execResetPinRelease (s : State) : Host.Outcome State Fault Refusal :=
  .next (if s.power = .pinLow then { s with power := .initialising } else s)

/-- R209: INIT_COMPLETE. -/
def execInitComplete (s : State) : Host.Outcome State Fault Refusal :=
  .next (if s.power = .initialising then initComplete s else s)

/-! ## The pedal links -/

/-- R155: PEDAL_IDENT. -/
def execPedalIdent (link : Link) (switches pedals lines : Byte) (s : State) : Host.Outcome State Fault Refusal :=
  .next (s.inFrame (fun s => s.takeIdent link switches pedals lines))

/-- R158, R162, R165: SWITCH_DOWN. -/
def execSwitchDown (link : Link) (number : Byte) (s : State) : Host.Outcome State Fault Refusal :=
  .next (s.inFrame (fun s => s.takeSwitch link number true))

/-- R158, R164: SWITCH_RELEASE. -/
def execSwitchRelease (link : Link) (number : Byte) (s : State) : Host.Outcome State Fault Refusal :=
  .next (s.inFrame (fun s => s.takeSwitch link number false))

/-- R157: PEDAL_EXPR. -/
def execPedalExpr (link : Link) (pedal : Byte) (position : BitVec 16) (s : State) : Host.Outcome State Fault Refusal :=
  .next (s.inFrame (fun s => s.takeExpr link pedal position))

/-- R154: PEDAL_BAD_FRAME. -/
def execPedalBadFrame (link : Link) (cause : PedalFault) (s : State) : Host.Outcome State Fault Refusal :=
  .next (s.inFrame (fun s => s.onLink link (fun p => p.badFrame cause)))

/-- R154: PEDAL_BYTE_GAP_TIMEOUT. -/
def execPedalByteGapTimeout (link : Link) (s : State) : Host.Outcome State Fault Refusal :=
  .next (s.inFrame (fun s => s.onLink link PedalLink.framing))

/-- R166: DISPLAY_TX_START. -/
def execDisplayTxStart (link : Link) (s : State) : Host.Outcome State Fault Refusal :=
  .next (s.inFrame (fun s => s.onLink link PedalLink.displayStart))

/-- R166: DISPLAY_TX_END. -/
def execDisplayTxEnd (link : Link) (s : State) : Host.Outcome State Fault Refusal :=
  .next (s.inFrame (fun s => s.onLink link PedalLink.displayEnd))

/-! ## The satellite link -/

/-- R192: SAT_TX_START. -/
def execSatTxStart (s : State) : Host.Outcome State Fault Refusal :=
  .next (s.inFrame (fun s => { s with sat := s.sat.start }))

/-- R192: SAT_TX_END. -/
def execSatTxEnd (s : State) : Host.Outcome State Fault Refusal :=
  .next (s.inFrame (fun s => s.withSat s.sat.sent))

/-- R193: SAT_ACK. -/
def execSatAck (address : Byte) (s : State) : Host.Outcome State Fault Refusal :=
  .next (s.inFrame (fun s => s.takeAck address))

/-- R193: SAT_DATA. -/
def execSatData (address : Byte) (payload : List Byte) (s : State) : Host.Outcome State Fault Refusal :=
  .next (s.inFrame (fun s => s.takeData address payload))

/-- R193: SAT_BAD_FRAME. -/
def execSatBadFrame (s : State) : Host.Outcome State Fault Refusal :=
  .next (s.inFrame (fun s => { s with sat := s.sat.framing }))

/-- R193: SAT_BYTE_GAP_TIMEOUT. -/
def execSatByteGapTimeout (s : State) : Host.Outcome State Fault Refusal :=
  .next (s.inFrame (fun s => { s with sat := s.sat.framing }))

end Sys2Proof.Machine
end

