-- ==== Sys2Proof/Machine/Dispatch.lean ====
section
/-! DEFINITION. One arm per command: each a direct call of its meaning. -/

namespace Sys2Proof.Machine

def exec (i : Instr) (s : State) : Host.Outcome State Fault Refusal :=
  match i with
  | .mute tag source outputs => Sys2Proof.Machine.execMute tag source outputs s
  | .unmute tag source outputs => Sys2Proof.Machine.execUnmute tag source outputs s
  | .meters tag clear => Sys2Proof.Machine.execMeters tag clear s
  | .curveWrite tag index name points => Sys2Proof.Machine.execCurveWrite tag index name points s
  | .curveRead tag index => Sys2Proof.Machine.execCurveRead tag index s
  | .curveErase tag index => Sys2Proof.Machine.execCurveErase tag index s
  | .paramSet tag position index value => Sys2Proof.Machine.execParamSet tag position index value s
  | .slotSet tag position enabled => Sys2Proof.Machine.execSlotSet tag position enabled s
  | .inputSelect tag input => Sys2Proof.Machine.execInputSelect tag input s
  | .loopMeasure tag loop => Sys2Proof.Machine.execLoopMeasure tag loop s
  | .loopSet tag loop latency => Sys2Proof.Machine.execLoopSet tag loop latency s
  | .loopRead tag loop => Sys2Proof.Machine.execLoopRead tag loop s
  | .presetBegin tag location header => Sys2Proof.Machine.execPresetBegin tag location header s
  | .presetSlot tag slot position => Sys2Proof.Machine.execPresetSlot tag slot position s
  | .presetScene tag scene number => Sys2Proof.Machine.execPresetScene tag scene number s
  | .presetMap tag key targets => Sys2Proof.Machine.execPresetMap tag key targets s
  | .presetSatmsg tag address payload => Sys2Proof.Machine.execPresetSatmsg tag address payload s
  | .presetEnd tag => Sys2Proof.Machine.execPresetEnd tag s
  | .presetRead tag location part => Sys2Proof.Machine.execPresetRead tag location part s
  | .presetErase tag location => Sys2Proof.Machine.execPresetErase tag location s
  | .presetCopy tag source destination => Sys2Proof.Machine.execPresetCopy tag source destination s
  | .switch tag preset scene force => Sys2Proof.Machine.execSwitch tag preset scene force s
  | .scene tag number => Sys2Proof.Machine.execScene tag number s
  | .hold tag value => Sys2Proof.Machine.execHold tag value s
  | .switchSetup tag mode w1 k w2 tunerHold satHold => Sys2Proof.Machine.execSwitchSetup tag mode w1 k w2 tunerHold satHold s
  | .panic tag => Sys2Proof.Machine.execPanic tag s
  | .history tag first => Sys2Proof.Machine.execHistory tag first s
  | .tempoSet tag tempo => Sys2Proof.Machine.execTempoSet tag tempo s
  | .tap tag => Sys2Proof.Machine.execTap tag s
  | .tempoLock tag value => Sys2Proof.Machine.execTempoLock tag value s
  | .tuner tag action => Sys2Proof.Machine.execTuner tag action s
  | .tunerProfile tag profile transpose offsets => Sys2Proof.Machine.execTunerProfile tag profile transpose offsets s
  | .tunerSetup tag aref policies => Sys2Proof.Machine.execTunerSetup tag aref policies s
  | .gestureTiming tag link combo holdTime double => Sys2Proof.Machine.execGestureTiming tag link combo holdTime double s
  | .pedalStatus tag link first clear => Sys2Proof.Machine.execPedalStatus tag link first clear s
  | .mapWrite tag key targets => Sys2Proof.Machine.execMapWrite tag key targets s
  | .mapErase tag entry => Sys2Proof.Machine.execMapErase tag entry s
  | .mapRead tag table entry => Sys2Proof.Machine.execMapRead tag table entry s
  | .permit tag link mask => Sys2Proof.Machine.execPermit tag link mask s
  | .satAddr tag write timeout => Sys2Proof.Machine.execSatAddr tag write timeout s
  | .satSend tag physical acknowledge payload => Sys2Proof.Machine.execSatSend tag physical acknowledge payload s
  | .satBypass tag value timeout => Sys2Proof.Machine.execSatBypass tag value timeout s
  | .satStatus tag clear => Sys2Proof.Machine.execSatStatus tag clear s
  | .ident tag => Sys2Proof.Machine.execIdent tag s
  | .status tag part => Sys2Proof.Machine.execStatus tag part s
  | .reset tag => Sys2Proof.Machine.execReset tag s
  | .noticeRoute tag kind destinations => Sys2Proof.Machine.execNoticeRoute tag kind destinations s
  | .controlFrameReceived bytes => Sys2Proof.Machine.execControlFrameReceived bytes s
  | .controlBadFrame => Sys2Proof.Machine.execControlBadFrame s
  | .controlByteGapTimeout => Sys2Proof.Machine.execControlByteGapTimeout s
  | .controlTxStart => Sys2Proof.Machine.execControlTxStart s
  | .controlTxEnd => Sys2Proof.Machine.execControlTxEnd s
  | .softReset => Sys2Proof.Machine.execSoftReset s
  | .powerOnReset => Sys2Proof.Machine.execPowerOnReset s
  | .initComplete => Sys2Proof.Machine.execInitComplete s
  | .frame input => Sys2Proof.Machine.execFrame input s
  | .measureComplete => Sys2Proof.Machine.execMeasureComplete s
  | .beatEvent => Sys2Proof.Machine.execBeatEvent s
  | .rateWindowExpiry => Sys2Proof.Machine.execRateWindowExpiry s
  | .loadComplete => Sys2Proof.Machine.execLoadComplete s
  | .cutComplete => Sys2Proof.Machine.execCutComplete s
  | .crossfadeComplete => Sys2Proof.Machine.execCrossfadeComplete s
  | .spillQuietEnd => Sys2Proof.Machine.execSpillQuietEnd s
  | .spillLimitReached => Sys2Proof.Machine.execSpillLimitReached s
  | .tunerEstimate frequency confidence => Sys2Proof.Machine.execTunerEstimate frequency confidence s
  | .pedalIdent link switches pedals lines => Sys2Proof.Machine.execPedalIdent link switches pedals lines s
  | .switchDown link number => Sys2Proof.Machine.execSwitchDown link number s
  | .switchRelease link number => Sys2Proof.Machine.execSwitchRelease link number s
  | .pedalExpr link pedal position => Sys2Proof.Machine.execPedalExpr link pedal position s
  | .pedalBadFrame link cause => Sys2Proof.Machine.execPedalBadFrame link cause s
  | .pedalByteGapTimeout link => Sys2Proof.Machine.execPedalByteGapTimeout link s
  | .pedalSilenceTimeout link => Sys2Proof.Machine.execPedalSilenceTimeout link s
  | .comboWindowExpiry link number => Sys2Proof.Machine.execComboWindowExpiry link number s
  | .holdTimerExpiry link number => Sys2Proof.Machine.execHoldTimerExpiry link number s
  | .doubleWindowExpiry link number => Sys2Proof.Machine.execDoubleWindowExpiry link number s
  | .displayTxStart link => Sys2Proof.Machine.execDisplayTxStart link s
  | .displayTxEnd link => Sys2Proof.Machine.execDisplayTxEnd link s
  | .satTxStart => Sys2Proof.Machine.execSatTxStart s
  | .satTxEnd => Sys2Proof.Machine.execSatTxEnd s
  | .satAckTimeout => Sys2Proof.Machine.execSatAckTimeout s
  | .satAck address => Sys2Proof.Machine.execSatAck address s
  | .satData address payload => Sys2Proof.Machine.execSatData address payload s
  | .satBadFrame => Sys2Proof.Machine.execSatBadFrame s
  | .satByteGapTimeout => Sys2Proof.Machine.execSatByteGapTimeout s
  | .satBypassTimeout => Sys2Proof.Machine.execSatBypassTimeout s
  | .resetPinRelease => Sys2Proof.Machine.execResetPinRelease s

end Sys2Proof.Machine
end

