-- ==== Sys2Proof/WellFormed.lean ====
section
/-! DEFINITION. Well-formed commands: those whose operands the lines can carry (R154, R193, R199, R211, R212). A host
request is well formed when a frame can carry it: every field fits its width, counts and the payload fit, and an operand
that the frame does not carry is absent. What a value outside a rule's range does is the rule's own matter, not this
check's. -/

namespace Sys2Proof

open Machine

/-- R211: a number fits its width. -/
def wireFits : Wire → Bool
  | .u w v => decide (v < 256 ^ w)
  | .s w v => decide (-(256 ^ w : Int) ≤ 2 * v ∧ 2 * v < (256 ^ w : Int))

/-- R172, R211: the partner travels only with a COMBO. -/
def keyShape (k : RawKey) : Bool := k.gesture == 4 || k.partner == 0

/-- R183: a selector's key. -/
def selectorShape : EntrySelector → Bool
  | .key k => keyShape k
  | .index _ => true

/-- R211: what the fields cannot say by their widths: the operands a frame of the kind does not carry are absent. -/
def requestShape : Request → Bool
  | .presetMap k _ => keyShape k
  | .mapWrite k _ => keyShape k
  | .mapErase e => selectorShape e
  | .mapRead _ e => selectorShape e
  | .tunerProfile _ _ os => os.length == 12
  | .satBypass v t => v == 1 || t.isNone
  | _ => true

/-- R199: the bytes of the payload fit the length byte. -/
def requestWellFormed (r : Request) : Bool :=
  requestShape r && (requestFields r).all wireFits && decide ((wireBytes (requestFields r)).length ≤ 250)

/-- R141: a confidence lies in 0..100, and a frequency in the 4 bytes its notice gives it. -/
def estimateOk (frequency confidence : Nat) : Bool := decide (frequency < 4294967296 ∧ confidence ≤ 100)

/-- The number of a switch record (R153). -/
def switchOk (number : Nat) : Bool := decide (number ≤ 31)

/-- The request an instruction stands for, with its tag; none for an event. -/
def requestOf : Instr → Option (Byte × Request)
  | .mute tag source outputs => some (tag, .mute source outputs)
  | .unmute tag source outputs => some (tag, .unmute source outputs)
  | .meters tag clear => some (tag, .meters clear)
  | .curveWrite tag index name points => some (tag, .curveWrite index name points)
  | .curveRead tag index => some (tag, .curveRead index)
  | .curveErase tag index => some (tag, .curveErase index)
  | .paramSet tag position index value => some (tag, .paramSet position index value)
  | .slotSet tag position enabled => some (tag, .slotSet position enabled)
  | .inputSelect tag input => some (tag, .inputSelect input)
  | .loopMeasure tag loop => some (tag, .loopMeasure loop)
  | .loopSet tag loop latency => some (tag, .loopSet loop latency)
  | .loopRead tag loop => some (tag, .loopRead loop)
  | .presetBegin tag location header => some (tag, .presetBegin location header)
  | .presetSlot tag slot position => some (tag, .presetSlot slot position)
  | .presetScene tag scene number => some (tag, .presetScene scene number)
  | .presetMap tag key targets => some (tag, .presetMap key targets)
  | .presetSatmsg tag address payload => some (tag, .presetSatmsg address payload)
  | .presetEnd tag => some (tag, .presetEnd)
  | .presetRead tag location part => some (tag, .presetRead location part)
  | .presetErase tag location => some (tag, .presetErase location)
  | .presetCopy tag source destination => some (tag, .presetCopy source destination)
  | .switch tag preset scene force => some (tag, .switch preset scene force)
  | .scene tag number => some (tag, .scene number)
  | .hold tag value => some (tag, .hold value)
  | .switchSetup tag mode w1 k w2 tunerHold satHold => some (tag, .switchSetup mode w1 k w2 tunerHold satHold)
  | .panic tag => some (tag, .panic)
  | .history tag first => some (tag, .history first)
  | .tempoSet tag tempo => some (tag, .tempoSet tempo)
  | .tap tag => some (tag, .tap)
  | .tempoLock tag value => some (tag, .tempoLock value)
  | .tuner tag action => some (tag, .tuner action)
  | .tunerProfile tag profile transpose offsets => some (tag, .tunerProfile profile transpose offsets)
  | .tunerSetup tag aref policies => some (tag, .tunerSetup aref policies)
  | .gestureTiming tag link combo holdTime double => some (tag, .gestureTiming link combo holdTime double)
  | .pedalStatus tag link first clear => some (tag, .pedalStatus link first clear)
  | .mapWrite tag key targets => some (tag, .mapWrite key targets)
  | .mapErase tag entry => some (tag, .mapErase entry)
  | .mapRead tag table entry => some (tag, .mapRead table entry)
  | .permit tag link mask => some (tag, .permit link mask)
  | .satAddr tag write timeout => some (tag, .satAddr write timeout)
  | .satSend tag physical acknowledge payload => some (tag, .satSend physical acknowledge payload)
  | .satBypass tag value timeout => some (tag, .satBypass value timeout)
  | .satStatus tag clear => some (tag, .satStatus clear)
  | .ident tag => some (tag, .ident)
  | .status tag part => some (tag, .status part)
  | .reset tag => some (tag, .reset)
  | .noticeRoute tag kind destinations => some (tag, .noticeRoute kind destinations)
  | .controlFrameReceived _ => none
  | .controlBadFrame => none
  | .controlByteGapTimeout => none
  | .controlTxStart => none
  | .controlTxEnd => none
  | .softReset => none
  | .powerOnReset => none
  | .initComplete => none
  | .frame _ => none
  | .measureComplete => none
  | .beatEvent => none
  | .rateWindowExpiry => none
  | .loadComplete => none
  | .cutComplete => none
  | .crossfadeComplete => none
  | .spillQuietEnd => none
  | .spillLimitReached => none
  | .tunerEstimate _ _ => none
  | .pedalIdent _ _ _ _ => none
  | .switchDown _ _ => none
  | .switchRelease _ _ => none
  | .pedalExpr _ _ _ => none
  | .pedalBadFrame _ _ => none
  | .pedalByteGapTimeout _ => none
  | .pedalSilenceTimeout _ => none
  | .comboWindowExpiry _ _ => none
  | .holdTimerExpiry _ _ => none
  | .doubleWindowExpiry _ _ => none
  | .displayTxStart _ => none
  | .displayTxEnd _ => none
  | .satTxStart => none
  | .satTxEnd => none
  | .satAckTimeout => none
  | .satAck _ => none
  | .satData _ _ => none
  | .satBadFrame => none
  | .satByteGapTimeout => none
  | .satBypassTimeout => none
  | .resetPinRelease => none

/-- An event's operands are ones its line or its schedule can give. -/
def eventWellFormed : Instr → Bool
  | .controlFrameReceived bytes => (parseFrame bytes).isSome
  | .tunerEstimate frequency confidence => estimateOk frequency confidence
  | .comboWindowExpiry _ number => switchOk number
  | .holdTimerExpiry _ number => switchOk number
  | .doubleWindowExpiry _ number => switchOk number
  | .satAck address => address != 0 && address != 255
  | .satData address payload =>
    address != 0 && address != 255 && decide (1 ≤ payload.length ∧ payload.length ≤ 16)
  | _ => true

/-- A command is well formed. -/
def wellFormed (i : Instr) : Bool :=
  match requestOf i with
  | some (_, r) => requestWellFormed r
  | none => eventWellFormed i

end Sys2Proof
end

