-- ==== Sys2Proof/Safety.lean ====
section
/-! DEFINITION. The terms the statements use: when a request is taken as it arrives (R200), the reply it gets, and what
every command keeps: the bounds of the queues, the built-in curves, the coherence of buffers and engine, of the Tuner,
of the hold-off set, of the Satellite unit and of the pedal links. -/

namespace Sys2Proof.Machine

/-- The end of the open frame has not begun: no event of it has been taken by a command of its own (log 1). -/
abbrev State.midFrame (s : State) : Prop := (s.frameOpen && s.frameEnded) = false

/-- A command that is FRAME, an event of the end of the open frame, or one of power and the pin: every other command is taken
within a frame (log 1). -/
def timesTheFrame : Instr → Bool
  | .frame _ => true
  | .measureComplete => true
  | .beatEvent => true
  | .loadComplete => true
  | .cutComplete => true
  | .crossfadeComplete => true
  | .spillQuietEnd => true
  | .spillLimitReached => true
  | .tunerEstimate _ _ => true
  | .pedalSilenceTimeout _ => true
  | .comboWindowExpiry _ _ => true
  | .holdTimerExpiry _ _ => true
  | .doubleWindowExpiry _ _ => true
  | .satAckTimeout => true
  | .satBypassTimeout => true
  | .powerOnReset => true
  | .resetPinRelease => true
  | .initComplete => true
  | _ => false

/-- R200: a request that arrives is taken at once: the part runs, takes requests, and its reply queue has room; and the end of
the open frame has not begun (else the rest of that end comes first, log 1). -/
def Ready (s : State) : Prop :=
  s.power = .running ∧ s.control.gate = .taking ∧ s.control.replies.length < 8 ∧ s.midFrame

/-- R200: the state with one more reply at the tail of the reply queue. -/
def State.replied (s : State) (tag kind : Byte) (code : ReplyCode) (fields : List Wire) : State :=
  { s with control := { s.control with
      replies := s.control.replies ++ [{ tag := tag, kind := kind, code := code, fields := fields }] } }

/-- The number of marked frames among the queued frames and the frame in flight (R191). -/
def Satellite.marked (u : Satellite) : Nat :=
  u.queue.countP (fun f => f.mark) + (match u.inFlight with | none => 0 | some x => x.frame.mark.toNat)

/-! ## What every command keeps -/

/-- R99, R103, R118, R172, R190, R200, R202: no queue or list is longer than its capacity. -/
def State.queuesBounded (s : State) : Prop :=
  s.notices.queue.length ≤ 32 ∧ s.control.replies.length ≤ 8 ∧ s.control.hold.length ≤ 2 ∧
  s.engine.queue.length ≤ 4 ∧ s.engine.history.length ≤ 16 ∧ s.engine.rateHistory.length ≤ 8 ∧
  s.sat.queue.length ≤ 16 ∧ s.map.entries.length ≤ 96

/-- R42: the table has 32 entries, and the four built-in curves hold their names and lists. -/
def State.builtInsKept (s : State) : Prop :=
  s.curves.length = 32 ∧
  (s.curves.take 4).map (fun e => (e.name, e.points)) = (curvesReset.take 4).map (fun e => (e.name, e.points))

/-- R15: the transition codes of a buffer outside the running roles. -/
def Buffer.atRest (x : Buffer) : Prop :=
  x.tOut = { code := 0, prev := 0 } ∧ x.tIn = { code := 192, prev := 1048576 }

/-- R93: the role that the buffer of the switch under way has in an engine state (none where the rule fixes none). -/
def EngineState.bufferRole : EngineState → Option Role
  | .loading => some .loading
  | .armed => some .ready
  | .cutting => some .ready
  | .crossfading => some .active
  | _ => none

/-- How many buffers have a role of a set. -/
def State.rolesIn (s : State) (p : Role → Bool) : Nat := bufferIds.countP (fun b => p (s.buffers.get b).role)

/-- R91: LOADING or READY. -/
def Role.coming (r : Role) : Bool := r == .loading || r == .ready

/-- R91: SPILL or CUTTING. -/
def Role.leaving (r : Role) : Bool := r == .spill || r == .cutting

/-- R15, R91, R93: the law of the buffer roles; a buffer holds a context unless it is FREE; outside the running roles the
transition codes rest; a switch is under way exactly when the engine does not rest, and its buffer has the role of the
engine's state; OUTGOING occurs only while a crossfade runs, and SPILL and CUTTING only while none does. -/
def State.rolesCoherent (s : State) : Prop :=
  (s.rolesIn (fun r => r == .active) ≤ 1 ∧ s.rolesIn Role.coming ≤ 1 ∧ s.rolesIn Role.leaving ≤ 1 ∧
    s.rolesIn Role.running ≤ 2) ∧
  (∀ b, (s.buffers.get b).role = .free ↔ (s.buffers.get b).context = none) ∧
  (∀ b, (s.buffers.get b).role.running = false → (s.buffers.get b).atRest) ∧
  (s.engine.state.resting = true ↔ s.engine.current = none) ∧
  (∀ cur, s.engine.current = some cur → s.engine.state.bufferRole = some (s.buffers.get cur.buffer).role) ∧
  (s.engine.state.pendingSwitch = false → s.rolesIn Role.coming = 0) ∧
  (s.engine.state ≠ .crossfading → s.rolesIn (fun r => r == .outgoing) = 0) ∧
  (s.engine.state = .crossfading → s.rolesIn Role.leaving = 0)

/-- R93: a resting engine is IDLE with an empty queue and WAITING otherwise. -/
def State.restingByQueue (s : State) : Prop :=
  (s.engine.state = .idle → s.engine.queue = []) ∧ (s.engine.state = .waiting → s.engine.queue ≠ [])

/-- A queued notice is a TUNER_READING. -/
def Notice.isReading (n : Notice) : Bool := n.body.kind == .tunerReading

/-- R135 to R139, R148: the tuner is OFF exactly while its engage set is empty; while OFF it holds no reading and no
TUNER_READING is queued; and the TUNER source is in a mute set exactly while the tuner is not OFF and the output's policy
is MUTE. -/
def State.tunerCoherent (s : State) : Prop :=
  (s.tuner.state = .off ↔ s.tuner.engage.isEmpty = true) ∧
  (s.tuner.state = .off → s.tuner.last = none ∧ s.notices.queue.all (fun n => !n.isReading) = true) ∧
  (∀ o, (s.mains.get o).sources.tuner = true ↔ s.tuner.state ≠ .off ∧ s.tuner.policies.get o = .mute)

/-- R101: TUNER, SATELLITE and MEASURE are in the hold-off set exactly while their conditions and enables hold. -/
def State.holdOffsCurrent (s : State) : Prop :=
  (s.engine.holdOffs.tuner = true ↔ s.tuner.state ≠ .off ∧ s.engine.settings.tunerHold = true) ∧
  (s.engine.holdOffs.satellite = true ↔ 0 < s.sat.activationCount ∧ s.engine.settings.satHold = true) ∧
  (s.engine.holdOffs.measure = true ↔ s.loops.measuring.isSome = true)

/-- R187, R191, R195: the activation count is the number of marked frames held; without a bypass the catch-up table is
empty, and under one only RAW frames are queued. -/
def State.satelliteCoherent (s : State) : Prop :=
  s.sat.activationCount = s.sat.marked ∧ s.sat.table.length = 15 ∧
  (s.sat.bypass = none → s.sat.catchUp = []) ∧
  (s.sat.bypass ≠ none → s.sat.queue.all (fun f => f.origin == .raw) = true)

/-- R156: on an ABSENT link every switch is UP with no snapshot and no wait, and no display message is queued. -/
def PedalLink.quietIfAbsent (p : PedalLink) : Prop :=
  p.identity = none →
    p.display = [] ∧
    ∀ r ∈ p.switches, r.state = .up ∧ r.isDown = false ∧ r.snapshot = none ∧ r.hold = none ∧ r.window = none

/-- R153, R156, R166: 32 switch records and 4 positions; an ABSENT link is quiet; one display message for each key. -/
def State.linksCoherent (s : State) : Prop :=
  ∀ l, (s.pedals.get l).switches.length = 32 ∧ (s.pedals.get l).positions.length = 4 ∧
    (s.pedals.get l).quietIfAbsent ∧ ((s.pedals.get l).display.map DisplayMsg.key).Nodup

end Sys2Proof.Machine
end

