-- ==== Sys2Proof/Certificates/Slice0/Obligations.lean ====
section
/-! DEFINITION. The statements for the provers. Each docstring names the rules of spec/ that the statement formalises. A
host request is stated where it is taken as it arrives (`Ready`, R200); `RequestsAreTakenHeldOrDiscarded` says what becomes
of it otherwise. A record update `with` says that every field not named is unchanged. -/

open Sys2Proof Sys2Proof.Machine

/-! ## The step and the reset -/

/-- The model's own convention for a block (log 4): a step takes the command at the front of the queue and runs it with the
queue's rest; on an empty queue the part idles. -/
def Obligations.StepRunsTheFrontCommand : Prop :=
  ∀ (c : Instr) (s : State),
    step { s with pending := c :: s.pending } = exec c s ∧ (s.pending = [] → step s = .next s)

/-- Every command, in every state, ends in a next state, and leaves the queue of waiting commands as it is: the manual
names no input that stops the part. That both resets keep the waiting commands too is the model's choice (log 4). -/
def Obligations.EveryCommandEndsInANextState : Prop :=
  ∀ (i : Instr) (s : State), ∃ t, exec i s = .next t ∧ t.pending = s.pending

/-- R7, R19, R42, R64, R91, R93, R104, R122, R135, R153, R172, R181, R187, R204, R209: what the state after a power-on
reset holds; all that every command keeps holds in it.
The model's choice: reset is the moment after INIT_COMPLETE, READY queued (log 5). -/
def Obligations.PowerOnValues : Prop :=
  let s := State.reset
  (∀ o, (s.mains.get o).sources = { start := true, panic := false, tuner := false, host := false } ∧
    (s.mains.get o).gain = { code := 0, prev := 0 }) ∧
  (∀ o, (s.meters.get o).clips = 0 ∧ (s.meters.get o).peak = 0 ∧ (s.meters.get o).clipAge = 375) ∧
  s.selected = .a ∧ s.frameCounter = 0 ∧
  (∀ b, (s.buffers.get b).role = .free) ∧
  s.loops = { loop1 := { latency := none, status := .none }, loop2 := { latency := none, status := .none },
              measuring := none } ∧
  (∀ n, (s.location n).preset = none) ∧ s.staging = none ∧
  s.engine.state = .idle ∧ s.engine.queue = [] ∧
  s.engine.settings = { mode := .collapse, w1 := 40, k := 4, w2 := 1000, tunerHold := true, satHold := true } ∧
  s.tempo.tempo = 1200 ∧ s.tempo.period = 24000 ∧ s.tempo.lock = false ∧
  s.tuner.state = .off ∧ s.tuner.aref = 4400 ∧
  (∀ l, (s.pedals.get l).identity = none ∧ (s.pedals.get l).comboMs = 40 ∧ (s.pedals.get l).holdMs = 600 ∧
    (s.pedals.get l).doubleMs = 250 ∧ s.map.masks.get l = 255) ∧
  s.map.entries = [] ∧ s.sat.ackTimeout = 50 ∧ s.sat.queue = [] ∧
  s.notices.queue = [{ body := .ready .powerOn 1, frame := 0, tag := 0 }] ∧
  s.queuesBounded ∧ s.builtInsKept ∧ s.rolesCoherent ∧ s.restingByQueue ∧ s.tunerCoherent ∧ s.holdOffsCurrent ∧
  s.satelliteCoherent ∧ s.linksCoherent

/-! ## What every command keeps -/

/-- R42, R99, R103, R118, R172, R190, R200, R202: every command keeps the capacities of the queues and lists, and no command
changes a built-in curve or the size of the curve table. -/
def Obligations.EveryCommandKeepsCapacitiesAndBuiltIns : Prop :=
  (∀ (s t : State), s.queuesBounded → step s = .next t → t.queuesBounded) ∧
  (∀ (s t : State), s.builtInsKept → step s = .next t → t.builtInsKept)

/-- R15, R91, R93: every command keeps the law of the buffer roles and the coherence of the engine. -/
def Obligations.EveryCommandKeepsBufferRoles : Prop :=
  ∀ (s t : State), s.rolesCoherent → s.restingByQueue → step s = .next t → t.rolesCoherent ∧ t.restingByQueue

/-- R135 to R139, R148: every command keeps the tuner's state, its engage set, its readings and the TUNER mute source in
step with each other. -/
def Obligations.EveryCommandKeepsTunerCoherent : Prop :=
  ∀ (s t : State), s.tunerCoherent → step s = .next t → t.tunerCoherent

/-- R101: every command keeps TUNER, SATELLITE and MEASURE in the hold-off set exactly while their conditions and enables
hold. -/
def Obligations.EveryCommandKeepsHoldOffsCurrent : Prop :=
  ∀ (s t : State), s.holdOffsCurrent → step s = .next t → t.holdOffsCurrent

/-- R187, R191, R195: every command keeps the activation count equal to the number of marked frames, the catch-up table empty
without a bypass, and only RAW frames queued under one. -/
def Obligations.EveryCommandKeepsSatelliteCoherent : Prop :=
  ∀ (s t : State), s.satelliteCoherent → step s = .next t → t.satelliteCoherent

/-- R153, R156, R166: every command keeps an ABSENT pedal link quiet and one display message for each key. -/
def Obligations.EveryCommandKeepsLinksCoherent : Prop :=
  ∀ (s t : State), s.linksCoherent → step s = .next t → t.linksCoherent

/-! ## Level arithmetic (chapter 1) -/

/-- R3, R4, R9: the level operation rounds the exact product over 2^20 half up, passes a sample unchanged at unity, gives 0 at
factor 0, and at any factor up to unity stays between 0 and the sample. The factor of code L, with L − 192 = 12q + j, is M[j] × 2^q, rounded
half up where q is negative; code 0 has 0, no factor lies above 16,777,216, and a higher code has a higher factor. A moving gain stays
between the factor of the frame before and its own, and has its own at sample 31. -/
def Obligations.LevelRoundsHalfUpAndNeverGrowsBelowUnity : Prop :=
  (∀ (x g : Int),
    (2097152 * level x g ≤ 2 * (x * g) + 1048576 ∧ 2 * (x * g) + 1048576 < 2097152 * (level x g + 1)) ∧
    level x 0 = 0 ∧ level x 1048576 = x ∧
    (0 ≤ g → g ≤ 1048576 → (0 ≤ x → 0 ≤ level x g ∧ level x g ≤ x) ∧ (x ≤ 0 → x ≤ level x g ∧ level x g ≤ 0))) ∧
  gainFactor 0 = 0 ∧
  (∀ (code : Nat) (q : Int) (j : Nat) (m : Int), 1 ≤ code → code ≤ 240 → (code : Int) = 192 + 12 * q + j →
    ([1048576, 1110928, 1176987, 1246974, 1321123, 1399681, 1482910, 1571089, 1664511, 1763488, 1868350, 1979448] :
      List Int)[j]? = some m →
    (∀ n : Nat, q = n → gainFactor code = m * 2 ^ n) ∧
    (∀ n : Nat, q = -(n + 1 : Nat) →
      2 ^ (n + 2) * gainFactor code ≤ 2 * m + 2 ^ (n + 1) ∧ 2 * m + 2 ^ (n + 1) < 2 ^ (n + 2) * (gainFactor code + 1))) ∧
  (∀ a b, a < b → b ≤ 240 → 0 ≤ gainFactor a ∧ gainFactor a < gainFactor b ∧ gainFactor b ≤ 16777216) ∧
  ∀ (old new : Int) (k : Nat), k < 32 →
    min old new ≤ sampleFactor old new k ∧ sampleFactor old new k ≤ max old new ∧ sampleFactor old new 31 = new ∧
    (32 * (sampleFactor old new k - old) ≤ (new - old) * (k + 1) ∧
      (new - old) * (k + 1) < 32 * (sampleFactor old new k - old + 1))

/-- R10: a four-frame ramp started at the code c0 toward c1 has in its frame k the code c0 + floor((c1 − c0) × k / 4), stands
at c1 from frame 4 on, and is replaced from the code reached when a new target arrives; a target equal to the code ends the
ramp there. -/
def Obligations.RampReachesItsTargetInFourFrames : Prop :=
  ∀ (r : Ramp) (target : Nat),
    let q := r.retarget target
    let f : Nat → Ramp := fun k => k.repeat Ramp.advance q
    q.code = r.code ∧ q.prev = r.prev ∧
    (∀ k, 1 ≤ k → k ≤ 4 → ((f k).code : Int) = r.code + ((target : Int) - r.code) * k / 4) ∧
    (∀ k, 4 ≤ k → (f k).code = target) ∧
    (target = r.code → ∀ k, (f k).code = r.code)

/-- R6, R13, R29 to R31, R34, R35, R37, R39, R40, R133: a sample through a slot is the clamp of the wet result under the wet factor plus the input
of as many samples earlier as the slot's latency under the dry factor. The wet result by kind: AMP and DRIVE shape the input by their curve
between two levels; GATE, VOLUME and LOOP (from the return) set its level; DELAY adds the tap of D samples earlier and writes it back with
feedback; the rest are those of DesignsKeepWhatTheirRulesState. An internal clip counts while the wet code is above 0, a clip of the output
always. A slot that is disabled and at rest so passes its delayed input, with no internal clip. A frame runs its samples in order, each on
what the one before left, then the gate decides, and the ramps keep the factors reached. A gate opens on a sample at the threshold or at
threshold 0, and closes when the quiet frames reach the release.
The AMP's 8 samples lie before its first stage by log 12. -/
def Obligations.DisabledSlotPassesItsDelayedInput : Prop :=
  (∀ (env : SlotEnv) (slot : Slot) (k : Nat) (p : SlotProgress) (x : Int),
    slot.wet = Ramp.rest 0 → slot.dry = Ramp.rest 192 →
    (∀ y ∈ x :: p.line, -8388608 ≤ y ∧ y ≤ 8388607) →
    (slot.sample env k p x).2 = (p.line ++ [x]).headD 0 ∧
    (slot.sample env k p x).1.clips = p.clips ∧
    (slot.sample env k p x).1.line = (p.line ++ [x]).tail) ∧
  (∀ (env : SlotEnv) (slot : Slot) (k : Nat) (p : SlotProgress) (x : Int),
    let y := slot.sample env k p x
    let m := p.memory
    let d := (p.line ++ [x]).headD 0
    let clamp (v : Int) : Int := max (-8388608) (min 8388607 v)
    let clip (v : Int) : Nat := if clamp v = v then 0 else 1
    let factor (r : Ramp) : Int := r.prev + (gainFactor r.code - r.prev) * ((k : Int) + 1) / 32
    let g (index : Nat) : Int := factor (slot.ramp index)
    let shape (u : Int) : Int := evalCurve (env.curves.getD (slot.value 1).toNat []) u
    let gives (value : Int) (clips : Nat) (memory : SlotMemory) : Prop :=
      let sum := level value (factor slot.wet) + level d (factor slot.dry)
      y.2 = clamp sum ∧ y.1.line = (p.line ++ [x]).tail ∧ y.1.memory = memory ∧
      y.1.clips = p.clips + (if slot.wet.code = 0 then 0 else clips) + clip sum
    match slot.kind with
    | .amp =>
      let u := level d (g 0)
      let w := toneStep true (g 2) (g 3) (g 4) m.tone (shape (clamp u))
      let z := cabinetStep (slot.value 5) m.cabinet (clamp w.2)
      let r := level (clamp z.2) (g 6)
      gives (clamp r) (clip u + clip w.2 + clip z.2 + clip r) { m with tone := w.1, cabinet := z.1 }
    | .drive =>
      let u := level x (g 0)
      let r := level (shape (clamp u)) (g 2)
      gives (clamp r) (clip u + clip r) m
    | .gate => gives (level x (factor m.gate)) 0 m
    | .tone =>
      let w := toneStep false (g 0) (g 1) (g 2) m.tone x
      gives (clamp w.2) (clip w.2) { m with tone := w.1 }
    | .modulation => let w := modWet env slot m x; gives w.value w.clips w.memory
    | .delay =>
      let part : Nat × Nat := ([(1, 4), (3, 4), (1, 2), (2, 3), (1, 1), (2, 1)] : List (Nat × Nat)).getD (slot.value 1).toNat (2, 1)
      let D := if slot.value 0 = 0 then 48 * (slot.value 1).toNat else min 96000 (env.period * part.1 / part.2)
      let tap := m.delayLine.getD (D - 1) 0
      let back := x + tap * slot.value 2 / 100
      let w := x + level tap (g 3)
      gives (clamp w) (clip back + clip w) { m with delayLine := (clamp back :: m.delayLine).take 96000 }
    | .reverb => let w := reverbWet slot k m x; gives w.value w.clips w.memory
    | .loop =>
      let w := level ((if slot.value 0 = 1 then env.ret1 else env.ret2).getD k 0) (g 2)
      gives (clamp w) (clip w) m
    | .volume => gives (level x (g 0)) 0 m
    | .pitch => let w := slot.wetResult env k m x d; gives w.value w.clips w.memory) ∧
  (∀ (env : SlotEnv) (slot : Slot) (block : List Int),
    ∃ q : Nat → SlotProgress,
      q 0 = { line := slot.line, memory := slot.memory, clips := 0 } ∧
      (∀ (k : Nat) (x : Int), block[k]? = some x → q (k + 1) = (slot.sample env k (q k) x).1) ∧
      (∀ k : Nat, (slot.runFrame env block).2[k]? = block[k]?.map (fun x => (slot.sample env k (q k) x).2)) ∧
      let n := q block.length
      let played : Slot := { slot with line := n.line, memory := n.memory, freshClips := n.clips }
      let decided := played.gateDecision block
      let kept (r : Ramp) : Ramp := { r with prev := gainFactor r.code }
      (slot.runFrame env block).1 =
        { decided with
          params := decided.params.map (fun a => { a with ramp := kept a.ramp }),
          wet := kept decided.wet, dry := kept decided.dry,
          memory := { decided.memory with gate := kept decided.memory.gate } }) ∧
  ∀ (slot : Slot) (block : List Int),
    let m := slot.memory
    let threshold := slot.ramp 0
    let heard : Prop := ∃ (k : Nat) (x : Int), block[k]? = some x ∧
      level 8388607 (threshold.prev + (gainFactor threshold.code - threshold.prev) * ((k : Int) + 1) / 32) ≤ |x|
    let release := (3 * (slot.value 1).toNat + 1) / 2
    (slot.kind ≠ .gate → slot.gateDecision block = slot) ∧
    (slot.kind = .gate →
      ((threshold.code = 0 ∨ heard) → slot.gateDecision block =
        { slot with memory :=
          { m with gateOpen := true, gateQuiet := 0, gate := if m.gateOpen then m.gate else m.gate.retarget 192 } }) ∧
      (threshold.code ≠ 0 → ¬ heard → slot.gateDecision block =
        (if m.gateOpen = false then slot
         else if release ≤ m.gateQuiet + 1 then
           { slot with memory := { m with gateOpen := false, gateQuiet := m.gateQuiet + 1, gate := m.gate.retarget 0 } }
         else { slot with memory := { m with gateQuiet := m.gateQuiet + 1 } })))

/-! ## The output stage (chapter 1) -/

/-- R21, R22, R24: MUTE and UNMUTE change one source in the mute sets of the outputs named and reply OK; an empty or unknown
output set, or a source other than PANIC (1) and HOST (3), is refused with OUT_OF_RANGE. METERS answers with the values as they
stand, then sets every peak to 0, and with clear clips yes also the output clip counters and clip marks and the clip counters of
the ACTIVE context.
METERS gives the peak and the clip counter of each output, the mute set and the stored mute code of each main output, and the clip
counters of the ACTIVE context's slots and of its merge.
Source codes and output bits are the positions of log 9, reply fields those of log 24, with no count before a fixed number (log 46). -/
def Obligations.OutputStageRequestsChangeSetsAndMeters : Prop :=
  ∀ (s : State) (tag : Byte) (source outputs clear : Nat), Ready s →
    (if (source = 1 ∨ source = 3) ∧ 1 ≤ outputs ∧ outputs ≤ 15 then
       ∃ m u : PerMain MuteStage,
         exec (.mute tag source outputs) s = .next ((({ s with mains := m } : State)).replied tag 0x01 .ok []) ∧
         exec (.unmute tag source outputs) s = .next ((({ s with mains := u } : State)).replied tag 0x02 .ok []) ∧
         ∀ o, let old := s.mains.get o
           let put (v : Bool) : MuteStage :=
             if source = 1 then { old with sources := { old.sources with panic := v } }
             else { old with sources := { old.sources with host := v } }
           m.get o = (if outputs.testBit o.code then put true else old) ∧
           u.get o = (if outputs.testBit o.code then put false else old)
     else
       exec (.mute tag source outputs) s = .next (s.replied tag 0x01 .outOfRange []) ∧
       exec (.unmute tag source outputs) s = .next (s.replied tag 0x02 .outOfRange [])) ∧
    (let levels : List Wire := [Out.main .fohL, .main .fohR, .main .stage, .main .mon, .send1, .send2].flatMap (fun o =>
       [.u 4 (s.meters.get o).peak, .u 2 (s.meters.get o).clips])
     let sets : List Wire := [MainOut.fohL, .fohR, .stage, .mon].flatMap (fun o =>
       let x := s.mains.get o
       [.u 1 (x.sources.start.toNat + 2 * x.sources.panic.toNat + 4 * x.sources.tuner.toNat + 8 * x.sources.host.toNat),
         .u 1 x.stored])
     let clips : List Wire :=
       match s.active with
       | none => [.u 1 0]
       | some (b, c) =>
         [.u 1 1, .u 1 b.code, .u 1 c.slots.length] ++ c.slots.map (fun x => .u 2 x.clips) ++ [.u 2 c.mergeClips]
     if clear ≤ 1 then
       ∃ (m : PerOut Meter) (bs : PerBuffer Buffer),
         exec (.meters tag clear) s =
           .next ((({ s with meters := m, buffers := bs } : State)).replied tag 0x03 .ok (levels ++ sets ++ clips)) ∧
         (∀ o, let old := s.meters.get o
           m.get o = (if clear = 1 then { old with peak := 0, clips := 0, clipMark := false } else { old with peak := 0 })) ∧
         bs = (match clear, s.active with
           | 1, some (b, c) =>
             s.buffers.set b { s.buffers.get b with
               context := some { c with slots := c.slots.map (fun x => { x with clips := 0 }), mergeClips := 0 } }
           | _, _ => s.buffers)
     else exec (.meters tag clear) s = .next (s.replied tag 0x03 .outOfRange []))

/-- R5, R9 to R12, R15, R20, R23, R27, R58, R59, R63, R66 to R68, R92, R107, R110, R112, R140, R159, R192: FRAME ends the open frame
with what is due at it, lets the waits of the links and the ACK wait fall by one, advances the frame counter, and begins and computes
the next frame. As it begins (`v`): the load count falls, the cut and crossfade counts rise, the transition codes take the values of
their role, a FOLLOW context in its first running frame is fed from the selected input and its follow code moves, a pending change of
the lanes is applied once the lanes it affects are silent, the lane codes move, each mute code moves, and RATE joins the set while the
rules are broken. In the frame (`t`) every code reached gives the factor from which the next frame goes on, the ramps of the slots move
on, and the measured return and the tuner's input wait for the frame's end. What the samples make (lines, memories, clips, row peaks,
what the outputs carry) is the matter of `OutputsStayInRangeAndMutedOutputsAreSilent`; all else of the frame is as the end of the frame before left it.
The model's choices: a FRAME first ends the open frame with the events due at it, in one fixed order (log 1); RATE stays in the set
at a FRAME that satisfies both rules, until RATE_WINDOW_EXPIRY or the end of that frame takes it out (log 21). -/
def Obligations.FrameMovesCodesCountsAndWaits : Prop :=
  ∀ (s : State) (input : FrameInput), s.power = .running →
    ∃ t, exec (.frame input) s = .next t ∧
      let u := s.closeFrame
      let v := u.prepareFrame
      let ended := s.flush
      let samples (b : Block) : List Int := b.toList.map BitVec.toInt
      let link (p : PedalLink) : PedalLink :=
        { p with switches := p.switches.map (fun r =>
          { r with hold := r.hold.map (fun n => n - 1), window := r.window.map (fun n => n - 1) }) }
      -- a four-frame ramp (R10): one frame on, toward a target, and its factor kept for the next frame (R9)
      let moved (r : Ramp) : Ramp :=
        if r.done < 4 then
          { r with code := ((r.start : Int) + ((r.target : Int) - r.start) * (r.done + 1) / 4).toNat, done := r.done + 1 }
        else r
      let toward (target : Nat) (r : Ramp) : Ramp :=
        moved (if target = r.target then r
          else if target = r.code then { r with start := target, target := target, done := 4 }
          else { r with start := r.code, target := target, done := 0 })
      let kept (r : Ramp) : Ramp := { r with prev := gainFactor r.code }
      -- the crossfade frame and the transition codes of a role (R92, R112)
      let fading : Bool := u.engine.state == .crossfading
      let T := u.engine.fadeLength
      let k := if fading then min T (u.engine.fadeFrame + 1) else u.engine.fadeFrame
      let cut (x : Buffer) : Nat := if x.role = .cutting then min 4 (x.cutFrames + 1) else x.cutFrames
      let codes (x : Buffer) : Nat × Nat :=
        match x.context with
        | none => (x.tOut.code, x.tIn.code)
        | some c =>
          match x.role, c.header.policy with
          | .active, _ => (if fading then 192 * k / T else 192, 192)
          | .outgoing, .spill => (192, 192 - 192 * k / T)
          | .outgoing, .cut => (192 - 192 * k / T, 192)
          | .spill, _ => (192, 0)
          | .cutting, _ => (192 - 192 * cut x / 4, x.tIn.code)
          | _, _ => (0, 192)
      -- a running context as the frame begins (R58, R59, R63)
      let started (c : Context) : Context :=
        if c.started then c
        else { c with started := true, fed := if c.header.inputMode = .follow then u.selected else c.fed }
      let fed (c : Context) : Context :=
        if c.header.inputMode = .follow then
          let i := if c.follow.code = 0 then u.selected else c.fed
          { c with fed := i, follow := toward (if i = u.selected then 192 else 0) c.follow }
        else c
      let differ (c : Context) (p : Lanes) (first count : Nat) : Bool :=
        (p.latencies.drop first).take count != (c.lanes.latencies.drop first).take count
      let both (c : Context) (p : Lanes) : Bool :=
        differ c p 0 c.header.nPre || differ c p (c.header.nPre + c.header.nX + c.header.nY) c.header.nPost
      let hitsX (c : Context) (p : Lanes) : Bool :=
        p.compX != c.lanes.compX || differ c p c.header.nPre c.header.nX || both c p
      let hitsY (c : Context) (p : Lanes) : Bool :=
        p.compY != c.lanes.compY || differ c p (c.header.nPre + c.header.nX) c.header.nY || both c p
      let applied (c : Context) : Context :=
        match c.pendingLanes with
        | none => c
        | some p =>
          if (hitsX c p = true → c.laneX.code = 0) ∧ (hitsY c p = true → c.laneY.code = 0) then
            { c with
              slots := c.slots.zipIdx.map (fun q =>
                let n := p.latencies.getD q.2 0
                if q.1.latency = n then q.1 else { q.1 with latency := n, line := List.replicate n 0 }),
              lineX := if p.compX = c.lanes.compX then c.lineX else List.replicate p.compX 0,
              lineY := if p.compY = c.lanes.compY then c.lineY else List.replicate p.compY 0,
              lanes := p, pendingLanes := none }
          else c
      let ramped (c : Context) : Context :=
        { c with
          laneX := toward (match c.pendingLanes with | some p => if hitsX c p then 0 else 192 | none => 192) c.laneX,
          laneY := toward (match c.pendingLanes with | some p => if hitsY c p then 0 else 192 | none => 192) c.laneY }
      let began (x : Buffer) : Buffer :=
        { x with
          loadLeft := if x.role = .loading then x.loadLeft - 1 else x.loadLeft,
          cutFrames := cut x, tOut := { x.tOut with code := (codes x).1 }, tIn := { x.tIn with code := (codes x).2 },
          context := if x.role.running then x.context.map (fun c => ramped (applied (fed (started c)))) else x.context }
      u = (if s.frameOpen then
        { ended with
          frameCounter := (s.frameCounter + 1) % 4294967296, frameOpen := false, frameEnded := false,
          tempo := { ended.tempo with beatTaken := false },
          pedals := { a := link ended.pedals.a, b := link ended.pedals.b },
          sat := { ended.sat with
            inFlight := ended.sat.inFlight.map (fun x => { x with wait := x.wait.map (fun n => n - 1) }) } }
        else s) ∧
      (∀ o, let old := u.mains.get o
        let code :=
          if old.sources.panic then 0
          else if old.sources.start || old.sources.tuner || old.sources.host then old.gain.code - 24
          else min 192 (old.gain.code + 24)
        v.mains.get o = { old with gain := { old.gain with code := code }, stored := max old.stored code }) ∧
      (∀ b, v.buffers.get b = began (u.buffers.get b)) ∧
      v = { u with
        buffers := v.buffers, mains := v.mains,
        engine := { u.engine with
          fadeFrame := k,
          holdOffs := { u.engine.holdOffs with rate := u.engine.holdOffs.rate || u.engine.rateBroken u.frameCounter } } } ∧
      (∀ o, t.mains.get o =
        { v.mains.get o with gain := { (v.mains.get o).gain with prev := gainFactor (v.mains.get o).gain.code } }) ∧
      (∀ b, let x := v.buffers.get b
        let y := t.buffers.get b
        y = { x with
          tOut := { x.tOut with prev := gainFactor x.tOut.code }, tIn := { x.tIn with prev := gainFactor x.tIn.code },
          rowPeak := y.rowPeak, context := y.context } ∧
        (x.role.running = false ∨ x.context = none → y.rowPeak = x.rowPeak ∧ y.context = x.context) ∧
        (x.role.running = true → ∀ c, x.context = some c →
          (y.rowPeak.isSome = true ↔ x.role = .spill) ∧
          ∃ c', y.context = some c' ∧
            c' = { c with
              follow := kept c.follow, laneX := kept c.laneX, laneY := kept c.laneY,
              slots := c'.slots, lineX := c'.lineX, lineY := c'.lineY, freshMergeClips := c'.freshMergeClips } ∧
            c'.slots.length = min c.slots.length (c.header.nPre + c.header.nX + c.header.nY + c.header.nPost) ∧
            ∀ (n : Nat) (new : Slot), c'.slots[n]? = some new → ∃ old : Slot, c.slots[n]? = some old ∧
              new.memory.gate.code = (moved old.memory.gate).code ∧
              new.memory.gate.prev = gainFactor (moved old.memory.gate).code ∧
              new = { old with
                params := old.params.map (fun p => { p with ramp := kept (moved p.ramp) }),
                wet := kept (moved old.wet), dry := kept (moved old.dry),
                freshClips := new.freshClips, line := new.line, memory := new.memory })) ∧
      (∀ o, t.meters.get o = { u.meters.get o with
        carried := (t.meters.get o).carried, freshClips := (t.meters.get o).freshClips,
        freshPeak := ((t.meters.get o).carried.map Int.natAbs).foldl max 0 }) ∧
      t = { v with
        frameOpen := true, frameEnded := false, buffers := t.buffers, meters := t.meters, mains := t.mains,
        loops := { u.loops with
          measuring := u.loops.measuring.map (fun m =>
            { m with block := some (samples (match m.loop with | .one => input.ret1 | .two => input.ret2)) }) },
        tuner := { u.tuner with
          block := if u.tuner.state = .off then u.tuner.block
            else some (samples (match u.selected with | .a => input.inA | .b => input.inB)) } }

/-- R1, R4, R6, R7, R9, R16 to R18, R20, R23, R39, R53 to R56, R61, R66, R67, R115: what the samples of a frame make, from the codes
with which it begins (`v`, as `FrameMovesCodesCountsAndWaits` gives it). Each running context takes its input through the follow code,
the input level and t_in, and AUX-IN through t_in; its slots run in series, the lanes side by side; each lane comes out of its
compensation line, goes through its lane code and its level, and their clamped sum goes into the post section; the clamped rows of the
output matrix, each under t_out, are summed and clamped, and the mute code levels what the output carries. A send carries the clamped
sum of what the LOOP slots of its loop send, or, while its loop is measured, the marker and then silence, with the return read as
silence. Every clamp that changes a sum is counted, and the row peak of a SPILL buffer is the largest magnitude of its rows. Each output
carries samples of the sample range, and a main output whose mute code was and stays 0 carries only zeros. -/
def Obligations.OutputsStayInRangeAndMutedOutputsAreSilent : Prop :=
  ∀ (s : State) (input : FrameInput), s.power = .running →
    ∃ t, exec (.frame input) s = .next t ∧
      (∀ o, ∀ x ∈ (t.meters.get o).carried, -8388608 ≤ x ∧ x ≤ 8388607) ∧
      (∀ o, (s.closeFrame.mains.get o).gain = { code := 0, prev := 0 } → (t.mains.get o).gain.code = 0 →
        ∀ x ∈ (t.meters.get (.main o)).carried, x = 0) ∧
      let v := s.closeFrame.prepareFrame
      let samples (b : Block) : List Int := b.toList.map BitVec.toInt
      let zeros : List Int := List.replicate 32 0
      let clamp (x : Int) : Int := max (-8388608) (min 8388607 x)
      let clips (xs : List Int) : Nat := xs.countP (fun x => decide (clamp x ≠ x))
      -- the level operation (R4) under a fixed code, and under a code that moves through the frame (R9)
      let R (x g : Int) : Int := (x * g + 524288) / 1048576
      let fixed (code : Nat) (xs : List Int) : List Int := xs.map (fun x => R x (gainFactor code))
      let moving (code : Nat) (prev : Int) (xs : List Int) : List Int :=
        xs.zipIdx.map (fun q => R q.1 (prev + (gainFactor code - prev) * ((q.2 : Int) + 1) / 32))
      let sum (xs ys : List Int) : List Int := List.zipWith (fun x y => x + y) xs ys
      let measured (l : LoopId) : Bool := match v.loops.measuring with | none => false | some m => m.loop == l
      let env : SlotEnv :=
        { curves := v.curves.map CurveEntry.points, period := v.tempo.period,
          ret1 := if measured .one then zeros else samples input.ret1,
          ret2 := if measured .two then zeros else samples input.ret2 }
      -- slots in series: their output, the slots after them, and a sum of sends with theirs added
      let run (y : Slot) (xs : List Int) : Slot × List Int := y.beginFrame.runFrame env xs
      let series (slots : List Slot) (xs : List Int) : List Int := slots.foldl (fun b y => (run y b).2) xs
      let after (slots : List Slot) (xs : List Int) : List Slot :=
        (slots.foldl (fun q y => (q.1 ++ [(run y q.2).1], (run y q.2).2)) (([] : List Slot), xs)).1
      let sends (l : LoopId) (a : List Int) (slots : List Slot) (xs : List Int) : List Int :=
        (slots.foldl (fun (q : List Int × List Int) y =>
          (if y.kind = .loop ∧ (y.value 0 = 1 ↔ l = .one) then
             sum q.1 (moving (y.beginFrame.ramp 1).code (y.beginFrame.ramp 1).prev q.2)
           else q.1, (run y q.2).2)) (a, xs)).1
      -- one running context (R53 to R56, R61)
      let part (c : Context) (first count : Nat) : List Slot := (c.slots.drop first).take count
      let slotsPre (c : Context) : List Slot := part c 0 c.header.nPre
      let slotsX (c : Context) : List Slot := part c c.header.nPre c.header.nX
      let slotsY (c : Context) : List Slot := part c (c.header.nPre + c.header.nX) c.header.nY
      let slotsPost (c : Context) : List Slot := part c (c.header.nPre + c.header.nX + c.header.nY) c.header.nPost
      let dry (x : Buffer) (c : Context) : List Int :=
        moving x.tIn.code x.tIn.prev (fixed c.header.inputLevel (moving c.follow.code c.follow.prev
          (match c.fed with | .a => samples input.inA | .b => samples input.inB)))
      let aux (x : Buffer) : List Int := moving x.tIn.code x.tIn.prev (samples input.aux)
      let pre (x : Buffer) (c : Context) : List Int := series (slotsPre c) (dry x c)
      let laneX (x : Buffer) (c : Context) : List Int := c.lineX ++ series (slotsX c) (pre x c)
      let laneY (x : Buffer) (c : Context) : List Int := c.lineY ++ series (slotsY c) (pre x c)
      let merge (x : Buffer) (c : Context) : List Int :=
        sum (fixed c.header.gX (moving c.laneX.code c.laneX.prev ((laneX x c).take 32)))
          (fixed c.header.gY (moving c.laneY.code c.laneY.prev ((laneY x c).take 32)))
      let merged (x : Buffer) (c : Context) : List Int := (merge x c).map clamp
      let row (x : Buffer) (c : Context) (o : MainOut) : List Int :=
        let m := c.header.outputMatrix.get o
        sum (fixed m.main (series (slotsPost c) (merged x c))) (sum (fixed m.dry (dry x c)) (fixed m.aux (aux x)))
      -- the transition mixer, the mute stage and the sends (R16 to R18, R20, R66)
      let running : List (Buffer × Context) := [BufferId.b0, BufferId.b1, BufferId.b2].filterMap (fun b =>
        let x := v.buffers.get b
        if x.role.running then x.context.map (fun c => (x, c)) else none)
      let mixed (o : MainOut) : List Int := running.foldl (fun a q =>
        sum a (moving q.1.tOut.code q.1.tOut.prev ((row q.1 q.2 o).map clamp))) zeros
      let muted (o : MainOut) : List Int :=
        moving (v.mains.get o).gain.code (v.mains.get o).gain.prev ((mixed o).map clamp)
      let sent (l : LoopId) : List Int := running.foldl (fun a q =>
        let p := pre q.1 q.2
        sends l (sends l (sends l (sends l a (slotsPre q.2) (dry q.1 q.2)) (slotsX q.2) p) (slotsY q.2) p)
          (slotsPost q.2) (merged q.1 q.2)) zeros
      let carries (m : Meter) (l : LoopId) : Prop :=
        if measured l then
          m.freshClips = 0 ∧
          m.carried = (if v.loops.measuring.map Measurement.taken = some 0 then
            [4194304, 4194304, 4194304, 4194304] ++ List.replicate 28 0 else zeros)
        else m.freshClips = clips (sent l) ∧ m.carried = (sent l).map clamp
      (∀ o, (t.meters.get (.main o)).carried = (muted o).map clamp ∧
        (t.meters.get (.main o)).freshClips =
          (running.map (fun q => clips (row q.1 q.2 o))).sum + clips (mixed o) + clips (muted o)) ∧
      carries (t.meters.get .send1) .one ∧ carries (t.meters.get .send2) .two ∧
      ∀ b c, (v.buffers.get b).role.running = true → (v.buffers.get b).context = some c →
        let x := v.buffers.get b
        ∃ c', (t.buffers.get b).context = some c' ∧
          c'.slots = after (slotsPre c) (dry x c) ++ after (slotsX c) (pre x c) ++ after (slotsY c) (pre x c) ++
            after (slotsPost c) (merged x c) ∧
          c'.lineX = (laneX x c).drop 32 ∧ c'.lineY = (laneY x c).drop 32 ∧ c'.freshMergeClips = clips (merge x c) ∧
          (x.role = .spill → (t.buffers.get b).rowPeak =
            some (([MainOut.fohL, MainOut.fohR, MainOut.stage, MainOut.mon].flatMap (fun o =>
              (row x c o).map (fun y => (clamp y).natAbs))).foldl max 0))

/-- R5, R7, R8, R20, R23, R68, R115, R131, R140, R156, R196: a frame ends once, and its end changes only counts and marks, each by
the law written here (the capture of a measurement and the tuner's window among them), and posts the CLIP notices that are due: the sets, the engine, the tempo, the library, the map and the control
link are as they were. A command that is neither FRAME nor an event of a frame's end, and that comes when the end of the open frame
has begun, finds the rest of that end taken and the frame counter advanced; before that it acts as the state stands.
The model's choices: a frame's results are taken in at its end, and what comes after an event of that end is taken in the next frame
(log 1); the order of CLIP notices due together (log 30). -/
def Obligations.FrameEndOnlyCounts : Prop :=
  (∀ (s : State),
    let t := s.endFrame
    t.endFrame = t ∧
    (s.frameOpen = false ∨ s.frameEnded = true → t = s) ∧
    (s.frameOpen = true → s.frameEnded = false →
      let counted (m : Meter) : Meter :=
        { m with
          clips := min 65535 (m.clips + m.freshClips), clipMark := m.clipMark || decide (0 < m.freshClips),
          clipAge := min 375 (m.clipAge + 1), peak := max m.peak m.freshPeak, freshClips := 0, freshPeak := 0 }
      let due (o : Out) : Bool := (counted (s.meters.get o)).clipMark && (counted (s.meters.get o)).clipAge == 375
      let outputs : List Out := [.main .fohL, .main .fohR, .main .stage, .main .mon, .send1, .send2]
      (∀ o, t.meters.get o =
        (if due o then { counted (s.meters.get o) with clipMark := false, clipAge := 0 } else counted (s.meters.get o))) ∧
      t.notices =
        ((outputs.filter due).foldl (fun u o => u.post (.clip o (counted (s.meters.get o)).clips)) s).notices ∧
      (∀ o, t.mains.get o = { s.mains.get o with stored := (s.mains.get o).gain.code }) ∧
      (∀ b, let x := s.buffers.get b
        let context := x.context.map (fun c =>
          { c with
            slots := c.slots.map (fun y => { y with clips := min 65535 (y.clips + y.freshClips), freshClips := 0 }),
            mergeClips := min 65535 (c.mergeClips + c.freshMergeClips), freshMergeClips := 0 })
        t.buffers.get b =
          (match x.role, x.rowPeak with
           | .spill, some p =>
             { x with
               spillFrames := x.spillFrames + 1, quietCount := if p < 264 then x.quietCount + 1 else 0,
               rowPeak := none, context := context }
           | _, _ => { x with rowPeak := none, context := context })) ∧
      t.loops = { s.loops with measuring := s.loops.measuring.map (fun m =>
        match m.block with
        | none => m
        | some xs =>
          { m with
            taken := m.taken + xs.length, block := none,
            found := if m.found.isSome then m.found
              else (xs.findIdx? (fun x => decide (83886 ≤ x.natAbs))).map (fun n => m.taken + n) }) } ∧
      t.tuner = (match s.tuner.block with
        | none => s.tuner
        | some xs =>
          let w := s.tuner.window ++ xs
          let n := s.tuner.count + xs.length
          { s.tuner with
            window := w.drop (w.length - 2048), count := n, block := none,
            estimateDue := decide (2048 ≤ n) && (n - 2048) % 1024 == 0 }) ∧
      (∀ l, let p := s.pedals.get l
        t.pedals.get l = { p with
          heard := false,
          silence := if p.identity.isSome && !p.heard then min 2250 (p.silence + 1) else p.silence }) ∧
      t.sat = { s.sat with
        bypass := s.sat.bypass.map (fun b => { b with remaining := b.remaining.map (fun n => n - 1) }) } ∧
      t = { s with
        frameEnded := true, buffers := t.buffers, loops := t.loops, tuner := t.tuner, pedals := t.pedals,
        meters := t.meters, mains := t.mains, sat := t.sat, notices := t.notices })) ∧
  (∀ (c : Instr) (s : State), s.power = .running → timesTheFrame c = false →
    exec c s = exec c s.late ∧ (s.midFrame → s.late = s) ∧
    (s.frameOpen = true → s.frameEnded = true → s.late = { s.closeFrame with frameEnded := true }))

/-! ## Curves and playing sounds (chapter 2) -/

/-- R43: with x rising strictly, the value of a curve at an input between two adjacent breakpoints is that of the straight line between them,
rounded down (Lean's `/` on integers with a positive divisor), and lies between their values, and at
a breakpoint it is that breakpoint's value; so it lies in any range that holds every y. -/
def Obligations.CurveValuesStayInTheRangeOfTheirPoints : Prop :=
  ∀ (points : List (Int × Int)) (lo hi u : Int),
    risingX points = true → points ≠ [] → (∀ p ∈ points, lo ≤ p.2 ∧ p.2 ≤ hi) →
    (lo ≤ evalCurve points u ∧ evalCurve points u ≤ hi) ∧ (∀ p ∈ points, evalCurve points p.1 = p.2) ∧
    ∀ k p q, points[k]? = some p → points[k + 1]? = some q → p.1 ≤ u → u ≤ q.1 →
      min p.2 q.2 ≤ evalCurve points u ∧ evalCurve points u ≤ max p.2 q.2 ∧
      evalCurve points u = p.2 + (q.2 - p.2) * (u - p.1) / (q.1 - p.1)

/-- R46 to R48: CURVE_WRITE checks index, name, read-only, use and shape in this order, and otherwise puts the name and the list into
the entry whole, its count unchanged, and replies OK. CURVE_ERASE empties a user curve that no buffer uses, and CURVE_READ changes
nothing and answers with what the entry holds. -/
def Obligations.CurveRequestsFollowTheirChecks : Prop :=
  (∀ (s : State) (tag : Byte) (index : Nat) (name : List Byte) (points : List (Int × Int)), Ready s →
     let e := s.curves.getD index { name := [], points := [], refs := 0 }
     let refused (code : ReplyCode) :=
       exec (.curveWrite tag index name points) s = .next (s.replied tag 0x04 code [])
     if 31 < index then refused .outOfRange
     else if 8 < name.length ∨ ∃ c ∈ name, c.toNat < 32 ∨ 126 < c.toNat then refused .outOfRange
     else if index ≤ 3 then refused .readOnly
     else if 0 < e.refs then refused .inUse
     else if 2 ≤ points.length ∧ points.length ≤ 16 ∧ (points.map Prod.fst).Pairwise (· < ·) ∧
         points.head?.map Prod.fst = some (-8388608) ∧ points.getLast?.map Prod.fst = some 8388607 ∧
         (∀ p ∈ points, -8388608 ≤ p.2 ∧ p.2 ≤ 8388607) then
       exec (.curveWrite tag index name points) s =
         .next ((({ s with curves := s.curves.set index { name := name, points := points, refs := e.refs } } :
           State)).replied tag 0x04 .ok [])
     else refused .badCurve) ∧
  (∀ (s : State) (tag : Byte) (index : Nat), Ready s →
     let e := s.curves.getD index { name := [], points := [], refs := 0 }
     (if 31 < index then exec (.curveErase tag index) s = .next (s.replied tag 0x06 .outOfRange [])
      else if index ≤ 3 then exec (.curveErase tag index) s = .next (s.replied tag 0x06 .readOnly [])
      else if 0 < e.refs then exec (.curveErase tag index) s = .next (s.replied tag 0x06 .inUse [])
      else if e.points = [] then exec (.curveErase tag index) s = .next (s.replied tag 0x06 .empty [])
      else exec (.curveErase tag index) s =
        .next ((({ s with curves := s.curves.set index { name := [], points := [], refs := e.refs } } :
          State)).replied tag 0x06 .ok [])) ∧
     (if 31 < index then exec (.curveRead tag index) s = .next (s.replied tag 0x05 .outOfRange [])
      else if e.points = [] then exec (.curveRead tag index) s = .next (s.replied tag 0x05 .empty [.u 1 e.refs])
      else exec (.curveRead tag index) s =
        .next (s.replied tag 0x05 .ok
          (wBytes e.name ++ [.u 1 (if index ≤ 3 then 1 else 0), .u 1 e.refs, .u 1 e.points.length] ++
            e.points.flatMap (fun p => [.s 3 p.1, .s 3 p.2])))))

/-- R25 to R27, R49: PARAM_SET of a parameter that is no curve: with no ACTIVE buffer BAD_STATE; a position or index out of range
OUT_OF_RANGE; parameter 0 of a LOOP slot BAD_STATE; the value already held changes nothing; else the slot takes the value clamped to
its range in R25's table, a level-coded parameter as the target of a ramp from the code reached, a new mode clamps the rate or time held
to its range, and the reply carries the value. A clamp of any write is that of the table.
The model's choice: a side clamp by a new mode is not reported (log 16). -/
def Obligations.ParamSetChangesOneParameterOfTheActiveContext : Prop :=
  ∀ (s : State) (tag : Byte) (position index : Nat) (value : Int), Ready s →
    -- the parameters of a kind: the ends of the range, and whether it is level-coded
    let table (kind : SlotKind) (mode : Int) : List (Int × Int × Bool) :=
      match kind with
      | .amp => [(0, 240, true), (0, 31, false), (168, 216, true), (168, 216, true), (168, 216, true), (0, 31, false),
          (0, 240, true)]
      | .drive => [(0, 240, true), (0, 31, false), (0, 240, true)]
      | .gate => [(0, 192, true), (10, 1000, false)]
      | .tone => [(168, 216, true), (168, 216, true), (168, 216, true)]
      | .modulation => [(0, 2, false), (0, 1, false), (if mode = 0 then (1, 200, false) else (0, 5, false)), (0, 100, false)]
      | .delay => [(0, 1, false), (if mode = 0 then (1, 2000, false) else (0, 5, false)), (0, 95, false), (0, 192, true)]
      | .reverb => [(1, 100, false), (0, 192, true)]
      | .loop => [(1, 2, false), (0, 240, true), (0, 240, true)]
      | .volume => [(0, 192, true)]
      | .pitch => [(-24, 24, false), (0, 192, true)]
    let fit (kind : SlotKind) (mode : Int) (k : Nat) (v : Int) : Int :=
      let row := (table kind mode).getD k (0, 0, false)
      if kind = .amp ∧ k = 5 ∧ v = 255 then 255 else max row.1 (min row.2.1 v)
    let mode (x : Slot) : Int :=
      match x.kind with
      | .modulation => max 0 (min 1 (x.value 1))
      | .delay => max 0 (min 1 (x.value 0))
      | _ => 0
    (∀ (x : Slot) (k : Nat) (v : Int), k < (table x.kind 0).length → x.clamped k v = fit x.kind (mode x) k v) ∧
    match s.active with
    | none => exec (.paramSet tag position index value) s = .next (s.replied tag 0x07 .badState [])
    | some (b, c) =>
      match c.slots[position]? with
      | none => exec (.paramSet tag position index value) s = .next (s.replied tag 0x07 .outOfRange [])
      | some slot =>
        if (table slot.kind 0).length ≤ index then
          exec (.paramSet tag position index value) s = .next (s.replied tag 0x07 .outOfRange [])
        else if slot.kind = .loop ∧ index = 0 then
          exec (.paramSet tag position index value) s = .next (s.replied tag 0x07 .badState [])
        else
          let v := fit slot.kind (mode slot) index value
          let code : ReplyCode := if v = value then .ok else .clamped
          ¬ ((slot.kind = .amp ∨ slot.kind = .drive) ∧ index = 1) → slot.params.length = (table slot.kind 0).length →
          if v = slot.value index then
            exec (.paramSet tag position index value) s = .next (s.replied tag 0x07 code [.s 2 v])
          else
            ∃ ps : List Param,
              (let slots := c.slots.set position { slot with params := ps }
               exec (.paramSet tag position index value) s =
                 .next ((s.setContext b { c with slots := slots }).replied tag 0x07 code [.s 2 v])) ∧
              ps.length = slot.params.length ∧
              ∀ k, k < ps.length →
                let none' : Param := { value := 0, ramp := Ramp.silent }
                let old := slot.params.getD k none'
                ps.getD k none' =
                  (if k = index then
                     { value := v,
                       ramp := if ((table slot.kind 0).getD k (0, 0, false)).2.2 then old.ramp.retarget v.toNat else old.ramp }
                   else if (slot.kind = .modulation ∧ index = 1 ∧ k = 2) ∨ (slot.kind = .delay ∧ index = 0 ∧ k = 1) then
                     { value := fit slot.kind v k old.value, ramp := old.ramp }
                   else old)

/-- R45, R49: PARAM_SET of the curve of an AMP or DRIVE slot: the curve held changes nothing; an empty curve is refused with
MISSING_CURVE; else the slot takes the curve, with nothing else of it changed, and one reference moves from the old curve to the new. -/
def Obligations.CurveParameterMovesOneReference : Prop :=
  ∀ (s : State) (tag : Byte) (position : Nat) (value : Int) (b : BufferId) (c : Context) (slot : Slot),
    Ready s → s.active = some (b, c) → c.slots[position]? = some slot → (slot.kind = .amp ∨ slot.kind = .drive) →
    slot.params.length = slot.kind.paramCount →
    let n : Int := if value < 0 then 0 else if 31 < value then 31 else value
    let code : ReplyCode := if n = value then .ok else .clamped
    if n = slot.value 1 then
      exec (.paramSet tag position 1 value) s = .next (s.replied tag 0x07 code [.s 2 n])
    else if (s.curves.getD n.toNat { name := [], points := [], refs := 0 }).points = [] then
      exec (.paramSet tag position 1 value) s = .next (s.replied tag 0x07 .missingCurve [])
    else
      ∃ (cs : List CurveEntry),
        let param : Param := { slot.params.getD 1 { value := 0, ramp := Ramp.silent } with value := n }
        let slot' : Slot := { slot with params := slot.params.set 1 param }
        exec (.paramSet tag position 1 value) s =
          .next ((({ s.setContext b { c with slots := c.slots.set position slot' } with curves := cs } :
            State)).replied tag 0x07 code [.s 2 n]) ∧
        cs.length = s.curves.length ∧
        ∀ k, k < cs.length →
          let old : CurveEntry := s.curves.getD k { name := [], points := [], refs := 0 }
          cs.getD k { name := [], points := [], refs := 0 } =
            { name := old.name, points := old.points,
              refs := old.refs + (if k = n.toNat then 1 else 0) - (if k = (slot.value 1).toNat then 1 else 0) }

/-- R50, R51: SLOT_SET: with no ACTIVE buffer BAD_STATE; a position or value out of range OUT_OF_RANGE; the value held changes
nothing; else the enabled value changes, both bypass codes ramp toward the rest codes of the new value, and SLOT_STATE is
posted.
Codes by log 9. -/
def Obligations.SlotSetStartsTheBypassRamp : Prop :=
  ∀ (s : State) (tag : Byte) (position enabled : Nat), Ready s →
    match s.active with
    | none => exec (.slotSet tag position enabled) s = .next (s.replied tag 0x08 .badState [])
    | some (b, c) =>
      match c.slots[position]? with
      | none => exec (.slotSet tag position enabled) s = .next (s.replied tag 0x08 .outOfRange [])
      | some slot =>
        if 1 < enabled then exec (.slotSet tag position enabled) s = .next (s.replied tag 0x08 .outOfRange [])
        else if slot.enabled = (enabled == 1) then
          exec (.slotSet tag position enabled) s = .next (s.replied tag 0x08 .ok [])
        else
          let new : Slot :=
            { slot with
              enabled := enabled == 1,
              wet := slot.wet.retarget (if enabled = 1 then 192 else 0),
              dry := slot.dry.retarget (if enabled = 1 then 0 else 192) }
          let c' : Context := { c with slots := c.slots.set position new }
          exec (.slotSet tag position enabled) s =
            .next (((s.setContext b c').post (.slotState b c.number (c'.slots.map Slot.enabled))).replied tag 0x08 .ok [])

/-- R32, R33, R36, R38, R41: what the rules state of the designs they leave open. A band of a tone filter is linear and flat at unity, its gain
on its shelf or at its centre is the factor of its code, and a filter with three flat bands passes its input. The cabinet 255 passes its
input, and the others have the corners of the table, the upper 400 Hz lower with each variant. A modulation at depth 0 passes its input, its
phase comes round after a period, and the tremolo's gain at depth 100 reaches unity and silence and stays between them. A reverb that was
cleared stays silent on silence, and 4,800 × decay silent samples bring the peak of its tail to a thousandth. A pitch slot forms its copy
from the input of 64 samples earlier, which at interval 0 the copy is, and which else it runs through 2^(interval / 12) times as fast.
The model's choice: what else a design holds is a free value, and how it is given (log 13); 255 leaves the response memory (log 31). -/
def Obligations.DesignsKeepWhatTheirRulesState : Prop :=
  (∀ (b : Config.Band) (f : Int) (m m' : List Rat) (x x' c c' : Rat),
    m.length = Config.tone.size → m'.length = Config.tone.size →
    let mixed := bandStep b f (List.zipWith (fun q q' => c * q + c' * q') m m') (c * x + c' * x')
    let one := bandStep b f m x
    let other := bandStep b f m' x'
    mixed.2 = c * one.2 + c' * other.2 ∧ mixed.1 = List.zipWith (fun q q' => c * q + c' * q') one.1 other.1 ∧
    (bandStep b 1048576 m x).2 = x) ∧
  (∀ (amp : Bool) (f : Int), 0 ≤ f →
    let d := Config.tone
    ∀ b, b = (toneBands amp).1 ∨ b = (toneBands amp).2.1 ∨ b = (toneBands amp).2.2 →
      ∃ m : Nat → ℂ,
        (∀ i, i < d.size → b.point * m i = (∑ j ∈ Finset.range d.size, (d.feedback b f i j : ℂ) * m j) + (d.input b f i : ℂ)) ∧
        ‖(∑ j ∈ Finset.range d.size, (d.output b f j : ℂ) * m j) + (d.direct b f : ℂ)‖ = (f : ℝ) / 1048576) ∧
  (∀ (amp : Bool) (low mid high : Int) (m : ToneMemory) (x : Int),
    let y := toneStep amp low mid high m x
    let l := bandStep (toneBands amp).1 low m.low x
    let p := bandStep (toneBands amp).2.1 mid m.mid l.2
    let h := bandStep (toneBands amp).2.2 high m.high p.2
    |(y.2 : Rat) - h.2| < 1 ∧ (low = 1048576 → mid = 1048576 → high = 1048576 → y.2 = x)) ∧
  (∀ (index memory : Nat) (x : Int),
    cabinetStep 255 memory x = (memory, x) ∧
    ∀ row, ([(.open112, 95, 5600), (.closed112, 80, 5200), (.open212, 85, 5400), (.closed212, 75, 5000),
        (.straight412, 70, 4800), (.slanted412, 70, 5200), (.four10, 90, 6000), (.one15, 60, 3800)] :
          List (Config.CabinetType × Nat × Nat))[index / 4]? = some row →
      cabinetStep index memory x =
        Config.cabinet { type := row.1, lower := row.2.1, upper := row.2.2 - 400 * (index % 4) } memory x) ∧
  (∀ (env : SlotEnv) (slot : Slot) (m : SlotMemory) (x : Int),
    let y := modWet env slot m x
    (slot.value 3 = 0 → y.value = clampSample x ∧ y.clips = clipOf x) ∧
    (let period := modPeriod env.period (slot.value 1) (slot.value 2)
     1 ≤ period → 0 ≤ m.modPhase → m.modPhase < 1 →
       y.memory.modPhase = m.modPhase + 1 / (period : Rat) - (if m.modPhase + 1 / (period : Rat) < 1 then 0 else 1) ∧
       Config.iterate (phaseStep period) period m.modPhase = m.modPhase) ∧
    (slot.value 0 = 2 → (0 ≤ x → 0 ≤ y.value ∧ y.value ≤ x) ∧ (x ≤ 0 → x ≤ y.value ∧ y.value ≤ 0)) ∧
    (slot.value 0 = 2 → slot.value 3 = 100 →
      (∃ q : Rat, 0 ≤ q ∧ q < 1 ∧ ∀ x, (modWet env slot { m with modPhase := q } x).value = clampSample x) ∧
      ∃ q : Rat, 0 ≤ q ∧ q < 1 ∧ ∀ x, (modWet env slot { m with modPhase := q } x).value = 0)) ∧
  (∀ (slot : Slot) (k : Nat) (m : SlotMemory) (x : Int),
    let decay := (slot.value 0).toNat
    let y := reverbWet slot k m x
    let tail (memory : Nat) : Int := (Config.reverb.step decay memory 0).2
    let silent (n memory : Nat) : Nat := Config.iterate (fun q => (Config.reverb.step decay q 0).1) n memory
    let peaks (memory peak : Nat) : Prop :=
      (∀ n, (tail (silent n memory)).natAbs ≤ peak) ∧ ∃ n, (tail (silent n memory)).natAbs = peak
    y.memory = { m with reverb := (Config.reverb.step decay m.reverb x).1 } ∧
    y.value = clampSample (x + level (Config.reverb.step decay m.reverb x).2 (slot.factor 1 k)) ∧
    (∀ n, tail (silent n 0) = 0) ∧
    (1 ≤ decay → ∀ memory, ∃ peak, peaks memory peak ∧ peaks (silent (4800 * decay) memory) (peak / 1000))) ∧
  (∀ (env : SlotEnv) (slot : Slot) (k : Nat) (m : SlotMemory) (x d : Int), slot.kind = .pitch →
    let y := slot.wetResult env k m x d
    let copy := Config.shifter.step (slot.value 0) m.shifter d
    let w := d + level (if slot.value 0 = 0 then d else copy.2) (slot.factor 1 k)
    y.memory = { m with shifter := copy.1 } ∧ y.value = clampSample w ∧ y.clips = clipOf w) ∧
  (∀ interval memory d, let after := (Config.shifter.step interval memory d).1
    Config.shifter.past after 0 = d ∧ ∀ j, Config.shifter.past after (j + 1) = Config.shifter.past memory j) ∧
  (∀ j, Config.shifter.past [] j = 0) ∧
  ∀ interval : Int, -24 ≤ interval → interval ≤ 24 → interval ≠ 0 →
    Config.CopiesAt ((2 : ℝ) ^ ((interval : ℝ) / 12)) (Config.shifter.step interval) Config.shifter.past

/-! ## Inputs, lanes and loops (chapter 3) -/

/-- R57, R59, R146, R148: INPUT_SELECT: a value other than A (0) and B (1) is refused; the input held changes nothing; else
the selection takes the input, a FOLLOW context outside the running roles is fed from it at once, and a tuner that is not OFF
clears its window, runs and last reading, withdraws every queued TUNER_READING, becomes LISTENING and posts TUNER_STATE.
Codes by log 9. -/
def Obligations.InputSelectChangesTheSelection : Prop :=
  ∀ (s : State) (tag : Byte) (input : Nat), Ready s →
    if 1 < input then exec (.inputSelect tag input) s = .next (s.replied tag 0x09 .outOfRange [])
    else
      let i : Input := if input = 0 then .a else .b
      if s.selected = i then exec (.inputSelect tag input) s = .next (s.replied tag 0x09 .ok [])
      else
        ∃ bs : PerBuffer Buffer,
          (∀ b, bs.get b =
            (match (s.buffers.get b).role.running, (s.buffers.get b).context with
             | false, some c =>
               if c.header.inputMode = .follow then { (s.buffers.get b) with context := some { c with fed := i } }
               else s.buffers.get b
             | _, _ => s.buffers.get b)) ∧
          (let u : State := { s with selected := i, buffers := bs }
           let v : State :=
             if s.tuner.state = .off then u
             else
               ({ u with
                  tuner := { s.tuner with state := .listening, window := [], count := 0, block := none,
                                          estimateDue := false, run := [], weak := 0, last := none },
                  notices := { s.notices with queue := s.notices.queue.filter (fun n => !n.isReading) } } :
                    State).post (.tunerState .listening s.tuner.engage i none)
           exec (.inputSelect tag input) s = .next (v.replied tag 0x09 .ok []))

/-- R62, R64, R65, R70, R71, R101: LOOP_MEASURE starts a measurement and puts MEASURE into the hold-off set; an unknown loop is refused,
and any loop while a measurement runs is refused with BUSY. LOOP_READ changes nothing. LOOP_SET writes the record of a loop that is not
being measured, clamped to 4,095, with status SET; only a change of the latency reaches the contexts that use the loop, and then by the
recomputation of R62.
Reply fields by log 24. -/
def Obligations.LoopRequestsMeasureReadAndSet : Prop :=
  (∀ (s : State) (tag : Byte) (loop : Nat), Ready s → s.holdOffsCurrent →
     (if loop ≠ 1 ∧ loop ≠ 2 then
        exec (.loopMeasure tag loop) s = .next (s.replied tag 0x0A .outOfRange []) ∧
        exec (.loopRead tag loop) s = .next (s.replied tag 0x0C .outOfRange [])
      else
        let l : LoopId := if loop = 1 then .one else .two
        (if s.loops.measuring.isSome then exec (.loopMeasure tag loop) s = .next (s.replied tag 0x0A .busy [])
         else
           exec (.loopMeasure tag loop) s =
             .next ((({ s with
               loops := { s.loops with
                 measuring := some { loop := l, tag := tag, taken := 0, found := none, block := none } },
               engine := { s.engine with holdOffs := { s.engine.holdOffs with measure := true } } } :
                 State)).replied tag 0x0A .accepted [])) ∧
        exec (.loopRead tag loop) s =
          .next (s.replied tag 0x0C .ok
            (wOpt 2 (s.loops.get l).latency ++ [.u 1 (s.loops.get l).status.code] ++
              (match s.loops.measuring with
               | none => [.u 1 0]
               | some m => if m.loop = l then [.u 1 1, .u 2 m.taken] ++ wOpt 2 m.found else [.u 1 0]))))) ∧
  (∀ (s : State) (tag : Byte) (loop : Nat) (latency : Option Nat), Ready s →
     if loop ≠ 1 ∧ loop ≠ 2 then exec (.loopSet tag loop latency) s = .next (s.replied tag 0x0B .outOfRange [])
     else
       let l : LoopId := if loop = 1 then .one else .two
       let v := latency.map (fun n => min 4095 n)
       let u := s.loops.set l { latency := v, status := .set }
       if (match s.loops.measuring with | none => false | some m => m.loop == l) then
         exec (.loopSet tag loop latency) s = .next (s.replied tag 0x0B .busy [])
       else
         ∃ bs : PerBuffer Buffer,
           exec (.loopSet tag loop latency) s =
             .next ((({ s with loops := u, buffers := bs } : State)).replied tag 0x0B
               (if v = latency then .ok else .clamped) (wOpt 2 v)) ∧
           ((s.loops.get l).latency = v → bs = s.buffers) ∧
           ((s.loops.get l).latency ≠ v → ∀ b,
             match (s.buffers.get b).context with
             | none => bs.get b = s.buffers.get b
             | some c =>
               if c.usesLoop l then
                 bs.get b = { s.buffers.get b with
                   context := some (if (s.buffers.get b).role.running then
                       { c with pendingLanes := if c.lanesUnder u = c.lanes then none else some (c.lanesUnder u) }
                     else c.applyLanes (c.lanesUnder u)) }
               else bs.get b = s.buffers.get b))

/-- R68: MEASURE_COMPLETE, due once 4,096 samples are captured, gives the loop the index found with status OK, or keeps its
latency with status NO_RETURN; the unit rests, the contexts are recomputed if the latency changed, MEASURE leaves the hold-off
set with a test of the queue's head, and MEASURE_DONE is posted. Without it being due the command changes nothing.
Without effect when not due: log 2. -/
def Obligations.MeasurementCompletesAfterItsCapture : Prop :=
  ∀ (s : State), s.power = .running →
    if s.frameOpen = false then exec .measureComplete s = .next s
    else
    match s.endFrame.loops.measuring with
    | none => exec .measureComplete s = .next s
    | some m =>
      if m.taken < 4096 then exec .measureComplete s = .next s
      else
        let old := s.endFrame.loops.get m.loop
        let new : LoopRecord :=
          match m.found with
          | some n => { latency := some n, status := .ok }
          | none => { old with status := .noReturn }
        let u : State := { s.endFrame with loops := { s.endFrame.loops with measuring := none }.set m.loop new }
        let v := if old.latency = new.latency then u else u.recomputeLoop m.loop
        exec .measureComplete s =
          .next (v.syncTest.post (.measureDone m.loop new.status old.latency new.latency) m.tag)

/-! ## The preset library (chapter 4) -/

/-- R76: PRESET_BEGIN refuses a field that is no value of its kind and leaves the staging record as it was; else the record opens
with the header, its numeric fields clamped to their ranges, and four empty lists, and the reply carries the header: REPLACED
over an open record, else CLAMPED or OK. -/
def Obligations.PresetBeginOpensTheStagingRecord : Prop :=
  ∀ (s : State) (tag : Byte) (location : Nat) (f : HeaderFields), Ready s →
    if location ≤ 255 ∧ f.inputMode ≤ 2 ∧ f.policy ≤ 1 ∧ f.quantize ≤ 2 ∧
        f.nPre ≤ 16 ∧ f.nX ≤ 16 ∧ f.nY ≤ 16 ∧ f.nPost ≤ 16 ∧
        1 ≤ f.nPre + f.nX + f.nY + f.nPost ∧ f.nPre + f.nX + f.nY + f.nPost ≤ 16 ∧
        f.defaultScene ≤ 7 ∧ f.name.length ≤ 16 ∧ (∀ c ∈ f.name, 32 ≤ c.toNat ∧ c.toNat ≤ 126) then
      ∃ h : Header,
        (let record : Preset := { header := h, slots := [], scenes := [], overlay := [], messages := [] }
         exec (.presetBegin tag location f) s =
          .next ((({ s with staging := some { location := location, record := record } } : State)).replied tag 0x0D
              (if s.staging.isSome then .replaced
               else if h.inputLevel = f.inputLevel ∧ h.gX = f.gX ∧ h.gY = f.gY ∧ h.outputMatrix = f.outputMatrix ∧
                   h.frames = f.frames ∧ h.spillLimit = f.spillLimit ∧ h.tempo = f.tempo then .ok
               else .clamped)
              (wHeader h))) ∧
        h.name = f.name ∧ h.inputMode.code = f.inputMode ∧ h.policy.code = f.policy ∧ h.quantize.code = f.quantize ∧
        h.nPre = f.nPre ∧ h.nX = f.nX ∧ h.nY = f.nY ∧ h.nPost = f.nPost ∧ h.defaultScene = f.defaultScene ∧
        h.inputLevel = min 192 f.inputLevel ∧ h.gX = min 240 f.gX ∧ h.gY = min 240 f.gY ∧
        (∀ o, h.outputMatrix.get o = { main := min 240 (f.outputMatrix.get o).main, dry := min 240 (f.outputMatrix.get o).dry,
                                       aux := min 240 (f.outputMatrix.get o).aux }) ∧
        h.frames = max 1 (min 64 f.frames) ∧ h.spillLimit = min 8000 f.spillLimit ∧
        h.tempo = f.tempo.map (fun t => max 400 (min 3000 t))
    else exec (.presetBegin tag location f) s = .next (s.replied tag 0x0D .outOfRange [])

/-- R77, R78: PRESET_SLOT and PRESET_SCENE: the checks in their order; an append or a replacement of the slot record, its values
clamped, with a reply of the position and the values held; of the scene record, stored as given.
Codes by log 9, reply fields by log 24 and log 32. -/
def Obligations.PresetSlotsAndScenesAppendOrReplace : Prop :=
  (∀ (s : State) (tag : Byte) (f : SlotFields) (position : Option Nat), Ready s →
     match s.staging with
     | none => exec (.presetSlot tag f position) s = .next (s.replied tag 0x0E .notOpen [])
     | some st =>
       let held := st.record.slots.length
       let n := position.getD held
       let refused (code : ReplyCode) := exec (.presetSlot tag f position) s = .next (s.replied tag 0x0E code [])
       if held < n then refused .outOfRange
       else if n = held ∧ 16 ≤ held then refused .full
       else
         match slotKindOf f.kind with
         | none => refused .outOfRange
         | some k =>
           if 1 < f.enabled ∨ f.values.length ≠ k.paramCount then refused .outOfRange
           else
             ∃ vs : List Int,
               vs.length = f.values.length ∧
               (∀ i, i < vs.length → vs.getD i 0 = k.clamp (k.modeOf f.values) i (f.values.getD i 0)) ∧
               (let r : SlotRecord := { kind := k, enabled := f.enabled == 1, values := vs }
                let slots := if n = held then st.record.slots ++ [r] else st.record.slots.set n r
                exec (.presetSlot tag f position) s =
                  .next ((({ s with staging := some { st with record := { st.record with slots := slots } } } :
                    State)).replied tag 0x0E
                      (if n < held then .replaced else if vs = f.values then .ok else .clamped)
                      ([.u 1 n, .u 1 vs.length] ++ vs.map (fun v => .s 2 v))))) ∧
  (∀ (s : State) (tag : Byte) (f : SceneFields) (number : Option Nat), Ready s →
     match s.staging with
     | none => exec (.presetScene tag f number) s = .next (s.replied tag 0x0F .notOpen [])
     | some st =>
       let held := st.record.scenes.length
       let n := number.getD held
       let refused (code : ReplyCode) := exec (.presetScene tag f number) s = .next (s.replied tag 0x0F code [])
       if held < n then refused .outOfRange
       else if n = held ∧ 8 ≤ held then refused .full
       else if f.name.length ≤ 8 ∧ (∀ c ∈ f.name, 32 ≤ c.toNat ∧ c.toNat ≤ 126) ∧
           1 ≤ f.enables.length ∧ f.enables.length ≤ 16 ∧ (∀ e ∈ f.enables, e ≤ 1) ∧ f.overrides.length ≤ 16 ∧
           (∀ o ∈ f.overrides, o.position ≤ 15 ∧ o.index ≤ 7 ∧ -32768 ≤ o.value ∧ o.value ≤ 32767) then
         let r : SceneRecord := { name := f.name, enables := f.enables.map (fun e => e == 1), overrides := f.overrides }
         let scenes := if n = held then st.record.scenes ++ [r] else st.record.scenes.set n r
         exec (.presetScene tag f number) s =
           .next ((({ s with staging := some { st with record := { st.record with scenes := scenes } } } :
             State)).replied tag 0x0F (if n < held then .replaced else .ok) [.u 1 n])
       else refused .outOfRange)

/-- R79, R80: PRESET_MAP and PRESET_SATMSG add to the lists of the staging record: an entry of bad form or a message out of range
is refused, an entry of a key held replaces it in place, and the seventeenth entry and the ninth message are refused with
FULL. -/
def Obligations.PresetListsGrowToTheirCapacity : Prop :=
  ∀ (s : State) (tag : Byte) (key : RawKey) (targets : List RawTarget) (address : Nat) (payload : List Byte), Ready s →
    match s.staging with
    | none =>
      exec (.presetMap tag key targets) s = .next (s.replied tag 0x10 .notOpen []) ∧
      exec (.presetSatmsg tag address payload) s = .next (s.replied tag 0x11 .notOpen [])
    | some st =>
      (match entryOf key targets with
       | .error _ => exec (.presetMap tag key targets) s = .next (s.replied tag 0x10 .outOfRange [])
       | .ok e =>
         if ∃ x ∈ st.record.overlay, x.key = e.key then
           let overlay := st.record.overlay.map (fun x => if x.key = e.key then e else x)
           exec (.presetMap tag key targets) s =
             .next ((({ s with staging := some { st with record := { st.record with overlay := overlay } } } :
               State)).replied tag 0x10 .replaced [])
         else if 16 ≤ st.record.overlay.length then
           exec (.presetMap tag key targets) s = .next (s.replied tag 0x10 .full [])
         else
           let overlay := st.record.overlay ++ [e]
           exec (.presetMap tag key targets) s =
             .next ((({ s with staging := some { st with record := { st.record with overlay := overlay } } } :
               State)).replied tag 0x10 .ok [])) ∧
      (if 8 ≤ st.record.messages.length then
         exec (.presetSatmsg tag address payload) s = .next (s.replied tag 0x11 .full [])
       else if 15 < address ∨ payload.length < 1 ∨ 16 < payload.length then
         exec (.presetSatmsg tag address payload) s = .next (s.replied tag 0x11 .outOfRange [])
       else
         let messages := st.record.messages ++ [{ address := address, payload := payload }]
         exec (.presetSatmsg tag address payload) s =
           .next ((({ s with staging := some { st with record := { st.record with messages := messages } } } :
             State)).replied tag 0x11 .ok []))

/-- R28, R81, R82: PRESET_END goes through the checks of R81 in their order. The first that fails gives the reply its code and part
index: 0 for the header's counts, the scenes missing, the default scene and the budget, else the index of the first slot, scene or
overlay entry that fails, as R83 numbers the parts; nothing else changes. A record that meets them all is stored in its location, the
store count rises, the staging record closes, and the reply carries location and count. -/
def Obligations.PresetEndStoresOnlyAValidRecord : Prop :=
  ∀ (s : State) (tag : Byte), Ready s →
    match s.staging with
    | none => exec (.presetEnd tag) s = .next (s.replied tag 0x12 .notOpen [.u 1 0])
    | some st =>
      let p := st.record
      let n := p.slots.length
      let failed (code : ReplyCode) (part : Nat) : Prop :=
        exec (.presetEnd tag) s = .next (s.replied tag 0x12 code [.u 1 1, .u 1 part])
      let header (ok : Prop) (code : ReplyCode) (rest : Prop) : Prop := (¬ ok → failed code 0) ∧ (ok → rest)
      let each (bad : Nat → Prop) (code : ReplyCode) (base : Nat) (rest : Prop) : Prop :=
        (∀ k, bad k → (∀ j, j < k → ¬ bad j) → failed code (base + k)) ∧ ((∀ k, ¬ bad k) → rest)
      let shortScene (k : Nat) : Prop := ∃ c, p.scenes[k]? = some c ∧ c.enables.length ≠ n
      let badOverride (k : Nat) : Prop := ∃ c, p.scenes[k]? = some c ∧ ∃ o ∈ c.overrides,
        ¬ ∃ r, p.slots[o.position]? = some r ∧ o.index < r.kind.paramCount ∧ ¬ (r.kind = .loop ∧ o.index = 0)
      let secondLoop (k : Nat) : Prop := ∃ r q j, p.slots[k]? = some r ∧ p.slots[j]? = some q ∧ j < k ∧
        r.kind = .loop ∧ q.kind = .loop ∧ r.values.getD 0 0 = q.values.getD 0 0
      let emptyCurve (k : Nat) : Prop := ∃ r m, p.slots[k]? = some r ∧ r.curve = some m ∧ curveHeld s.curves m = false
      let denied (k : Nat) : Prop := ∃ e, p.overlay[k]? = some e ∧
        ∃ t ∈ e.targets, (s.map.masks.get e.key.link).getLsbD t.class.code = false
      let count := ((s.location st.location).stores + 1) % 65536
      header (n = p.header.nPre + p.header.nX + p.header.nY + p.header.nPost) .badState
        (header (p.scenes ≠ []) .badState
          (each shortScene .badState (1 + n)
            (header (p.header.defaultScene < p.scenes.length) .outOfRange
              (each badOverride .outOfRange (1 + n)
                (each secondLoop .badState 1
                  (header ((p.slots.map (fun r => r.kind.cost)).sum ≤ 120) .overBudget
                    (each emptyCurve .missingCurve 1
                      (each denied .denied (1 + n + p.scenes.length)
                        (exec (.presetEnd tag) s =
                          .next ((({ s with
                            library := s.library.set st.location { preset := some p, stores := count },
                            staging := none } : State)).replied tag 0x12 .ok
                              [.u 1 st.location, .u 2 (if st.location < s.library.length then count else 0)]))))))))))

/-- R83, R84: PRESET_READ changes nothing; an EMPTY location answers EMPTY with its store count, a part index at or beyond the
part count END_OF_RECORD, and any other part OK with location, index, counts and the part.
Codes by log 9, reply fields by log 24. -/
def Obligations.PresetReadAnswersByPart : Prop :=
  ∀ (s : State) (tag : Byte) (location part : Nat), Ready s →
    if 255 < location then exec (.presetRead tag location part) s = .next (s.replied tag 0x13 .outOfRange [])
    else
      let stores := (s.location location).stores
      match (s.location location).preset with
      | none => exec (.presetRead tag location part) s = .next (s.replied tag 0x13 .empty [.u 2 stores])
      | some p =>
        let count := 1 + p.slots.length + p.scenes.length + p.overlay.length + p.messages.length
        if count ≤ part then
          exec (.presetRead tag location part) s = .next (s.replied tag 0x13 .endOfRecord [.u 1 count, .u 2 stores])
        else
          exec (.presetRead tag location part) s =
            .next (s.replied tag 0x13 .ok ([.u 1 location, .u 1 part, .u 1 count, .u 2 stores] ++ p.part part)) ∧
          (part = 0 → p.part part = wHeader p.header ++
            [.u 1 p.slots.length, .u 1 p.scenes.length, .u 1 p.overlay.length, .u 1 p.messages.length]) ∧
          (∀ n r, part = 1 + n → p.slots[n]? = some r → p.part part =
            [.u 1 n, .u 1 r.kind.code, .u 1 r.enabled.toNat, .u 1 r.values.length] ++ r.values.map (fun v => .s 2 v)) ∧
          (∀ n c, part = 1 + p.slots.length + n → p.scenes[n]? = some c → p.part part =
            .u 1 n :: wBytes c.name ++ [.u 1 c.enables.length] ++ c.enables.map (fun e => .u 1 e.toNat) ++
              [.u 1 c.overrides.length] ++
              c.overrides.flatMap (fun (o : Override) => [.u 1 o.position, .u 1 o.index, .s 2 o.value])) ∧
          (∀ n e, part = 1 + p.slots.length + p.scenes.length + n → p.overlay[n]? = some e →
            p.part part = wKey e.key ++ wList wTarget e.targets) ∧
          (∀ n m, part = 1 + p.slots.length + p.scenes.length + p.overlay.length + n → p.messages[n]? = some m →
            p.part part = .u 1 m.address :: wBytes m.payload)

/-- R72, R85, R86: PRESET_ERASE empties a location that holds a record, and PRESET_COPY puts an exact copy into another location;
each raises the store count it changes by one, wrapping at 65,536; an EMPTY location answers EMPTY, a copy onto itself changes
nothing. -/
def Obligations.EraseAndCopyRaiseTheStoreCount : Prop :=
  ∀ (s : State) (tag : Byte) (source destination : Nat), Ready s →
    (if 255 < source then exec (.presetErase tag source) s = .next (s.replied tag 0x14 .outOfRange [])
     else if (s.location source).preset = none then
       exec (.presetErase tag source) s = .next (s.replied tag 0x14 .empty [])
     else
       let l : Location := { preset := none, stores := ((s.location source).stores + 1) % 65536 }
       exec (.presetErase tag source) s =
         .next ((({ s with library := s.library.set source l } : State)).replied tag 0x14 .ok [])) ∧
    (if 255 < source ∨ 255 < destination then
       exec (.presetCopy tag source destination) s = .next (s.replied tag 0x15 .outOfRange [])
     else
       match (s.location source).preset with
       | none => exec (.presetCopy tag source destination) s = .next (s.replied tag 0x15 .empty [])
       | some p =>
         if source = destination then exec (.presetCopy tag source destination) s = .next (s.replied tag 0x15 .ok [])
         else
           let l : Location := { preset := some p, stores := ((s.location destination).stores + 1) % 65536 }
           exec (.presetCopy tag source destination) s =
             .next ((({ s with library := s.library.set destination l } : State)).replied tag 0x15 .ok []))

/-! ## The Switch Engine (chapter 5) -/

/-- R13, R28, R29, R44, R52, R59, R60, R94, R97, R103, R105 to R107, R116, R118: in COLLAPSE mode, with the engine IDLE and no hold-off, a SWITCH that names a
preset is ACCEPTED and started at once; the start enters the rate history and a record the switch history. Without force, for the
preset of the ACTIVE context, it ends UNCHANGED, or, if it names a scene, as the scene change of R116. An EMPTY location fails with
EMPTY. Otherwise the record is copied into the lowest-numbered FREE buffer, which becomes LOADING for 1 + S frames, and the curve
counts rise; if a curve named is empty, the buffer stays FREE and SWITCH_FAILED reports MISSING_CURVE.
The context copied: header, scenes, overlay and messages of the record; each slot with its level codes and bypass codes at rest, its
latency line of zeros, its clip counter 0 and its memories cleared; the lane latencies, compensations, MISALIGNED mark and total of R60;
the input it is fed from.
The model's choices: reply fields (log 24), the preset and record of a request that ends as a scene change (log 33), and the total
latency and MISALIGNED mark in the SWITCH_DONE of UNCHANGED and of a scene change, those of the ACTIVE context's activation (log 19). -/
def Obligations.SwitchStartsALoadFromIdle : Prop :=
  ∀ (s : State) (tag : Byte) (n force : Nat) (scene : Option Nat),
    Ready s → n ≤ 255 → force ≤ 1 → (∀ k, scene = some k → k ≤ 7) →
    s.engine.settings.mode = .collapse → s.engine.state = .idle → s.engine.queue = [] →
    s.engine.holdOffs = { rate := false, tuner := false, satellite := false, measure := false, host := false } →
    let r : SwitchRequest :=
      { preset := some n, scene := scene, force := force == 1, source := .control, tag := some tag,
        arrival := s.frameCounter, merged := none }
    let rates := (s.frameCounter :: s.engine.rateHistory).take 8
    let e : Engine := { s.engine with rateHistory := rates }
    let record (status : SwitchStatus) : HistoryRecord :=
      { preset := some n, scene := scene, source := .control, status := status, arrival := s.frameCounter,
        start := s.frameCounter, activation := none }
    let started (h : HistoryRecord) : Engine :=
      { e with
        holdOffs := { s.engine.holdOffs with rate := e.rateBroken s.frameCounter },
        history := (h :: s.engine.history).take 16 }
    let answers (t : State) : Prop := exec (.switch tag (some n) scene force) s = .next (t.replied tag 0x16 .accepted [])
    (∀ b c, s.active = some (b, c) → c.number = n → force = 0 →
      match scene with
      | none =>
        answers (({ s with engine := started (record .unchanged) } : State).post
          (.switchDone .control (some n) none .unchanged b 0 c.activationTotal c.activationMisaligned) tag)
      | some k =>
        let m := if k < c.scenes.length then k else c.header.defaultScene
        let status : SwitchStatus := if k < c.scenes.length then .ok else .sceneMissing
        let h : HistoryRecord := { record status with scene := some m, activation := some s.frameCounter }
        ∀ rec, c.scenes[m]? = some rec →
          let applied := ({ s with engine := started (record .inProgress) } : State).applyScene b c m rec
          answers (({ applied with engine := started h } : State).post
            (.switchDone .control (some n) (some m) status b 0 c.activationTotal c.activationMisaligned) tag)) ∧
    ((force = 1 ∨ ∀ b c, s.active = some (b, c) → c.number ≠ n) →
      match s.presetAt n with
      | none =>
        answers (({ s with engine := started (record .empty) } : State).post
          (.switchFailed .control (some n) scene .empty) tag)
      | some p =>
        ∀ b more, s.withRole .free = b :: more →
          let h := p.header
          let latency (x : SlotRecord) : Nat :=
            match x.kind with
            | .amp => 8
            | .pitch => 64
            | .loop => if x.values.getD 0 0 = 1 then s.loops.loop1.latency.getD 0 else s.loops.loop2.latency.getD 0
            | _ => 0
          let cleared : SlotMemory :=
            { tone := { low := [], mid := [], high := [] }, cabinet := 0, modulator := 0, modPhase := 0, reverb := 0,
              shifter := [], delayLine := [], gateOpen := true, gateQuiet := 0, gate := Ramp.rest 192 }
          let param (x : SlotRecord) (v : Int × Nat) : Param :=
            { value := v.1, ramp := Ramp.rest (if x.kind.isLevel v.2 then v.1.toNat else 0) }
          let slot (x : SlotRecord) : Slot :=
            { kind := x.kind, enabled := x.enabled, params := x.values.zipIdx.map (param x),
              wet := Ramp.rest (if x.enabled then 192 else 0), dry := Ramp.rest (if x.enabled then 0 else 192),
              clips := 0, freshClips := 0, latency := latency x, line := List.replicate (latency x) 0,
              memory := cleared }
          let ls := p.slots.map latency
          let pre := (ls.take h.nPre).sum
          let lx := ((ls.drop h.nPre).take h.nX).sum
          let ly := ((ls.drop (h.nPre + h.nX)).take h.nY).sum
          let post := ((ls.drop (h.nPre + h.nX + h.nY)).take h.nPost).sum
          let compX := min 1024 (max lx ly - lx)
          let compY := min 1024 (max lx ly - ly)
          let lanes : Lanes :=
            { latencies := ls, lx := lx, ly := ly, compX := compX, compY := compY,
              misaligned := decide (1024 < max lx ly - min lx ly), total := pre + max (lx + compX) (ly + compY) + post }
          let c : Context :=
            { number := n, header := h, scenes := p.scenes, overlay := p.overlay, messages := p.messages,
              slots := p.slots.map slot, started := false,
              fed := (match h.inputMode with | .a => .a | .b => .b | .follow => s.selected), follow := Ramp.rest 192,
              activeScene := none, lanes := lanes, pendingLanes := none, laneX := Ramp.rest 192, laneY := Ramp.rest 192,
              lineX := List.replicate compX 0, lineY := List.replicate compY 0, mergeClips := 0, freshMergeClips := 0,
              activationTotal := 0, activationMisaligned := false }
          if c.slots.all (fun x => match x.curve with | none => true | some k => curveHeld s.curves k) then
            answers { s with
              curves := s.curves.zipIdx.map (fun e =>
                { e.1 with refs := e.1.refs + c.slots.countP (fun x => x.curve == some e.2) }),
              buffers := s.buffers.set b
                { Buffer.free with role := .loading, loadLeft := 1 + c.slots.length, context := some c },
              engine := { started (record .inProgress) with
                state := .loading,
                current := some { request := r, buffer := b, sceneApplied := none, status := .inProgress } } }
          else
            answers (({ s with
              buffers := s.buffers.set b Buffer.free,
              engine := started (record .missingCurve) } : State).post
                (.switchFailed .control (some n) scene .missingCurve) tag))

/-- R94, R95, R99: SWITCH and SCENE: a field out of range, or a SWITCH with neither preset nor scene, is refused with OUT_OF_RANGE
and nothing is queued; in SEQUENCE mode the fifth request is refused with QUEUE_FULL, and one that arrives while a switch is under
way goes to the queue's tail. -/
def Obligations.SwitchAndSceneQueueInSequence : Prop :=
  ∀ (s : State) (tag : Byte) (preset scene : Option Nat) (force number : Nat), Ready s →
    let legal := force ≤ 1 ∧ (∀ n, preset = some n → n ≤ 255) ∧ (∀ n, scene = some n → n ≤ 7) ∧
      (preset ≠ none ∨ scene ≠ none)
    let request (p sc : Option Nat) (f : Bool) : SwitchRequest :=
      { preset := p, scene := sc, force := f, source := .control, tag := some tag, arrival := s.frameCounter,
        merged := none }
    (¬ legal → exec (.switch tag preset scene force) s = .next (s.replied tag 0x16 .outOfRange [])) ∧
    (7 < number → exec (.scene tag number) s = .next (s.replied tag 0x17 .outOfRange [])) ∧
    (s.engine.settings.mode = .sequence → 4 ≤ s.engine.queue.length →
      (legal → exec (.switch tag preset scene force) s = .next (s.replied tag 0x16 .queueFull [])) ∧
      (number ≤ 7 → exec (.scene tag number) s = .next (s.replied tag 0x17 .queueFull []))) ∧
    (s.engine.settings.mode = .sequence → s.engine.queue.length < 4 → s.engine.state.resting = false →
      (legal → exec (.switch tag preset scene force) s =
        .next ((({ s with engine := { s.engine with
          queue := s.engine.queue ++ [request preset scene (force == 1)] } } : State)).replied tag 0x16 .accepted [])) ∧
      (number ≤ 7 → exec (.scene tag number) s =
        .next ((({ s with engine := { s.engine with
          queue := s.engine.queue ++ [request none (some number) false] } } : State)).replied tag 0x17 .accepted [])))

/-- R97, R98, R100, R108: in COLLAPSE mode, while a load runs and the queue is empty, a scene request and a request for the same
preset are merged into the pending switch (an earlier merged request fails with SUPERSEDED), and a request for another preset
frees the loading buffer, fails the pending request with SUPERSEDED and waits while a hold-off holds.
The model's choices: the merged notice carries the receiving request's fields (log 17), and the newest history record takes the scene
of the merge (log 18). -/
def Obligations.ArrivalsCollapseOntoTheRunningLoad : Prop :=
  ∀ (s : State) (tag : Byte) (number n : Nat) (cur : CurrentSwitch) (h : HistoryRecord) (older : List HistoryRecord),
    Ready s → number ≤ 7 → n ≤ 255 → s.engine.settings.mode = .collapse → s.engine.state = .loading →
    s.engine.current = some cur → s.engine.queue = [] → s.engine.history = h :: older →
    let merged (scene : Option Nat) (u : State) : State :=
      { u with engine := { s.engine with
          history := { h with scene := scene } :: older,
          current := some { cur with request := { cur.request with
            scene := scene, merged := some { source := .control, tag := some tag, arrival := s.frameCounter } } } } }
    let superseded : State :=
      match cur.request.merged with
      | none => s
      | some m => s.post (.switchFailed m.source cur.request.preset cur.request.scene .superseded) (m.tag.getD 0)
    exec (.scene tag number) s = .next ((merged (some number) superseded).replied tag 0x17 .accepted []) ∧
    (cur.request.preset = some n →
      exec (.switch tag (some n) none 0) s = .next ((merged none superseded).replied tag 0x16 .accepted [])) ∧
    (cur.request.preset ≠ some n → s.engine.holdOffs.isEmpty = false → cur.request.merged = none →
      let r : SwitchRequest :=
        { preset := some n, scene := none, force := false, source := .control, tag := some tag,
          arrival := s.frameCounter, merged := none }
      let u := (s.freeBuffer cur.buffer).post
        (.switchFailed cur.request.source cur.request.preset cur.request.scene .superseded) (cur.request.tag.getD 0)
      exec (.switch tag (some n) none 0) s =
        .next ((({ u with engine := { s.engine with
          state := .waiting, queue := [r], current := none, fadeFrame := 0, fadeLength := 0,
          history := { h with status := .superseded, activation := none } :: older } } :
            State)).replied tag 0x16 .accepted []))

/-- R88 to R90, R116, R118, R180: a SCENE request taken at once on the ACTIVE context applies the requested scene, or the default scene with
SCENE_MISSING when the context does not hold it, and ends with SWITCH_DONE. With no ACTIVE context it fails with BAD_STATE. The history record
of R118 holds the scene applied (log 18), and the switch latency is 0, since the request is taken in the frame of its arrival.
`applied` is the application, here and at an activation: the enables change with their bypass ramps; each override is written, clamped, in list
order, a level-coded value as a ramp target, a new mode clamping the rate or time held, a curve moving its reference and an empty one not
made; then the PARAM targets of the MOVE entries, effective for the context, of each PRESENT link run with the pedal's last position as PARAM_SET
writes, denied, unapplied and clamped ones counted; the scene becomes active, and SLOT_STATE and SCENE_ACTIVE are posted, the latter with the
clamped mark and the number of changes not made.
The model's choices: the SWITCH_DONE of a scene request carries no preset (log 33), the total latency and MISALIGNED mark of the ACTIVE
context's activation (log 19), a PARAM value clamped to the value held counts as clamped and an
override clamped but not made sets the mark (log 28), a side clamp by a new mode is not
reported (log 16), and an override of the level held gives its ramp that target again (log 15). -/
def Obligations.SceneRequestAppliesItsScene : Prop :=
  let none' : Param := { value := 0, ramp := Ramp.rest 0 }
  let enabled (rec : SceneRecord) (x : Slot × Nat) : Slot :=
    let on := rec.enables.getD x.2 x.1.enabled
    if x.1.enabled = on then x.1
    else
      { x.1 with
        enabled := on,
        wet := x.1.wet.retarget (if on then 192 else 0),
        dry := x.1.dry.retarget (if on then 0 else 192) }
  let write (r : List Slot × List CurveEntry × Bool × Nat) (o : Override) : List Slot × List CurveEntry × Bool × Nat :=
    match r, r.1[o.position]? with
    | _, none => r
    | (slots, curves, hit, notMade), some x =>
      let v := x.clamped o.index o.value
      let hit := hit || decide (v ≠ o.value)
      let old := x.params.getD o.index none'
      if x.kind.isCurve o.index then
        if v = x.value o.index then (slots, curves, hit, notMade)
        else if curveHeld curves v.toNat then
          (slots.set o.position { x with params := x.params.set o.index { old with value := v } },
            curves.zipIdx.map (fun e => { e.1 with
              refs := e.1.refs + (if e.2 = v.toNat then 1 else 0) - (if e.2 = (x.value o.index).toNat then 1 else 0) }),
            hit, notMade)
        else (slots, curves, hit, notMade + 1)
      else
        let ps := x.params.set o.index
          { value := v, ramp := if x.kind.isLevel o.index then old.ramp.retarget v.toNat else old.ramp }
        let fitted (mode other : Nat) : List Param :=
          let q := ps.getD other none'
          if o.index = mode then
            ps.set other { q with value := x.kind.clamp ((ps.getD mode none').value) other q.value }
          else ps
        let params := match x.kind with
          | .modulation => fitted 1 2
          | .delay => fitted 0 1
          | _ => ps
        (slots.set o.position { x with params := params }, curves, hit, notMade)
  let count (l : Link) (f : MapCounts → MapCounts) (w : State) : State :=
    { w with map := { w.map with counts := w.map.counts.set l (f (w.map.counts.get l)) } }
  let target (key : MapKey) (p : Nat) (r : State × Bool × Nat) (it : Target × Nat) : State × Bool × Nat :=
    match r, it.1 with
    | (w, hit, notMade), .param position index lo hi =>
      let unapplied := count key.link (fun k => { k with unapplied := min 65535 (k.unapplied + 1) }) w
      let y := perform 0 (.paramSet position index (lo + (hi - lo) * (p : Int) / 1023)) w
      if (w.map.masks.get key.link).getLsbD 1 then
        match y.2.code with
        | .ok => (y.1, hit, notMade)
        | .clamped => (count key.link (fun k => { k with clamped := min 65535 (k.clamped + 1) }) y.1, true, notMade)
        | .missingCurve => (unapplied, hit, notMade + 1)
        | _ => (unapplied, hit, notMade)
      else
        ((count key.link (fun k => { k with denied := min 65535 (k.denied + 1) }) w).post
          (.mapDenied key it.2 it.1 true), hit, notMade)
    | _, _ => r
  let entry (r : State × Bool × Nat) (e : MapEntry) : State × Bool × Nat :=
    match e.key.source with
    | .switch _ => r
    | .expr k =>
      match (r.1.pedals.get e.key.link).positions.getD k none with
      | none => r
      | some p => e.targets.zipIdx.foldl (target e.key p) r
  let link (overlay : List MapEntry) (r : State × Bool × Nat) (l : Link) : State × Bool × Nat :=
    let own := overlay.filter (fun e => e.key.link == l)
    if (r.1.pedals.get l).identity = none then r
    else (if own = [] then r.1.map.entries.filter (fun e => e.key.link == l) else own).foldl entry r
  let applied (w : State) (b : BufferId) (c : Context) (n : Nat) (rec : SceneRecord) : State :=
    let o := rec.overrides.foldl write (c.slots.zipIdx.map (enabled rec), w.curves, false, 0)
    let r := [Link.a, Link.b].foldl (link c.overlay)
      ({ w.setContext b { c with slots := o.1 } with curves := o.2.1 }, o.2.2.1, o.2.2.2)
    match (r.1.buffers.get b).context with
    | none => r.1
    | some c' =>
      ((r.1.setContext b { c' with activeScene := some n }).post
        (.slotState b c'.number (c'.slots.map Slot.enabled))).post (.sceneActive b c'.number n rec.name r.2.1 r.2.2)
  (∀ (w : State) (b : BufferId) (c : Context) (n : Nat) (rec : SceneRecord), w.applyScene b c n rec = applied w b c n rec) ∧
  ∀ (s : State) (tag : Byte) (number : Nat),
    Ready s → number ≤ 7 → s.engine.state = .idle → s.engine.queue = [] → s.engine.holdOffs.host = false →
    s.engine.holdOffs.measure = false →
    let f := s.frameCounter
    let record (scene : Nat) (status : SwitchStatus) : HistoryRecord :=
      { preset := none, scene := some scene, source := .control, status := status, arrival := f, start := f,
        activation := some f }
    let recorded (h : HistoryRecord) : Engine := { s.engine with history := (h :: s.engine.history).take 16 }
    match s.active with
    | none =>
      exec (.scene tag number) s =
        .next ((({ s with engine := recorded (record number .badState) } : State).post
          (.switchFailed .control none (some number) .badState) tag).replied tag 0x17 .accepted [])
    | some (b, c) =>
      let found := number < c.scenes.length
      let n := if found then number else c.header.defaultScene
      let status : SwitchStatus := if found then .ok else .sceneMissing
      ∀ rec, c.scenes[n]? = some rec →
        let t := applied { s with engine := recorded (record number .inProgress) } b c n rec
        exec (.scene tag number) s =
          .next ((({ t with engine := recorded (record n status) } : State).post
            (.switchDone .control none (some n) status b 0 c.activationTotal c.activationMisaligned) tag).replied
              tag 0x17 .accepted [])

/-- R101 to R105: HOLD on puts HOST into the hold-off set and HOLD off removes it and tests the head of the queue; SWITCH_SETUP
takes all six settings, the numbers clamped, tests RATE, TUNER and SATELLITE under them and then the head; from SEQUENCE to
COLLAPSE only the newest queued request stays.
Codes by log 9, reply fields by log 24. -/
def Obligations.HoldAndSetupChangeTheHoldOffs : Prop :=
  ∀ (s : State) (tag : Byte) (value mode w1 k w2 tunerHold satHold : Nat), Ready s →
    (if value = 1 then
       exec (.hold tag value) s =
         .next ((({ s with engine := { s.engine with holdOffs := { s.engine.holdOffs with host := true } } } :
           State)).replied tag 0x18 .ok [])
     else if value = 0 then
       exec (.hold tag value) s =
         .next ((if s.engine.holdOffs.host then
             ({ s with engine := { s.engine with holdOffs := { s.engine.holdOffs with host := false } } } :
               State).headTest
           else s).replied tag 0x18 .ok [])
     else exec (.hold tag value) s = .next (s.replied tag 0x18 .outOfRange [])) ∧
    (if mode ≤ 1 ∧ tunerHold ≤ 1 ∧ satHold ≤ 1 then
       let x : SwitchSettings :=
         { mode := if mode = 0 then .collapse else .sequence, w1 := min 500 w1, k := max 2 (min 8 k),
           w2 := max 100 (min 5000 w2), tunerHold := tunerHold == 1, satHold := satHold == 1 }
       let u : State := { s with engine := { s.engine with settings := x } }
       let q := s.engine.queue
       let v : State :=
         if s.engine.settings.mode = .sequence ∧ mode = 0 then
           (q.dropLast.foldl (fun t r => t.failRequest r .superseded) u).setQueue (q.drop (q.length - 1))
         else u
       let w : State := { v with engine := { v.engine with holdOffs :=
         { s.engine.holdOffs with
           rate := u.engine.rateBroken s.frameCounter,
           tuner := s.tuner.state != .off && x.tunerHold,
           satellite := decide (0 < s.sat.activationCount) && x.satHold,
           measure := s.loops.measuring.isSome } } }
       exec (.switchSetup tag mode w1 k w2 tunerHold satHold) s =
         .next (w.headTest.replied tag 0x19 (if x.w1 = w1 ∧ x.k = k ∧ x.w2 = w2 then .ok else .clamped)
           [.u 1 mode, .u 2 x.w1, .u 1 x.k, .u 2 x.w2, .u 1 tunerHold, .u 1 satHold])
     else
       exec (.switchSetup tag mode w1 k w2 tunerHold satHold) s = .next (s.replied tag 0x19 .outOfRange []))

/-- R69, R104, R114, R117, R118: PANIC is answered OK and, as one event, puts PANIC into every mute set; the queued requests, oldest
first, and a pending switch end with SWITCH_FAILED status PANIC, and a crossfade with SWITCH_DONE status PANIC, each with its merged
request; every buffer but the ACTIVE one, which it leaves as it is, becomes FREE; a measurement is aborted with MEASURE_DONE, and MEASURE
leaves the hold-off set; the curve counts fall by the uses of the contexts freed; the record of the switch under way takes the status; the
engine is IDLE. The settings, the rate history and everything else is as before.
The model's choice: the fields of the notices and of the record (log 17, 18, 19). -/
def Obligations.PanicSilencesAndLeavesOnlyTheActiveContext : Prop :=
  ∀ (s : State) (tag : Byte), Ready s → s.rolesCoherent →
    let none' : CurveEntry := { name := [], points := [], refs := 0 }
    let fading := s.engine.state = .crossfading
    let latency (r : SwitchRequest) : Nat :=
      let at' := match s.engine.history.head? with | some h => h.activation.getD h.arrival | none => s.frameCounter
      frameDiff at' r.arrival
    let queueFailed := s.engine.queue.foldl (fun u r => u.failRequest r .panic) s
    let switchEnded : State :=
      match s.engine.current with
      | none => queueFailed
      | some cur =>
        if fading then
          match (s.buffers.get cur.buffer).context with
          | none => queueFailed
          | some c => queueFailed.doneRequest cur.request cur.sceneApplied .panic cur.buffer (latency cur.request) c
        else queueFailed.failRequest cur.request .panic
    let posted : State :=
      match s.loops.measuring with
      | none => switchEnded
      | some m =>
        switchEnded.post (.measureDone m.loop .aborted (s.loops.get m.loop).latency (s.loops.get m.loop).latency) m.tag
    ∃ t, exec (.panic tag) s = .next t ∧
      (∀ o, t.mains.get o = { (s.mains.get o) with sources := { (s.mains.get o).sources with panic := true } }) ∧
      (∀ b, t.buffers.get b =
        (if (s.buffers.get b).role = .active ∨ (s.buffers.get b).role = .free then s.buffers.get b else Buffer.free)) ∧
      t.loops = (match s.loops.measuring with
        | none => s.loops
        | some m => { s.loops.set m.loop { s.loops.get m.loop with status := .aborted } with measuring := none }) ∧
      (∀ k, t.curves.getD k none' = { s.curves.getD k none' with
        refs := (s.curves.getD k none').refs - (bufferIds.map (fun b =>
          match (s.buffers.get b).role, (s.buffers.get b).context with
          | .active, _ => 0
          | _, none => 0
          | _, some c => c.curveUses k)).sum }) ∧
      t.curves.length = s.curves.length ∧
      t.notices = posted.notices ∧
      (s.holdOffsCurrent → t.engine.holdOffs = { s.engine.holdOffs with measure := false }) ∧
      t.engine.history = (match s.engine.current, s.engine.history with
        | some _, h :: older =>
          { h with status := .panic, activation := if fading then h.activation else none } :: older
        | _, hs => hs) ∧
      t = ({ s with
        mains := t.mains, curves := t.curves, buffers := t.buffers, loops := t.loops, notices := t.notices,
        engine := { s.engine with
          state := .idle, queue := [], current := none, fadeFrame := 0, fadeLength := 0,
          holdOffs := t.engine.holdOffs, history := t.engine.history } } : State).replied tag 0x1A .ok []

/-- R118, R119: HISTORY changes nothing: an index above 15 is refused, one at or beyond the records held answers END_OF_RECORD
with their number, and any other OK with the number and up to four records from the index toward older ones.
The model's choices: the codes of status and source (log 9) and the layout of a record (log 24). -/
def Obligations.HistoryReadsUpToFourRecords : Prop :=
  ∀ (s : State) (tag : Byte) (first : Nat), Ready s →
    let held := s.engine.history.length
    if 15 < first then exec (.history tag first) s = .next (s.replied tag 0x1B .outOfRange [])
    else if held ≤ first then exec (.history tag first) s = .next (s.replied tag 0x1B .endOfRecord [.u 1 held])
    else
      exec (.history tag first) s =
        .next (s.replied tag 0x1B .ok
          ([.u 1 held, .u 1 (min 4 (held - first))] ++
            ((s.engine.history.drop first).take 4).flatMap (fun h =>
              wOpt 1 h.preset ++ wOpt 1 h.scene ++
              [.u 1 h.source.code, .u 1 h.status.historyCode, .u 4 h.arrival, .u 4 h.start] ++ wOpt 4 h.activation)))

/-- R107, R109 to R111, R127, R191: LOAD_COMPLETE, due when the last frame of the load has begun, makes the buffer READY: a context quantized
to BEAT or BAR waits ARMED; one that is not cuts a spill first and waits in CUTTING while a buffer is SPILL or CUTTING, and otherwise is
activated at once. It has no effect while no load is due or no frame is open.
`activated` is the activation, here and after a beat or a cut: the ACTIVE context becomes OUTGOING and this one ACTIVE, its total latency and
MISALIGNED mark kept; the crossfade of T frames begins; the history record takes the frame and the scene; the scene requested, or the default
scene, is applied (SceneRequestAppliesItsScene); the Satellite unit gives up the marks held and takes the messages, marked, as the next activation; the
hold-offs follow; a preset tempo is taken with source PRESET unless the tempo is locked; the overlay is put in force; PRESET_ACTIVE is posted.
Without effect when not due: log 2; at the frame's end: log 1. -/
def Obligations.LoadCompletesAndProceeds : Prop :=
  let place (y : Satellite) (f : SatFrame) : Satellite :=
    if y.queue.length < 16 then { y with queue := y.queue ++ [f], activationCount := y.activationCount + f.mark.toNat }
    else
      match newestFor y.queue f.physical with
      | none => { y with dropped := min 65535 (y.dropped + 1) }
      | some n =>
        { y with
          queue := y.queue.set n f,
          activationCount := y.activationCount + f.mark.toNat -
            (match y.queue[n]? with | some old => old.mark.toNat | none => 0) }
  let handed (u : Satellite) (m : SatMessage) : Satellite :=
    let counted : Satellite :=
      if m.address ≠ 15 ∧ (u.entry m.address).physical = none then { u with unmapped := min 65535 (u.unmapped + 1) } else u
    let mapped := (if m.address = 15 then List.range 15 else [m.address]).filter (fun x => (u.entry x).physical.isSome)
    if u.bypass.isSome then
      { counted with catchUp := mapped.foldl (fun t x =>
          putCatchUp t { address := x, payload := m.payload, origin := .activation }) u.catchUp }
    else
      mapped.foldl (fun y x => place y
        { physical := (y.entry x).physical.getD 0, logical := some x, payload := m.payload,
          acknowledge := (y.entry x).acknowledge, origin := .activation, tag := none, mark := true }) counted
  let messaged (u : Satellite) (messages : List SatMessage) : Satellite :=
    let given : Satellite :=
      { u with
        queue := u.queue.map (fun f => { f with mark := false }),
        inFlight := u.inFlight.map (fun x => { x with frame := { x.frame with mark := false } }),
        activationCount := 0, activation := some (match u.activation with | none => 0 | some n => n + 1) }
    messages.foldl handed given
  let paced (w : State) (asked : Option Nat) : Tempo :=
    match asked with
    | none => w.tempo
    | some a =>
      let v := max 400 (min 3000 a)
      let period := (57600000 + v) / (2 * v)
      let floor := 32 * (w.frameCounter + w.frameOpen.toNat) % 137438953472
      let candidate := (w.tempo.lastBeat + period) % 137438953472
      let next :=
        if period = w.tempo.period then w.tempo.nextBeat
        else if 68719476736 ≤ (candidate + (137438953472 - floor)) % 137438953472 then floor
        else candidate
      if w.tempo.lock then w.tempo
      else { w.tempo with tempo := v, period := period, source := .preset, nextBeat := next, taps := [] }
  let activated (w : State) (cur : CurrentSwitch) (c : Context) : State :=
    let n := match cur.request.scene with
      | none => c.header.defaultScene
      | some k => if k < c.scenes.length then k else c.header.defaultScene
    let status : SwitchStatus := match cur.request.scene with
      | none => .ok
      | some k => if k < c.scenes.length then .ok else .sceneMissing
    let record := (c.scenes[n]?).getD { name := [], enables := c.slots.map Slot.enabled, overrides := [] }
    let c' : Context := { c with activationTotal := c.lanes.total, activationMisaligned := c.lanes.misaligned }
    let history := match w.engine.history with
      | [] => []
      | h :: older => { h with activation := some w.frameCounter, scene := some n } :: older
    let swapped : State :=
      { w with
        buffers := (w.buffers.map (fun (x : Buffer) => if x.role = .active then { x with role := .outgoing } else x)).set
          cur.buffer { w.buffers.get cur.buffer with role := .active, context := some c' },
        engine := { w.engine with
          state := .crossfading, fadeFrame := 0, fadeLength := c.header.frames,
          current := some { cur with sceneApplied := some n, status := status }, history := history } }
    let v := swapped.applyScene cur.buffer c' n record
    let sat := messaged v.sat c.messages
    let holds : HoldOffs :=
      { v.engine.holdOffs with
        tuner := v.tuner.state != .off && v.engine.settings.tunerHold,
        satellite := decide (0 < sat.activationCount) && v.engine.settings.satHold,
        measure := v.loops.measuring.isSome }
    ({ v with
      sat := sat, engine := { v.engine with holdOffs := holds }, tempo := paced v c.header.tempo,
      map := { v.map with overlay := some { buffer := cur.buffer, preset := c.number, entries := c.overlay } } } :
        State).post (.presetActive cur.buffer c.number c.header.name n)
  (∀ (w : State) (cur : CurrentSwitch) (c : Context), (w.buffers.get cur.buffer).context = some c →
    w.activate cur = activated w cur c) ∧
  ∀ (s : State), s.power = .running →
    let u := s.endFrame
    (s.frameOpen = false ∨ u.engine.state ≠ .loading → exec .loadComplete s = .next s) ∧
    ∀ cur c, s.frameOpen = true → u.engine.state = .loading → u.engine.current = some cur →
      (u.buffers.get cur.buffer).context = some c →
      let ready : State := { u with buffers := u.buffers.set cur.buffer { u.buffers.get cur.buffer with role := .ready } }
      if (u.buffers.get cur.buffer).loadLeft ≠ 0 then exec .loadComplete s = .next s
      else if c.header.quantize ≠ .off then
        exec .loadComplete s = .next { ready with engine := { u.engine with state := .armed } }
      else
        match ready.withRole .spill with
        | b :: _ =>
          exec .loadComplete s = .next
            { ready with
              buffers := ready.buffers.set b
                { ready.buffers.get b with role := .cutting, cutFrames := 0, rowPeak := none },
              engine := { u.engine with state := .cutting } }
        | [] =>
          if ready.withRole .cutting ≠ [] then
            exec .loadComplete s = .next { ready with engine := { u.engine with state := .cutting } }
          else
            let t := activated ready cur c
            exec .loadComplete s = .next t ∧
              (t.buffers.get cur.buffer).role = .active ∧
              (∀ b, b ≠ cur.buffer → t.buffers.get b =
                (if (u.buffers.get b).role = .active then { (u.buffers.get b) with role := .outgoing }
                 else u.buffers.get b)) ∧
              t.engine.state = .crossfading ∧ t.engine.fadeFrame = 0 ∧ t.engine.fadeLength = c.header.frames ∧
              t.engine.queue = u.engine.queue ∧
              t.map.overlay = some { buffer := cur.buffer, preset := c.number, entries := c.overlay } ∧
              t.mains = u.mains ∧ t.loops = u.loops ∧ t.library = u.library ∧ t.tuner = u.tuner ∧
              t.selected = u.selected ∧ t.frameCounter = u.frameCounter ∧ t.control = u.control

/-- R91, R105, R113, R115: CROSSFADE_COMPLETE, due when the T-th crossfade frame has begun, lets an OUTGOING context with SPILL
policy and a limit spill and frees any other, takes START and PANIC out of every mute set, ends the request with SWITCH_DONE,
and rests the engine; it has no effect while no crossfade has run its length or no frame is open.
Without effect when not due: log 2; the fields of SWITCH_DONE: log 19. -/
def Obligations.CrossfadeCompletesIntoSpillOrFree : Prop :=
  ∀ (s : State), s.power = .running →
    let u := s.endFrame
    (s.frameOpen = false ∨ u.engine.state ≠ .crossfading ∨ u.engine.fadeFrame < u.engine.fadeLength →
      exec .crossfadeComplete s = .next s) ∧
    ∀ cur c, s.frameOpen = true → u.rolesCoherent → u.engine.state = .crossfading → u.engine.current = some cur →
      (u.buffers.get cur.buffer).context = some c → u.engine.fadeLength ≤ u.engine.fadeFrame →
      cur.request.merged = none → u.engine.queue = [] →
      let activated := match u.engine.history.head? with | some h => h.activation.getD h.arrival | none => u.frameCounter
      let latency := frameDiff activated cur.request.arrival
      let none' : CurveEntry := { name := [], points := [], refs := 0 }
      ∃ t, exec .crossfadeComplete s = .next t ∧
        (∀ b, t.buffers.get b =
          (match (u.buffers.get b).role, (u.buffers.get b).context with
           | .outgoing, some x =>
             if x.header.policy = .spill ∧ 0 < x.header.spillLimit then
               { (u.buffers.get b) with role := .spill, spillFrames := 0, quietCount := 0, rowPeak := none }
             else Buffer.free
           | _, _ => u.buffers.get b)) ∧
        (∀ o, t.mains.get o = { (u.mains.get o) with
          sources := { (u.mains.get o).sources with start := false, panic := false } }) ∧
        t.engine = { u.engine with
          state := .idle, current := none, queue := [], fadeFrame := 0, fadeLength := 0,
          history := match u.engine.history with
            | [] => []
            | h :: older => { h with status := cur.status } :: older } ∧
        t.notices = (u.post (.switchDone cur.request.source cur.request.preset cur.sceneApplied cur.status cur.buffer
          latency c.activationTotal c.activationMisaligned) (cur.request.tag.getD 0)).notices ∧
        (∀ k, t.curves.getD k none' = { u.curves.getD k none' with
          refs := (u.curves.getD k none').refs - (bufferIds.map (fun b =>
            match (u.buffers.get b).role, (u.buffers.get b).context with
            | .outgoing, some x => if x.header.policy = .spill ∧ 0 < x.header.spillLimit then 0 else x.curveUses k
            | _, _ => 0)).sum }) ∧
        t.curves.length = u.curves.length ∧
        t = { u with mains := t.mains, curves := t.curves, buffers := t.buffers, engine := t.engine, notices := t.notices }

/-- R103, R110, R111, R115: a cut whose fourth frame has begun, or a spill that has been quiet for 32 frames, frees its buffer
(CUT_COMPLETE, SPILL_QUIET_END), and while the engine is CUTTING the crossfade that waited for it starts; a spill at its limit and not
quiet becomes CUTTING (SPILL_LIMIT_REACHED); when nothing is due they have no effect. RATE_WINDOW_EXPIRY takes RATE out of the set, with
a test of the queue's head, exactly when the current frame breaks no rate rule.
Without effect when not due: log 2. -/
def Obligations.CutsSpillsAndRateEndWhenDue : Prop :=
  ∀ (s : State), s.power = .running →
    let u := s.endFrame
    let due (p : BufferId → Bool) : List BufferId := if s.frameOpen then bufferIds.filter p else []
    let cut := due (fun b => (u.buffers.get b).role == .cutting && (u.buffers.get b).cutFrames == 4)
    let quiet := due (fun b => (u.buffers.get b).role == .spill && decide (32 ≤ (u.buffers.get b).quietCount))
    let limit := due (fun b => (u.buffers.get b).role == .spill &&
      decide ((u.buffers.get b).quietCount < 32) &&
      (match (u.buffers.get b).context with
       | none => false
       | some c => decide ((c.header.spillLimit * 3 + 1) / 2 ≤ (u.buffers.get b).spillFrames)))
    let frees (b : BufferId) : State :=
      match u.engine.state, u.engine.current with
      | .cutting, some cur => (u.freeBuffer b).activate cur
      | _, _ => u.freeBuffer b
    exec .cutComplete s = .next (match cut with | [] => s | b :: _ => frees b) ∧
    exec .spillQuietEnd s = .next (match quiet with | [] => s | b :: _ => frees b) ∧
    (match limit with
     | [] => exec .spillLimitReached s = .next s
     | b :: _ =>
       let x : Buffer := { u.buffers.get b with role := .cutting, cutFrames := 0, rowPeak := none }
       exec .spillLimitReached s = .next { u with buffers := u.buffers.set b x }) ∧
    (s.midFrame →
      if s.engine.holdOffs.rate = true ∧ s.engine.rateBroken s.frameCounter = false then
        exec .rateWindowExpiry s =
          .next ({ s with engine := { s.engine with holdOffs := { s.engine.holdOffs with rate := false } } } :
            State).headTest
      else exec .rateWindowExpiry s = .next s)

/-! ## The Tempo clock (chapter 6) -/

/-- R122, R123, R126, R128, R129: TEMPO_SET holds the clamped tempo with source HOST and its period, sets the next beat to one new
period after the last beat, but not before the first sample of the next frame (and leaves it where P does not change), and
clears the taps; last beat and beat counter stay. TEMPO_LOCK sets the lock alone. -/
def Obligations.TempoSetMovesTheNextBeat : Prop :=
  ∀ (s : State) (tag : Byte) (tempo value : Nat), Ready s →
    let v := max 400 (min 3000 tempo)
    let period := (57600000 + v) / (2 * v)
    let floor := 32 * (s.frameCounter + s.frameOpen.toNat) % 137438953472
    let candidate := (s.tempo.lastBeat + period) % 137438953472
    let next :=
      if period = s.tempo.period then s.tempo.nextBeat
      else if 68719476736 ≤ (candidate + (137438953472 - floor)) % 137438953472 then floor
      else candidate
    exec (.tempoSet tag tempo) s =
      .next ((({ s with tempo :=
        { s.tempo with tempo := v, period := period, source := .host, nextBeat := next, taps := [] } } :
          State)).replied tag 0x1C (if v = tempo then .ok else .clamped) [.u 2 v, .u 4 period, .u 5 next]) ∧
    exec (.tempoLock tag value) s =
      .next (if value ≤ 1 then
          (({ s with tempo := { s.tempo with lock := value == 1 } } : State)).replied tag 0x1E .ok [.u 1 value]
        else s.replied tag 0x1E .outOfRange [])

/-- R130 to R132: TAP: a tap with no tap before it, or more than 96,000 samples after the newest, restarts the list; one less than
9,600 samples after it is discarded; any other is added to the newest four, sets the tempo from the mean interval with source
TAP, and anchors the beat on itself.
The model's choice: the frame of a tap at a frame boundary (log 3); outcome codes by log 9, reply fields by log 24. -/
def Obligations.TapSetsTempoAndAnchorsTheBeat : Prop :=
  ∀ (s : State) (tag : Byte), Ready s →
    let t := 32 * (s.frameCounter + (s.frameOpen || s.frameEnded).toNat + s.tempo.beatTaken.toNat) % 137438953472
    let old := s.tempo
    let reply (outcome : Nat) (new : Tempo) : Prop :=
      exec (.tap tag) s = .next ((({ s with tempo := new } : State)).replied tag 0x1D .ok
        [.u 1 outcome, .u 1 new.taps.length, .u 2 new.tempo, .u 4 new.period, .u 1 new.source.code])
    match old.taps.getLast? with
    | none => reply 0 { old with taps := [t] }
    | some newest =>
      let d := (t + (137438953472 - newest % 137438953472)) % 137438953472
      if d < 9600 then reply 1 old
      else if 96000 < d then reply 0 { old with taps := [t] }
      else
        let taps := (old.taps ++ [t]).drop (old.taps.length + 1 - 4)
        let first := taps.headD 0
        let interval := (t + (137438953472 - first % 137438953472)) % 137438953472 / (taps.length - 1)
        let v := max 400 (min 3000 ((57600000 + interval) / (2 * interval)))
        reply 2 { old with
          taps := taps, tempo := v, period := (57600000 + v) / (2 * v), source := .tap, nextBeat := t, beatCounter := 3 }

/-- R109 to R111, R125: BEAT_EVENT, due when the next beat lies in the open frame, moves the last beat, the counter and the next beat,
gives the beat to an ARMED engine, which proceeds at a beat, or at a bar alone for a BAR context (it cuts a spill first, waits in
CUTTING for a cut, and otherwise activates the context), and posts BEAT; it has no effect when no beat is due.
Without effect when not due: log 2; that the beat was taken is kept for the taps of the frame (log 3). -/
def Obligations.BeatFallsInItsFrame : Prop :=
  ∀ (s : State), s.power = .running →
    let u := s.endFrame
    let due := u.frameOpen = true ∧
      (u.tempo.nextBeat + (137438953472 - 32 * u.frameCounter % 137438953472)) % 137438953472 < 32
    let n := (u.tempo.beatCounter + 1) % 4
    let v : State := { u with tempo := { u.tempo with
      lastBeat := u.tempo.nextBeat, beatCounter := n, beatTaken := true,
      nextBeat := (u.tempo.nextBeat + u.tempo.period) % 137438953472 } }
    (¬ due → exec .beatEvent s = .next s) ∧
    (due → u.engine.state ≠ .armed →
      exec .beatEvent s = .next (v.post (.beat n u.tempo.tempo u.tempo.source))) ∧
    (∀ cur c, due → u.engine.state = .armed → u.engine.current = some cur →
      (u.buffers.get cur.buffer).context = some c →
      (c.header.quantize = .bar → n ≠ 0 →
        exec .beatEvent s = .next (v.post (.beat n u.tempo.tempo u.tempo.source))) ∧
      (c.header.quantize = .beat ∨ c.header.quantize = .bar ∧ n = 0 →
        match u.withRole .spill, u.withRole .cutting with
        | b :: _, _ =>
          exec .beatEvent s = .next
            (({ v with
              buffers := u.buffers.set b
                { (u.buffers.get b) with role := .cutting, cutFrames := 0, rowPeak := none },
              engine := { u.engine with state := .cutting } } : State).post
                (.beat n u.tempo.tempo u.tempo.source))
        | [], _ :: _ =>
          exec .beatEvent s = .next
            (({ v with engine := { u.engine with state := .cutting } } : State).post
              (.beat n u.tempo.tempo u.tempo.source))
        | [], [] =>
          let w := v.activate cur
          exec .beatEvent s = .next (w.post (.beat n w.tempo.tempo w.tempo.source))))

/-! ## The Tuner (chapter 7) -/

/-- R136 to R138, R149: TUNER ON adds HOST to the engage set, OFF removes it, CLEAR empties the set. An engage mutes the outputs of
policy MUTE, clears the window and makes the state LISTENING; a disengage removes TUNER from every mute set, drops the last
reading, withdraws every queued TUNER_READING and makes the state OFF, and a hold-off that ends tests the queue's head; a change
between non-empty sets changes the set alone; each posts TUNER_STATE, and no change posts nothing.
Codes by log 9, reply fields by log 24. -/
def Obligations.TunerEngagesAndDisengages : Prop :=
  ∀ (s : State) (tag : Byte) (action : Nat), Ready s → s.holdOffsCurrent →
    let old := s.tuner.engage
    let new : EngageSet :=
      match action with
      | 0 => { old with host := true }
      | 1 => { old with host := false }
      | _ => { host := false, pedalA := false, pedalB := false }
    let mask := new.host.toNat + 2 * new.pedalA.toNat + 4 * new.pedalB.toNat
    let cleared : Tuner := { s.tuner with
      engage := new, window := [], count := 0, block := none, estimateDue := false, run := [], weak := 0 }
    if 2 < action then exec (.tuner tag action) s = .next (s.replied tag 0x1F .outOfRange [])
    else if old = new then
      exec (.tuner tag action) s = .next (s.replied tag 0x1F .ok [.u 1 mask, .u 1 s.tuner.state.code])
    else if old.isEmpty then
      ∃ m, (∀ o, m.get o = (if s.tuner.policies.get o = .mute then
          { (s.mains.get o) with sources := { (s.mains.get o).sources with tuner := true } } else s.mains.get o)) ∧
        exec (.tuner tag action) s =
          .next ((({ s with
            mains := m,
            tuner := { cleared with state := .listening },
            engine := { s.engine with holdOffs := { s.engine.holdOffs with tuner := s.engine.settings.tunerHold } } } :
              State).post (.tunerState .listening new s.selected s.tuner.last)).replied tag 0x1F .ok
                [.u 1 mask, .u 1 1])
    else if new.isEmpty then
      ∃ m, (∀ o, m.get o = { (s.mains.get o) with sources := { (s.mains.get o).sources with tuner := false } }) ∧
        (let u : State := { s with
           mains := m,
           tuner := { cleared with state := .off, last := none },
           notices := { s.notices with queue := s.notices.queue.filter (fun n => !n.isReading) },
           engine := { s.engine with holdOffs := { s.engine.holdOffs with tuner := false } } }
         exec (.tuner tag action) s =
           .next (((if s.engine.holdOffs.tuner then u.headTest else u).post
             (.tunerState .off new s.selected none)).replied tag 0x1F .ok [.u 1 0, .u 1 0]))
    else
      exec (.tuner tag action) s =
        .next ((({ s with tuner := { s.tuner with engage := new } } :
          State).post (.tunerState s.tuner.state new s.selected s.tuner.last)).replied tag 0x1F .ok
            [.u 1 mask, .u 1 s.tuner.state.code])

/-- R139, R147, R150, R151: TUNER_PROFILE reads a profile, or takes all 13 values clamped; TUNER_SETUP takes Aref, clamped, and the
four policies. While the tuner is engaged, a change of Aref or of the profile in force empties the qualifying run, and a policy
that changes puts TUNER into the output's mute set or takes it out.
Codes by log 9; an equal profile written again leaves the run (log 28); the 12 offsets and the four policies carry no count (log 46). -/
def Obligations.TunerSettingsTakeEffectAtOnce : Prop :=
  ∀ (s : State) (tag : Byte) (profile aref : Nat) (transpose : Option Int) (offsets : List (Option Int))
    (policies : PerMain Nat), Ready s →
    let i : Input := if profile = 0 then .a else .b
    let held := if profile = 0 then s.tuner.profileA else s.tuner.profileB
    let wire (p : Profile) : List Wire := .s 1 p.transpose :: p.offsets.map (fun o => .s 1 o)
    let a := max 4300 (min 4500 aref)
    (if 1 < profile ∨ offsets.length ≠ 12 then
       exec (.tunerProfile tag profile transpose offsets) s = .next (s.replied tag 0x20 .outOfRange [])
     else
       match transpose with
       | none =>
         if ∀ o ∈ offsets, o = none then
           exec (.tunerProfile tag profile transpose offsets) s = .next (s.replied tag 0x20 .ok (wire held))
         else exec (.tunerProfile tag profile transpose offsets) s = .next (s.replied tag 0x20 .outOfRange [])
       | some v =>
         if ∀ o ∈ offsets, o ≠ none then
           let given := offsets.map (fun o => o.getD 0)
           let p : Profile :=
             { transpose := max (-12) (min 12 v), offsets := given.map (fun o => max (-20) (min 20 o)) }
           let run := if s.selected = i ∧ p ≠ held ∧ s.tuner.state ≠ .off then [] else s.tuner.run
           let t : Tuner :=
             if profile = 0 then { s.tuner with profileA := p, run := run }
             else { s.tuner with profileB := p, run := run }
           exec (.tunerProfile tag profile transpose offsets) s =
             .next ((({ s with tuner := t } : State)).replied tag 0x20
               (if p.transpose = v ∧ p.offsets = given then .ok else .clamped) (wire p))
         else exec (.tunerProfile tag profile transpose offsets) s = .next (s.replied tag 0x20 .outOfRange [])) ∧
    (if policies.fohL ≤ 1 ∧ policies.fohR ≤ 1 ∧ policies.stage ≤ 1 ∧ policies.mon ≤ 1 then
       ∃ m p,
         (∀ o, p.get o = (if policies.get o = 0 then MutePolicy.mute else MutePolicy.pass)) ∧
         (∀ o, m.get o =
           (if s.tuner.state = .off ∨ s.tuner.policies.get o = p.get o then s.mains.get o
            else { (s.mains.get o) with sources := { (s.mains.get o).sources with tuner := decide (p.get o = .mute) } })) ∧
         exec (.tunerSetup tag aref policies) s =
           .next ((({ s with
             mains := m,
             tuner := { s.tuner with
               aref := a, policies := p,
               run := if a ≠ s.tuner.aref ∧ s.tuner.state ≠ .off then [] else s.tuner.run } } :
                 State)).replied tag 0x21 (if a = aref then .ok else .clamped)
                   [.u 2 a, .u 1 policies.fohL, .u 1 policies.fohR, .u 1 policies.stage, .u 1 policies.mon])
     else exec (.tunerSetup tag aref policies) s = .next (s.replied tag 0x21 .outOfRange []))

/-- R141, R144, R145: TUNER_ESTIMATE, when one is due. LISTENING: a weak estimate empties the run; a steady run of three makes the
state TRACKING with a LIVE reading, TUNER_STATE and TUNER_READING. TRACKING: a strong estimate is the LIVE reading and posts it NEW;
a weak one posts the last reading HELD until the fourth in a row, which makes the state LISTENING with a STALE reading. An estimate
whose frequency or displayed note is out of range counts with confidence 0. It has no effect when none is due.
The model's choice: frequency and confidence are the command's operands (log 14), and it has no effect when not due (log 2). -/
def Obligations.EstimatesMoveBetweenListeningAndTracking : Prop :=
  ∀ (s : State) (frequency confidence : Nat), s.power = .running →
    let u := s.endFrame
    let t := u.tuner
    let found := readingOf t u.selected u.frameCounter frequency confidence
    let put (x : Tuner) : State := { u with tuner := { x with estimateDue := false } }
    let answers (v : State) : Prop := exec (.tunerEstimate frequency confidence) s = .next v
    if s.frameOpen = false ∨ t.estimateDue = false then answers s
    else
      match t.state, found with
      | .off, _ => answers (put t)
      | .listening, none => answers (put { t with run := [] })
      | .listening, some r =>
        if confidence < 60 then answers (put { t with run := [] })
        else
          let run := trimRun (t.run ++ [(r.note, r.cents)])
          if run.length < 3 then answers (put { t with run := run })
          else
            answers (((put { t with state := .tracking, weak := 0, run := [], last := some (r, .live) }).post
              (.tunerState .tracking t.engage u.selected (some (r, .live)))).post (.tunerReading r .new r.confidence))
      | .tracking, _ =>
        match (if confidence < 40 then none else found) with
        | some r => answers ((put { t with weak := 0, last := some (r, .live) }).post (.tunerReading r .new confidence))
        | none =>
          if t.weak + 1 < 4 then
            match t.last with
            | some (r, _) => answers ((put { t with weak := t.weak + 1 }).post (.tunerReading r .held confidence))
            | none => answers (put { t with weak := t.weak + 1 })
          else
            let last := t.last.map (fun p => (p.1, ReadingMark.stale))
            answers ((put { t with state := .listening, weak := 0, run := [], last := last }).post
              (.tunerState .listening t.engage u.selected last))

/-! ## The pedal links (chapter 8) -/

/-- R154 to R157, R169: the frames of a pedal link. A valid frame is heard; an IDENT that is not acceptable is rejected; an IDENT
that matches the identity held changes nothing more; one on an ABSENT link makes it PRESENT, with LINK_STATE and the refresh: of what is
routed to the link, the preset's line, the active scene's line and the lamps of the ACTIVE context, then the tuner view, each placed by its
key, and no line the controller does not have; one that differs makes it ABSENT (CHANGED) and PRESENT again. A SWITCH or EXPR on an ABSENT link, or with a number at or above its
count, is rejected. An EXPR whose clamped position is held changes nothing more; another is held and its MOVE entries dispatched.
A discarded frame raises one count. A PRESENT link whose silence count has reached 2,250 at a frame end becomes ABSENT.
The model's choice: the causes of PEDAL_BAD_FRAME (log 25), and no effect when silence is not due (log 2). -/
def Obligations.PedalFramesMoveThePresence : Prop :=
  ∀ (s : State) (l : Link) (switches pedals lines number : Byte) (position : BitVec 16), s.power = .running →
    let p := s.pedals.get l
    let put (x : PedalLink) : State := { s with pedals := s.pedals.set l x }
    let heard : PedalLink := { p with silence := 0, heard := true }
    let refused : PedalLink := { heard with rejected := min 65535 (p.rejected + 1) }
    let i : Identity := { switches := switches.toNat, pedals := pedals.toNat, lines := lines.toNat }
    let acceptable := 1 ≤ i.switches ∧ i.switches ≤ 32 ∧ i.pedals ≤ 4 ∧ i.lines ≤ 2
    let digit (n : Nat) : Byte := BitVec.ofNat 8 (48 + n % 10)
    let line (text : List Byte) : List Byte := (text ++ List.replicate 20 32).take 20
    let number' (n : Nat) : List Byte := [digit (n / 100), digit (n / 10), digit n, 32]
    let order (g : Gesture) : Nat :=
      match g with
      | .press => 0 | .release => 1 | .hold => 2 | .double => 3 | .combo partner => 4 + partner | .move => 100
    let found (w : State) : State :=
      let q := w.pedals.get l
      let v := ({ w with pedals := w.pedals.set l { q with
        identity := some i, switches := q.switches.map SwitchRecord.up,
        positions := q.positions.zipIdx.map (fun x => if x.2 < i.pedals then x.1 else none) } } : State).post
          (.linkState l true i .ident)
      let shown (k : NoticeKind) : Bool := (v.destinations k).pedal l
      let contextMessages : List DisplayMsg :=
        match v.active with
        | none => []
        | some (b, c) =>
          let own : List MapEntry := match (v.buffers.get b).context with
            | none => []
            | some c => c.overlay.filter (fun e => e.key.link == l)
          let entries := if own = [] then v.map.entries.filter (fun e => e.key.link == l) else own
          let slots (k : Nat) : List Nat := (List.range 36).flatMap (fun n =>
            (entries.filter (fun e => e.key.source == .switch k && order e.key.gesture == n)).flatMap
              (fun e => e.targets.filterMap (fun x =>
                match x with | .slotToggle q => some q | .slotSet q _ => some q | _ => none)))
          let lit (k : Nat) : Bool := match (slots k).head? with
            | some q => (c.slots.map Slot.enabled).getD q false
            | none => false
          let lamps : BitVec 32 :=
            BitVec.ofNat 32 ((List.range i.switches).map (fun k => if lit k then 2 ^ k else 0)).sum
          let sceneName (n : Nat) : List Byte := ((c.scenes[n]?).map SceneRecord.name).getD []
          (if shown .presetActive then [.text 0 (line (number' c.number ++ c.header.name))] else []) ++
          (match c.activeScene with
           | none => []
           | some n =>
             if shown .sceneActive = false then []
             else if i.lines = 1 then [.text 0 (line (number' c.number ++ [83, digit n, 32] ++ sceneName n))]
             else [.text 1 (line ([83, 67, 69, 78, 69, 32, digit n, 32] ++ sceneName n))]) ++
          (if shown .slotState then [.leds lamps] else [])
      let tunerMessages : List DisplayMsg :=
        if shown .tunerState || shown .tunerReading then
          [match v.tuner.state, v.tuner.last with
           | .off, _ => .tunerView none none .off
           | .listening, some (r, .stale) => .tunerView (some r.note) (some r.cents) .stale
           | _, some (r, _) => .tunerView (some r.note) (some r.cents) .live
           | _, none => .tunerView none none .search]
        else []
      let place (d : List DisplayMsg) (m : DisplayMsg) : List DisplayMsg :=
        if (match m with | .text n _ => decide (i.lines ≤ n) | _ => false) then d
        else if d.any (fun x => x.key == m.key) then d.map (fun x => if x.key == m.key then m else x)
        else d ++ [m]
      { v with pedals := v.pedals.set l { v.pedals.get l with
        display := (contextMessages ++ tunerMessages).foldl place (v.pedals.get l).display } }
    let lost (w : State) (old : Identity) (cause : LinkCause) : State :=
      let q := w.pedals.get l
      let e := w.tuner.engage
      (({ w with pedals := w.pedals.set l { q with
        identity := none, switches := q.switches.map SwitchRecord.up, display := [] } } : State).setEngage
          (match l with | .a => { e with pedalA := false } | .b => { e with pedalB := false })).post
            (.linkState l false old cause)
    (s.midFrame →
    (¬ acceptable → exec (.pedalIdent l switches pedals lines) s = .next (put refused)) ∧
    (acceptable → p.identity = none → exec (.pedalIdent l switches pedals lines) s = .next (found (put heard))) ∧
    (acceptable → ∀ old, p.identity = some old →
      exec (.pedalIdent l switches pedals lines) s =
        .next (if old = i then put heard else found (lost (put heard) old .changed))) ∧
    ((∀ d, p.identity = some d → d.switches ≤ number.toNat) →
      exec (.switchDown l number) s = .next (put refused) ∧ exec (.switchRelease l number) s = .next (put refused)) ∧
    ((∀ d, p.identity = some d → d.pedals ≤ number.toNat) →
      exec (.pedalExpr l number position) s = .next (put refused)) ∧
    (∀ d, p.identity = some d → number.toNat < d.pedals →
      let v := min 1023 position.toNat
      exec (.pedalExpr l number position) s =
        .next (if p.positions.getD number.toNat none = some v then put heard
          else ((s.map.effective l).filter
            (fun e => e.key.source == .expr number.toNat && e.key.gesture == .move)).foldl
              (fun t e => t.dispatch e v)
              (put { heard with positions := p.positions.set number.toNat (some v) }))) ∧
    exec (.pedalBadFrame l .framing) s = .next (put { p with framingErrors := min 65535 (p.framingErrors + 1) }) ∧
    exec (.pedalByteGapTimeout l) s = .next (put { p with framingErrors := min 65535 (p.framingErrors + 1) }) ∧
    exec (.pedalBadFrame l .unknownForm) s = .next (put { p with rejected := min 65535 (p.rejected + 1) }) ∧
    exec (.pedalBadFrame l .noPresence) s = .next (if p.identity = none then put refused else s)) ∧
    (let u := s.endFrame
     exec (.pedalSilenceTimeout l) s =
       .next (match (u.pedals.get l).identity with
         | none => s
         | some d => if s.frameOpen = true ∧ (u.pedals.get l).silence = 2250 then lost u d .silence else s))

/-- R158, R160 to R162, R164, R165: SWITCH_DOWN and SWITCH_RELEASE of a switch below the switch count. A frame that repeats the
level is heard and changes nothing more. A down event in UP takes the snapshot, and fires a COMBO with the earliest waiting partner,
waits for a combination, or enters DOWN; one in DOUBLE_WAIT fires DOUBLE. A release follows the table of R164. -/
def Obligations.SwitchFramesFollowTheGestureTable : Prop :=
  ∀ (s : State) (l : Link) (number : Byte) (d : Identity), s.power = .running → s.midFrame →
    (s.pedals.get l).identity = some d → number.toNat < d.switches →
    number.toNat < (s.pedals.get l).switches.length →
    let n := number.toNat
    let p : PedalLink := { s.pedals.get l with silence := 0, heard := true }
    let putLink (q : PedalLink) : State := { s with pedals := s.pedals.set l q }
    let record (k : Nat) : SwitchRecord := p.switches.getD k SwitchRecord.reset
    let with1 (k : Nat) (r : SwitchRecord) : PedalLink := { p with switches := p.switches.set k r }
    let put (r : SwitchRecord) : State := putLink (with1 n r)
    let r := record n
    let pick (snap : List MapEntry) (k : Nat) (g : Gesture) : Option MapEntry :=
      snap.find? (fun e => e.key.source == .switch k && e.key.gesture == g)
    let fires (w : State) (snap : List MapEntry) (g : Gesture) : State :=
      match pick snap n g with
      | none => w
      | some e => w.dispatch e 0
    let frames (ms : Nat) : Nat := (3 * ms + 1) / 2
    let down : Prop → Prop := fun P => r.isDown = false → r.state = .up → P
    let snap := (s.map.effective l).filter (fun e => e.key.source == .switch n || e.key.gesture == .combo n)
    let held : SwitchRecord := { r with
      isDown := true, snapshot := some snap, window := none,
      hold := if (pick snap n .hold).isSome then some (frames p.holdMs) else none }
    let comboRecord : SwitchRecord :=
      { held with state := .comboWait, window := some (frames p.comboMs), order := p.downs }
    let consumed (r : SwitchRecord) : SwitchRecord := { r with state := .consumed, hold := none, window := none }
    let waits (t : Nat) : Prop :=
      t ≠ n ∧ t < p.switches.length ∧ (record t).state = .comboWait ∧
        ((pick snap n (.combo t)).isSome = true ∨ (pick snap t (.combo n)).isSome = true)
    let hasHold (x : List MapEntry) : Prop := (pick x n .hold).isSome = true
    let hasDouble (x : List MapEntry) : Prop := (pick x n .double).isSome = true
    (r.isDown = true → exec (.switchDown l number) s = .next (putLink p)) ∧
    (r.isDown = false → exec (.switchRelease l number) s = .next (putLink p)) ∧
    (r.isDown = false → r.state = .doubleWait →
      exec (.switchDown l number) s =
        .next (fires (put { r with state := .consumed, isDown := true, hold := none, window := none })
          (r.snapshot.getD []) .double)) ∧
    (down (∀ t, waits t → (∀ k, waits k → k ≠ t → (record t).order < (record k).order) →
      ∀ e, (pick snap n (.combo t) = some e ∨ pick snap n (.combo t) = none ∧ pick snap t (.combo n) = some e) →
      exec (.switchDown l number) s =
        .next ((putLink { p with
          switches := (p.switches.set n (consumed held)).set t (consumed (record t)) }).dispatch e 0))) ∧
    (down ((∀ t, ¬ waits t) → (∃ e ∈ snap, ∃ t, e.key.gesture = .combo t) →
      exec (.switchDown l number) s =
        .next (putLink { with1 n comboRecord with downs := p.downs + 1 }))) ∧
    (down ((∀ t, ¬ waits t) → (∀ e ∈ snap, ∀ t, e.key.gesture ≠ .combo t) →
      (hasHold snap → exec (.switchDown l number) s = .next (put { held with state := .down })) ∧
      (¬ hasHold snap → hasDouble snap →
        exec (.switchDown l number) s =
          .next (put { held with state := .doubleWait, window := some (frames p.doubleMs) })) ∧
      (¬ hasHold snap → ¬ hasDouble snap →
        exec (.switchDown l number) s = .next (fires (put { held with state := .down }) snap .press)))) ∧
    (r.isDown = true →
      let x := r.snapshot.getD []
      let up : SwitchRecord := { r with state := .up, isDown := false, snapshot := none, hold := none, window := none }
      let waiting : SwitchRecord := { r with
        state := .doubleWait, isDown := false, hold := none, window := some (frames p.doubleMs) }
      let answers (t : State) : Prop := exec (.switchRelease l number) s = .next t
      ((r.state = .down ∨ r.state = .comboWait) → hasHold x →
        (hasDouble x → answers (fires (put waiting) x .release)) ∧
        (¬ hasDouble x → answers (fires (fires (put up) x .press) x .release))) ∧
      (r.state = .down → ¬ hasHold x → answers (fires (put up) x .release)) ∧
      (r.state = .comboWait → ¬ hasHold x → hasDouble x → answers (fires (put { waiting with hold := r.hold }) x .release)) ∧
      (r.state = .comboWait → ¬ hasHold x → ¬ hasDouble x →
        let w := fires (put { r with state := .down, window := none }) x .press
        let q := w.pedals.get l
        answers (fires { w with pedals := w.pedals.set l { q with switches := q.switches.set n up } } x .release)) ∧
      (r.state = .held → answers (fires (put up) x .release)) ∧
      (r.state = .doubleWait → answers (fires (put { r with isDown := false }) x .release)) ∧
      (r.state = .consumed → answers (put up)))

/-- R159, R161 to R163, R165, R170, R171: the waits of a switch as they run out at a frame end (nothing when none is due):
COMBO_WINDOW_EXPIRY enters DOWN, HOLD_TIMER_EXPIRY fires HOLD in DOWN, DOUBLE_WINDOW_EXPIRY fires the deferred PRESS; GESTURE_TIMING
reads or takes the three settings, clamped; PEDAL_STATUS answers with the link's presence and identity, silence count, at most 16
switches, positions, settings, display messages and two counts, and clears the two counts.
Without effect when not due: log 2; reply fields by log 24, the frames remaining by log 37, the shared presence
byte by log 38. -/
def Obligations.GestureWaitsRunOutAndAreSet : Prop :=
  (∀ (s : State) (l : Link) (n : Nat), s.power = .running →
    let u := s.endFrame
    let p := u.pedals.get l
    let put (r : SwitchRecord) : State := { u with pedals := u.pedals.set l { p with switches := p.switches.set n r } }
    let r := p.switches.getD n SwitchRecord.reset
    let x := r.snapshot.getD []
    let pick (g : Gesture) : Option MapEntry := x.find? (fun e => e.key.source == .switch n && e.key.gesture == g)
    let fires (w : State) (g : Gesture) : State := match pick g with | none => w | some e => w.dispatch e 0
    exec (.comboWindowExpiry l n) s =
      .next (if s.frameOpen = true ∧ r.state = .comboWait ∧ r.window = some 0 then
          (if (pick .hold).isSome then put { r with state := .down, window := none }
           else if (pick .double).isSome then
             put { r with state := .doubleWait, window := some ((3 * p.doubleMs + 1) / 2) }
           else fires (put { r with state := .down, window := none }) .press)
        else s) ∧
    exec (.holdTimerExpiry l n) s =
      .next (if s.frameOpen = true ∧ r.state = .down ∧ r.hold = some 0 then fires (put { r with state := .held, hold := none }) .hold else s) ∧
    exec (.doubleWindowExpiry l n) s =
      .next (if s.frameOpen = true ∧ r.state = .doubleWait ∧ r.window = some 0 then
          fires (put (if r.isDown then { r with state := .down, window := none }
            else { r with state := .up, isDown := false, snapshot := none, hold := none, window := none })) .press
        else s)) ∧
  (∀ (s : State) (tag : Byte) (link : Nat) (combo holdTime double : Option Nat), Ready s →
    let l : Link := if link = 0 then .a else .b
    let p := s.pedals.get l
    let refused := exec (.gestureTiming tag link combo holdTime double) s = .next (s.replied tag 0x22 .outOfRange [])
    if 1 < link then refused
    else
      match combo, holdTime, double with
      | none, none, none =>
        exec (.gestureTiming tag link combo holdTime double) s =
          .next (s.replied tag 0x22 .ok [.u 1 p.comboMs, .u 2 p.holdMs, .u 2 p.doubleMs])
      | some c, some h, some d =>
        let c' := max 10 (min 200 c)
        let h' := max 300 (min 2000 h)
        let d' := max 100 (min 500 d)
        exec (.gestureTiming tag link combo holdTime double) s =
          .next ((({ s with pedals := s.pedals.set l { p with comboMs := c', holdMs := h', doubleMs := d' } } :
            State)).replied tag 0x22 (if c' = c ∧ h' = h ∧ d' = d then .ok else .clamped) [.u 1 c', .u 2 h', .u 2 d'])
      | _, _, _ => refused) ∧
  (∀ (s : State) (tag : Byte) (link first clear : Nat), Ready s →
    let l : Link := if link = 0 then .a else .b
    let p := s.pedals.get l
    let presence : List Wire :=
      match p.identity with
      | none => [.u 1 0]
      | some i => [.u 1 1, .u 1 i.switches, .u 1 i.pedals, .u 1 i.lines]
    let switches : List Nat :=
      match p.identity with | none => [] | some i => ((List.range i.switches).drop first).take 16
    let pedals : List Nat := match p.identity with | none => List.range 4 | some i => List.range i.pedals
    let record (n : Nat) : List Wire :=
      let r := p.switches.getD n SwitchRecord.reset
      [.u 1 n, .u 1 r.state.code, .u 1 r.isDown.toNat] ++ wOpt 2 r.hold ++ wOpt 2 r.window
    let settings : List Wire := [.u 1 p.comboMs, .u 2 p.holdMs, .u 2 p.doubleMs]
    let counts : List Wire := [.u 1 p.display.length, .u 2 p.framingErrors, .u 2 p.rejected]
    let held : List Wire :=
      presence ++ [.u 2 p.silence, .u 1 switches.length] ++ switches.flatMap record ++ [.u 1 pedals.length] ++
        pedals.flatMap (fun n => wOpt 2 (p.positions.getD n none)) ++ settings ++ counts
    exec (.pedalStatus tag link first clear) s =
      .next (if 1 < link ∨ 31 < first ∨ 1 < clear then s.replied tag 0x23 .outOfRange []
        else ((if clear = 1 then
            { s with pedals := s.pedals.set l { p with framingErrors := 0, rejected := 0 } }
          else s : State)).replied tag 0x23 .ok held))

/-! ## The Control Map (chapter 9) -/

/-- R172, R181 to R184: MAP_WRITE refuses a bad form (with the position of the first bad target), then a class outside the link's mask
(with the position of its target), then replaces the entry of the key, or appends one while fewer than 96 are held; MAP_ERASE
removes the entry named; MAP_READ reads the global table or the overlay in force, and every reply to it carries the change count;
PERMIT reads or sets a link's mask.
Codes by log 9, reply fields by log 24; the change count is last (log 40). -/
def Obligations.MapRequestsWriteEraseAndRead : Prop :=
  ∀ (s : State) (tag : Byte) (key : RawKey) (targets : List RawTarget) (sel : EntrySelector) (table link : Nat)
    (mask : Option Nat), Ready s →
    let held := s.map.entries
    let changed (entries : List MapEntry) : State :=
      { s with map := { s.map with entries := entries, changes := (s.map.changes + 1) % 65536 } }
    let count := (s.map.changes + 1) % 65536
    let place (entries : List MapEntry) (k : MapKey) : Option Nat := entries.findIdx? (fun e => e.key == k)
    let bad : Bool := match sel with | .index n => decide (95 < n) | .key k => (keyOf k).isNone
    let outside (e : MapEntry) : Bool := e.targets.any (fun t => !(s.map.masks.get e.key.link).getLsbD t.class.code)
    let written (code : ReplyCode) (fields : List Wire) (t : State) : Prop :=
      exec (.mapWrite tag key targets) s = .next (t.replied tag 0x24 code fields)
    let erased (code : ReplyCode) (fields : List Wire) (t : State) : Prop :=
      exec (.mapErase tag sel) s = .next (t.replied tag 0x25 code fields)
    let read (code : ReplyCode) (fields : List Wire) : Prop :=
      exec (.mapRead tag table sel) s = .next (s.replied tag 0x26 code (fields ++ [.u 2 s.map.changes]))
    (match entryOf key targets with
     | .error none => written .outOfRange [.u 1 0] s
     | .error (some n) => written .outOfRange [.u 1 1, .u 1 n] s
     | .ok e =>
       match e.targets.findIdx? (fun t => !(s.map.masks.get e.key.link).getLsbD t.class.code), place held e.key with
       | some n, _ => written .denied [.u 1 n] s
       | none, some n =>
         written .replaced [.u 1 n, .u 2 count] (changed (held.map (fun x => if x.key = e.key then e else x)))
       | none, none =>
         if 96 ≤ held.length then written .full [] s
         else written .ok [.u 1 held.length, .u 2 count] (changed (held ++ [e]))) ∧
    (if bad then erased .outOfRange [] s
     else
       let at' : Option Nat := match sel with | .index n => some n | .key k => (keyOf k).bind (place held)
       match at' with
       | none => erased .notFound [] s
       | some n =>
         match held[n]? with
         | none => erased .notFound [] s
         | some e =>
           erased .ok (wKey e.key ++ [.u 1 (held.length - 1), .u 2 count]) (changed (held.eraseIdx n))) ∧
    (if 1 < table ∨ bad = true then read .outOfRange []
     else
       let source : Option (List MapEntry × List Wire) :=
         if table = 0 then some (held, [])
         else s.map.overlay.map (fun o => (o.entries, [.u 1 o.buffer.code, .u 1 o.preset]))
       match source with
       | none => read .badState []
       | some (entries, tail) =>
         let at' : Option Nat := match sel with | .index n => some n | .key k => (keyOf k).bind (place entries)
         match at' with
         | none => read .notFound []
         | some n =>
           match entries[n]? with
           | none => read .endOfRecord [.u 1 entries.length]
           | some e =>
             read .ok ([.u 1 n, .u 1 entries.length] ++ wKey e.key ++ [.u 1 e.targets.length] ++
               e.targets.flatMap (fun t => wTarget t ++ [.u 1 t.class.code]) ++ [.u 1 (outside e).toNat] ++ tail)) ∧
    (let l : Link := if link = 0 then .a else .b
     let overlaid : List MapEntry := match s.map.overlay with | none => [] | some o => o.entries
     let fields (m : ControlMap) : List Wire :=
       [.u 1 (m.masks.get l).toNat,
         .u 1 ((m.entries.filter (fun e => e.key.link == l)).countP
           (fun e => e.targets.any (fun t => !(m.masks.get e.key.link).getLsbD t.class.code))),
         .u 1 ((overlaid.filter (fun e => e.key.link == l)).countP
           (fun e => e.targets.any (fun t => !(m.masks.get e.key.link).getLsbD t.class.code)))]
     match mask with
     | none =>
       exec (.permit tag link mask) s =
         .next (if 1 < link then s.replied tag 0x27 .outOfRange [] else s.replied tag 0x27 .ok (fields s.map))
     | some v =>
       let m : ControlMap := { s.map with masks := s.map.masks.set l (BitVec.ofNat 8 v) }
       exec (.permit tag link mask) s =
         .next (if 1 < link ∨ 255 < v then s.replied tag 0x27 .outOfRange []
           else ({ s with map := m } : State).replied tag 0x27 .ok (fields m)))

/-- R175 to R179, R185, R190: an entry dispatched runs its targets in list order, each to its end before the next. A target whose class lies
outside the link's mask is counted as denied and reported with MAP_DENIED. Any other has the effect of its kind: a switch request of the
pedal link (a step counts from the ACTIVE context), a change of one slot of the ACTIVE context, the write of PARAM_SET, a selection of
INPUT_SELECT, a change of the link's own member of the engage set, a TAP, a message to the Satellite unit, a GESTURE notice or a PANIC;
what finds nothing to act on is counted as unapplied, and a PARAM value that is clamped as clamped.
`perform` is what a request does when it is taken; the statements of SWITCH, PARAM_SET, INPUT_SELECT, TUNER, TAP and PANIC spell it out.
The model's choice: a PARAM value that is clamped to the value held already counts as clamped too (log 28). -/
def Obligations.MapTargetsActAsTheirRequests : Prop :=
  ∀ (s : State) (key : MapKey) (targets : List Target) (t : Target) (p : Nat),
    let w := s.dispatch { key := key, targets := targets } p
    let v := s.dispatch { key := key, targets := targets ++ [t] } p
    let l := key.link
    let count (f : MapCounts → MapCounts) (x : State) : State :=
      { x with map := { x.map with counts := x.map.counts.set l (f (x.map.counts.get l)) } }
    let unapplied := count (fun c => { c with unapplied := min 65535 (c.unapplied + 1) }) w
    let asks (preset scene : Option Nat) (force : Bool) : Prop :=
      let r : SwitchRequest :=
        { preset := preset, scene := scene, force := force, source := .pedal l, tag := none, arrival := w.frameCounter,
          merged := none }
      v = (if w.engine.settings.mode = .sequence ∧ 4 ≤ w.engine.queue.length then
          w.post (.switchFailed (.pedal l) preset scene .queueFull)
        else (w.arrive r).1)
    let slotOf (n : Nat) : Option (BufferId × Context × Slot) :=
      match w.active with
      | none => none
      | some (b, c) => (c.slots[n]?).map (fun x => (b, c, x))
    let enables (n : Nat) (want : Bool → Bool) : Prop :=
      match slotOf n with
      | none => v = unapplied
      | some (b, c, x) =>
        let on := want x.enabled
        let new : Slot :=
          { x with
            enabled := on, wet := x.wet.retarget (if on then 192 else 0), dry := x.dry.retarget (if on then 0 else 192) }
        let c' : Context := { c with slots := c.slots.set n new }
        v = (if x.enabled = on then w
          else (w.setContext b c').post (.slotState b c.number (c'.slots.map Slot.enabled)))
    s.dispatch { key := key, targets := [] } p = s ∧
    ((w.map.masks.get l).getLsbD t.class.code = false →
      v = (count (fun c => { c with denied := min 65535 (c.denied + 1) }) w).post (.mapDenied key targets.length t false)) ∧
    ((w.map.masks.get l).getLsbD t.class.code = true →
      match t with
      | .preset n force => asks (some n) none force
      | .presetStep d =>
        let from' := w.active.map (fun x => x.2.number % 256)
        let rank (n : Nat) : Nat :=
          match d, from' with
          | .up, some a => (n + 255 - a) % 256
          | .down, some a => (a + 255 - n) % 256
          | .up, none => n
          | .down, none => 255 - n
        ((∀ n, n < 256 → w.presetAt n = none) → v = unapplied) ∧
        ∀ n, n < 256 → w.presetAt n ≠ none → (∀ m, m < 256 → w.presetAt m ≠ none → rank n ≤ rank m) →
          asks (some n) none false
      | .scene n => asks none (some n) false
      | .sceneStep d =>
        match w.active with
        | none => v = unapplied
        | some (_, c) =>
          let a := c.activeScene.getD 0
          asks none (some (match d with
            | .up => (a + 1) % c.scenes.length
            | .down => (a + c.scenes.length - 1) % c.scenes.length)) false
      | .slotToggle n => enables n (fun e => !e)
      | .slotSet n e => enables n (fun _ => e)
      | .param n i lo hi =>
        let r := perform 0 (.paramSet n i (lo + (hi - lo) * (p : Int) / 1023)) w
        v = (match r.2.code with
          | .ok => r.1
          | .clamped => count (fun c => { c with clamped := min 65535 (c.clamped + 1) }) r.1
          | _ => unapplied)
      | .guitar choice =>
        v = (perform 0 (.inputSelect (match choice, w.selected with
          | .select .a, _ => 0
          | .select .b, _ => 1
          | .toggle, .a => 1
          | .toggle, .b => 0)) w).1
      | .tuner action =>
        let e := w.tuner.engage
        v = w.setEngage (match l, action with
          | .a, .on => { e with pedalA := true }
          | .a, .off => { e with pedalA := false }
          | .a, .toggle => { e with pedalA := !e.pedalA }
          | .b, .on => { e with pedalB := true }
          | .b, .off => { e with pedalB := false }
          | .b, .toggle => { e with pedalB := !e.pedalB })
      | .tap => v = (perform 0 .tap w).1
      | .satMessage a payload =>
        let u := w.sat
        let counted : Satellite :=
          if a ≠ 15 ∧ (u.entry a).physical = none then { u with unmapped := min 65535 (u.unmapped + 1) } else u
        let mapped := (if a = 15 then List.range 15 else [a]).filter (fun x => (u.entry x).physical.isSome)
        let frame (x : Nat) : SatFrame :=
          { physical := (u.entry x).physical.getD 0, logical := some x, payload := payload,
            acknowledge := (u.entry x).acknowledge, origin := .map, tag := none, mark := false }
        let place (y : Satellite) (f : SatFrame) : Satellite :=
          if y.queue.length < 16 then { y with queue := y.queue ++ [f] }
          else
            match newestFor y.queue f.physical with
            | none => { y with dropped := min 65535 (y.dropped + 1) }
            | some n =>
              { y with
                queue := y.queue.set n f,
                activationCount := y.activationCount - (match y.queue[n]? with | some old => old.mark.toNat | none => 0) }
        let sat : Satellite :=
          if u.bypass.isSome then
            { counted with catchUp := mapped.foldl (fun c x =>
                putCatchUp c { address := x, payload := payload, origin := .map }) u.catchUp }
          else mapped.foldl (fun y x => place y (frame x)) counted
        v = ({ w with sat := sat } : State).syncTest
      | .hostNotice n => v = w.post (.gesture key n)
      | .panic => v = (perform 0 .panic w).1)

/-! ## The Satellite unit (chapter 10) -/

/-- R188, R194, R195, R197, R198: SAT_ADDR writes the entry and the timeout (clamped) and answers with the whole table; SAT_SEND
appends a RAW frame, or answers QUEUE_FULL, and restarts the inactivity timer; SAT_BYPASS on moves the frames that are not RAW to
the catch-up table, or restarts the timer of a running bypass, and off replays the catch-up table; SAT_STATUS reads the
timeout, the frames queued and in flight, the activation count, the bypass, the catch-up entries and the counts, and clears the counts. Where the hold-off set is current, looking at it changes nothing: SAT_BYPASS off without a bypass only answers.
Codes by log 9, reply fields by log 24, the 15 entries of SAT_ADDR with no count (log 46), the frames remaining by log 37; the position SAT_SEND answers counts from 0 (log 35). -/
def Obligations.SatelliteRequestsSendAndBypass : Prop :=
  ∀ (s : State) (tag : Byte) (write : Option AddressWrite) (timeout : Option Nat) (physical acknowledge value clear : Nat)
    (payload : List Byte), Ready s →
    let u := s.sat
    let wait (t : Option Nat) : Option Nat := t.map (fun ms => (3 * ms + 1) / 2)
    (let acceptable : Prop := ∀ w, write = some w →
       w.logical ≤ 14 ∧ w.acknowledge ≤ 1 ∧ ∀ p, w.physical = some p → 1 ≤ p ∧ p ≤ 254
     let t := (timeout.map (fun t => max 10 (min 500 t))).getD u.ackTimeout
     let table := match write with
       | none => u.table
       | some w => u.table.set w.logical { physical := w.physical, acknowledge := w.acknowledge == 1 }
     (¬ acceptable → exec (.satAddr tag write timeout) s = .next (s.replied tag 0x28 .outOfRange [])) ∧
     (acceptable → exec (.satAddr tag write timeout) s =
       .next (({ s with sat := { u with table := table, ackTimeout := t } } : State).replied tag 0x28
         (if t = timeout.getD t then .ok else .clamped)
         (table.flatMap (fun e =>
           (match e.physical with | none => [.u 1 0] | some p => [.u 1 1, .u 1 p]) ++ [.u 1 e.acknowledge.toNat]) ++
             [.u 2 t])))) ∧
    (let bypass := u.bypass.map (fun b => { b with remaining := wait b.timeout })
     let f : SatFrame :=
       { physical := physical, logical := none, payload := payload, acknowledge := acknowledge == 1, origin := .raw,
         tag := some tag, mark := false }
     exec (.satSend tag physical acknowledge payload) s =
       .next (if physical < 1 ∨ 254 < physical ∨ 1 < acknowledge ∨ payload.length < 1 ∨ 16 < payload.length then
           s.replied tag 0x29 .outOfRange []
         else if 16 ≤ u.queue.length then
           ({ s with sat := { u with bypass := bypass } } : State).replied tag 0x29 .queueFull []
         else
           ({ s with sat := { u with bypass := bypass, queue := u.queue ++ [f] } } : State).replied tag 0x29 .ok
             [.u 1 u.queue.length])) ∧
    (let moved := u.queue.filter (fun f => f.origin != .raw)
     let table := moved.foldl (fun t f =>
       putCatchUp t { address := f.logical.getD 0, payload := f.payload, origin := f.origin }) u.catchUp
     let on : Option Bypass := some { timeout := timeout, remaining := wait timeout }
     exec (.satBypass tag value timeout) s =
       .next (if value = 0 then
           (match u.bypass with
            | none => s.syncTest
            | some _ =>
              ({ s with sat := { u.catchUp.foldl Satellite.replay u with catchUp := [], bypass := none } } :
                State).syncTest).replied tag 0x2A .ok []
         else if 1 < value ∨ timeout ≠ none ∧ timeout ≠ some 250 ∧ timeout ≠ some 1000 ∧ timeout ≠ some 4000 then
           s.replied tag 0x2A .outOfRange []
         else if u.bypass.isSome then ({ s with sat := { u with bypass := on } } : State).replied tag 0x2A .ok []
         else
           (({ s with sat := { u with
             bypass := on, queue := u.queue.filter (fun f => f.origin == .raw), catchUp := table,
             activationCount := u.activationCount - moved.countP (fun f => f.mark) } } : State).syncTest).replied
               tag 0x2A .ok [.u 1 table.length])) ∧
    let fields (f : SatFrame) : List Wire :=
      [.u 1 f.physical] ++ wOpt 1 f.logical ++ [.u 1 f.acknowledge.toNat, .u 1 f.origin.code] ++
        wOpt 1 (f.tag.map BitVec.toNat) ++ [.u 1 f.mark.toNat]
    let flying : List Wire :=
      match u.inFlight with
      | none => [.u 1 0]
      | some x => [.u 1 1] ++ fields x.frame ++ wOpt 2 x.wait
    let condition : List Wire := [.u 1 u.activationCount, .u 1 (if 0 < u.activationCount then 1 else 0)]
    let bypassed : List Wire :=
      match u.bypass with
      | none => [.u 1 0]
      | some b => [.u 1 1] ++ wOpt 2 b.timeout ++ wOpt 2 b.remaining
    let catchUps : List Wire := u.catchUp.flatMap (fun e => [.u 1 e.address, .u 1 e.origin.code])
    let counts : List Wire := [.u 2 u.unmapped, .u 2 u.dropped, .u 2 u.timeouts, .u 2 u.strayAcks, .u 2 u.framingErrors]
    let held : List Wire :=
      [.u 2 u.ackTimeout, .u 1 u.queue.length] ++ u.queue.flatMap fields ++ flying ++ condition ++ bypassed ++
        [.u 1 u.catchUp.length] ++ catchUps ++ counts
    exec (.satStatus tag clear) s =
      .next (if 1 < clear then s.replied tag 0x2B .outOfRange []
        else ((if clear = 1 then
            { s with sat := { u with unmapped := 0, dropped := 0, timeouts := 0, strayAcks := 0, framingErrors := 0 } }
          else s : State)).replied tag 0x2B .ok held) ∧
    (s.holdOffsCurrent → s.syncTest = s)

/-- R191 to R193, R196, R197: the satellite lines. SAT_TX_START puts the queue's head in flight while none is and the line is free;
SAT_TX_END finishes a frame that needs no ACK and starts the ACK wait of one that does; an ACK from its address finishes it, any
other is stray; an expired wait finishes it with SAT_TIMEOUT; DATA is posted as SAT_RECEIVED; a discarded frame is counted; an
expired inactivity timer ends bypass with the replay. A finished frame gives back its mark, and the hold-off is looked at; where the
hold-off set is current and no mark is given back, that changes nothing.
Without effect when not due: log 2; at the frame's end: log 1; SAT_TIMEOUT after the notices of the head test: log 42. -/
def Obligations.SatelliteLinesFinishFrames : Prop :=
  ∀ (s : State) (address : Byte) (payload : List Byte), s.power = .running →
    let put (w : State) (x : Satellite) : State := { w with sat := x }
    let finished (w : State) (f : SatFrame) : Satellite :=
      { w.sat with inFlight := none, activationCount := w.sat.activationCount - f.mark.toNat }
    let framing : State := put s { s.sat with framingErrors := min 65535 (s.sat.framingErrors + 1) }
    let u := s.endFrame
    (s.midFrame →
    exec .satTxStart s =
      .next (match s.sat.queue with
        | [] => s
        | f :: rest =>
          if s.sat.lineBusy = false ∧ s.sat.inFlight = none then
            put s { s.sat with queue := rest, inFlight := some { frame := f, wait := none, bytes := f.bytes } }
          else s) ∧
    (s.sat.lineBusy = true → exec .satTxEnd s = .next (put s { s.sat with lineBusy := false }).syncTest) ∧
    (s.sat.lineBusy = false → (∀ x, s.sat.inFlight = some x → x.wait.isSome = true) →
      exec .satTxEnd s = .next s.syncTest) ∧
    (s.sat.lineBusy = false → ∀ f bytes, s.sat.inFlight = some { frame := f, wait := none, bytes := bytes } →
      exec .satTxEnd s =
        .next (if f.acknowledge then
            put s { s.sat with
              inFlight := some { frame := f, wait := some ((3 * s.sat.ackTimeout + 1) / 2), bytes := [] } }
          else put s (finished s f)).syncTest) ∧
    ((address = 0 ∨ address = 255) → exec (.satAck address) s = .next framing) ∧
    (address ≠ 0 → address ≠ 255 →
      (∀ f n bytes, s.sat.inFlight = some { frame := f, wait := some n, bytes := bytes } → f.physical = address.toNat →
        exec (.satAck address) s = .next (put s (finished s f)).syncTest) ∧
      ((∀ f n bytes, s.sat.inFlight = some { frame := f, wait := some n, bytes := bytes } → f.physical ≠ address.toNat) →
        exec (.satAck address) s =
          .next (put s { s.sat with strayAcks := min 65535 (s.sat.strayAcks + 1) }).syncTest)) ∧
    exec (.satData address payload) s =
      .next (if address = 0 ∨ address = 255 ∨ payload.length < 1 ∨ 16 < payload.length then framing
        else s.post (.satReceived address.toNat
          ((List.range 15).find? (fun a => (s.sat.entry a).physical == some address.toNat)) payload)) ∧
    exec .satBadFrame s = .next framing ∧ exec .satByteGapTimeout s = .next framing) ∧
    (s.holdOffsCurrent → s.syncTest = s) ∧
    exec .satAckTimeout s =
      .next (match s.frameOpen, u.sat.inFlight with
        | true, some { frame := f, wait := some 0, bytes := _ } =>
          ((put u { finished u f with timeouts := min 65535 (u.sat.timeouts + 1) }).syncTest).post
            (.satTimeout f.physical f.logical f.origin f.tag) (f.tag.getD 0)
        | _, _ => s) ∧
    exec .satBypassTimeout s =
      .next (match s.frameOpen, u.sat.bypass with
        | true, some { timeout := _, remaining := some 0 } =>
          (put u { u.sat.catchUp.foldl Satellite.replay u.sat with catchUp := [], bypass := none }).syncTest
        | _, _ => s)

/-! ## The control link (chapter 11) -/

/-- R199, R200, R209: every host request, and every valid frame CONTROL_FRAME_RECEIVED brings, is taken with its reply at the tail
of the reply queue while fewer than 8 wait there; held while fewer than 2 are held; else discarded as an overrun. While the part
takes no requests it changes nothing. A frame of unknown kind or wrong length is answered so. A frame that is not valid, a line
that breaks off and a bad frame raise the framing error count, but not before READY has gone out after a power-on.
The model's choices: a request command is the arrival of its frame (log 8), the reading of a frame's bytes where R211 leaves it open (log
10, 11), and that a frame discarded while a RESET is under way is counted, and one broken off before READY has gone out is not (log 28). -/
def Obligations.RequestsAreTakenHeldOrDiscarded : Prop :=
  ∀ (s : State), s.power = .running → s.midFrame →
    let taken (f : ControlFrame) : State :=
      match f.body with
      | .request r =>
        (perform f.tag r s).1.replied f.tag (requestKind r) (perform f.tag r s).2.code (perform f.tag r s).2.fields
      | .unknownKind k => s.replied f.tag k .unknownKind []
      | .badLength k => s.replied f.tag k .badLength []
    let arrives (f : ControlFrame) : State :=
      if s.control.gate ≠ .taking then s
      else if s.control.replies.length < 8 then taken f
      else if s.control.hold.length < 2 then { s with control := { s.control with hold := s.control.hold ++ [f] } }
      else { s with control := { s.control with overruns := min 65535 (s.control.overruns + 1) } }
    let discarded : State :=
      if s.control.gate = .startDiscard then s
      else { s with control := { s.control with framingErrors := min 65535 (s.control.framingErrors + 1) } }
    (∀ i tag r, requestOf i = some (tag, r) → exec i s = .next (arrives { tag := tag, body := .request r })) ∧
    (∀ bytes f, parseFrame bytes = some f → exec (.controlFrameReceived bytes) s = .next (arrives f)) ∧
    (∀ bytes, parseFrame bytes = none → exec (.controlFrameReceived bytes) s = .next discarded) ∧
    exec .controlBadFrame s = .next discarded ∧ exec .controlByteGapTimeout s = .next discarded

/-- R166, R200, R201, R203: the transmitters. CONTROL_TX_START with the line free sends the head reply, and a frame in the receive
hold is then taken; with no reply waiting it sends the head notice: an OVERFLOW that leaves clears the overflow state, and any other
departure puts a pending OVERFLOW at the tail while that kind is routed. DISPLAY_TX_START sends the head display message and
DISPLAY_TX_END frees the line.
The model's choices: a start with the line busy or nothing to send, and an end with nothing on the line, have no effect (log 2); a
pending OVERFLOW whose kind is no longer routed is cleared (log 26). -/
def Obligations.TransmittersSendTheHeadOfTheirQueue : Prop :=
  ∀ (s : State) (l : Link), s.power = .running → s.midFrame →
    let q := s.notices
    let sent (item : TxItem) (bytes : List Byte) (replies : List Reply) (hold : List ControlFrame) : ControlLink :=
      { s.control with replies := replies, hold := hold, tx := some { item := item, bytes := bytes } }
    let answers (t : State) : Prop := exec .controlTxStart s = .next t
    (s.control.tx.isSome = true ∨ s.control.replies = [] ∧ q.queue = [] → answers s) ∧
    (s.control.tx = none → ∀ r more, s.control.replies = r :: more →
      match s.control.hold with
      | [] => answers { s with control := sent (.reply r) r.bytes more [] }
      | f :: rest =>
        let v : State := { s with control := sent (.reply r) r.bytes more rest }
        answers (match f.body with
          | .request x =>
            (perform f.tag x v).1.replied f.tag (requestKind x) (perform f.tag x v).2.code (perform f.tag x v).2.fields
          | .unknownKind k => v.replied f.tag k .unknownKind []
          | .badLength k => v.replied f.tag k .badLength [])) ∧
    (s.control.tx = none → s.control.replies = [] → ∀ n more, q.queue = n :: more →
      let line : ControlLink := sent (.notice n) n.bytes [] s.control.hold
      if n.body.kind = .overflow then
        answers { s with control := line, notices := { q with queue := more, overflow := .clear } }
      else
        match q.overflow with
        | .pending c =>
          if (s.destinations .overflow).control then
            let o : Notice := { body := .overflow c, frame := s.frameCounter, tag := 0 }
            answers { s with control := line, notices := { q with queue := more ++ [o], overflow := .queued } }
          else answers { s with control := line, notices := { q with queue := more, overflow := .clear } }
        | _ => answers { s with control := line, notices := { q with queue := more } }) ∧
    (let p := s.pedals.get l
     let put (x : PedalLink) : State := { s with pedals := s.pedals.set l x }
     exec (.displayTxStart l) s =
       .next (match p.display with
         | [] => s
         | m :: rest =>
           if p.displayTx = none then put { p with display := rest, displayTx := some { message := m, bytes := m.bytes } }
           else s) ∧
     exec (.displayTxEnd l) s = .next (put { p with displayTx := none }))

/-- R208, R209: a RESET taken discards what is held and, from then on, every frame; as its OK reply has gone out (CONTROL_TX_END, or
SOFT_RESET in its place) the soft reset keeps the library, the curves, the loop records, the switch settings, the tempo and its lock,
the tuner and gesture settings, the masks, the global map, the address table, the routing and the selected input, and gives everything
else its reset value, with READY posted; as READY has gone out requests are taken. POWER_ON_RESET, at any time, gives every block
its power-on values with the pin low; RESET_PIN_RELEASE begins initialisation and INIT_COMPLETE ends it with READY posted.
The model's choices: a transmission's end with nothing on the line has no effect (log 2), the moments of the resets (log 5, 6, 7), and what
a soft reset leaves on the satellite and display lines (log 20). -/
def Obligations.ResetsKeepWhatTheRulesName : Prop :=
  ∀ (s : State) (tag : Byte),
    (Ready s → exec (.reset tag) s =
      .next (({ s with control := { s.control with gate := .resetDiscard, hold := [] } } : State).replied tag 0x2E .ok [])) ∧
    (let aborted (l : LoopId) (r : LoopRecord) : LoopRecord :=
       match s.loops.measuring with
       | none => r
       | some m => if m.loop = l then { r with status := .aborted } else r
     let link (p : PedalLink) : PedalLink :=
       { State.reset.pedals.a with comboMs := p.comboMs, holdMs := p.holdMs, doubleMs := p.doubleMs, displayTx := p.displayTx }
     let busy : Bool := s.sat.lineBusy || (match s.sat.inFlight with | some x => x.wait.isNone | none => false)
     let soft : State := { State.reset with
       pending := s.pending, selected := s.selected, library := s.library, routing := s.routing,
       curves := s.curves.map (fun e => { e with refs := 0 }),
       loops := { loop1 := aborted .one s.loops.loop1, loop2 := aborted .two s.loops.loop2, measuring := none },
       engine := { State.reset.engine with settings := s.engine.settings },
       tempo := { s.tempo with lastBeat := 0, nextBeat := s.tempo.period, beatCounter := 0, beatTaken := false, taps := [] },
       tuner := { State.reset.tuner with
         aref := s.tuner.aref, profileA := s.tuner.profileA, profileB := s.tuner.profileB, policies := s.tuner.policies },
       pedals := { a := link s.pedals.a, b := link s.pedals.b },
       map := { State.reset.map with entries := s.map.entries, changes := s.map.changes, masks := s.map.masks },
       sat := { State.reset.sat with table := s.sat.table, lineBusy := busy },
       control := { State.reset.control with gate := .resetDiscard },
       notices := { State.reset.notices with
         queue := [{ body := .ready .softReset Config.revision, frame := 0, tag := 0 }] } }
     s.power = .running → s.midFrame →
       (s.control.tx = none → exec .controlTxEnd s = .next s ∧ exec .softReset s = .next s) ∧
       (∀ r bytes, s.control.tx = some { item := .reply r, bytes := bytes } →
         if r.kind = 0x2E ∧ r.code = .ok then exec .controlTxEnd s = .next soft ∧ exec .softReset s = .next soft
         else exec .controlTxEnd s = .next { s with control := { s.control with tx := none } } ∧
           exec .softReset s = .next s) ∧
       (∀ n bytes, s.control.tx = some { item := .notice n, bytes := bytes } →
         exec .softReset s = .next s ∧
         exec .controlTxEnd s = .next { s with control := { s.control with
           tx := none, gate := if n.body.kind = .ready then .taking else s.control.gate } })) ∧
    exec .powerOnReset s =
      .next { State.reset with
        pending := s.pending, power := .pinLow, notices := { State.reset.notices with queue := [] } } ∧
    exec .resetPinRelease s = .next (if s.power = .pinLow then { s with power := .initialising } else s) ∧
    exec .initComplete s = .next (if s.power = .initialising then { State.reset with pending := s.pending } else s)

/-- R20, R60, R64, R103, R120, R134, R152, R171, R186, R198, R202 to R207: IDENT answers with the part's numbers; STATUS with the section, the frame counter and the
section's contents: the control link, the selection, the loops, the pedal links and the satellite unit (0), the engine (1), the buffers
(2), the tempo clock and the tuner (3), the map (4);
NOTICE_ROUTE reads or sets the destinations of a kind. A notice posted goes to the notice queue as its kind is routed: it replaces
the queued notice of its key, else joins a queue of fewer than 32, else displaces the oldest coalescable notice, else is dropped and
counted; a posting changes only the notice queue and the display queues.
Codes by log 9, reply fields by log 24, the section number and frame counter first by log 44. Of STATUS: the age
of the newest tap (log 34), the frames remaining (log 37), presence bytes (log 38), the stored mute codes last (log 39), no count before
a fixed number (log 46). -/
def Obligations.NoticesGoWhereTheirKindIsRouted : Prop :=
  (∀ (s : State) (tag : Byte) (part kind : Nat) (mask : Option Nat), Ready s →
    exec (.ident tag) s =
      .next (s.replied tag 0x2C .ok [.u 1 3, .u 1 0x4B, .u 1 0x5A, .u 1 0x43, .u 1 72, .u 1 1, .u 1 3, .u 1 16, .u 1 120,
        .u 1 240, .u 2 256, .u 1 32, .u 1 96, .u 1 16, .u 1 8, .u 1 32, .u 1 16, .u 1 8, .u 1 32, .u 2 48000]) ∧
    (let fields (x : List Wire) : Prop :=
       exec (.status tag part) s = .next (s.replied tag 0x2D .ok ([.u 1 part, .u 4 s.frameCounter] ++ x))
     let identity (i : Option Identity) : List Wire :=
       match i with
       | none => [.u 1 0]
       | some i => [.u 1 1, .u 1 i.switches, .u 1 i.pedals, .u 1 i.lines]
     let loop (r : LoopRecord) : List Wire := wOpt 2 r.latency ++ [.u 1 r.status.code]
     let tagOf (x : Option Byte) : List Wire := wOpt 1 (x.map BitVec.toNat)
     let request (r : SwitchRequest) : List Wire :=
       wOpt 1 r.preset ++ wOpt 1 r.scene ++ [.u 1 r.force.toNat, .u 1 r.source.code] ++ tagOf r.tag ++ [.u 4 r.arrival] ++
       (match r.merged with
        | none => [.u 1 0]
        | some m => [.u 1 1, .u 1 m.source.code] ++ tagOf m.tag ++ [.u 4 m.arrival])
     let e := s.engine
     let x := e.settings
     let since (n : Nat) : Nat := (s.frameCounter + (4294967296 - n % 4294967296)) % 4294967296
     let rest (first : Option Nat) (ms : Nat) : Nat :=
       match first with | none => 0 | some n => (3 * ms + 1) / 2 - since n
     let code (r : Role) : Nat :=
       match r with
       | .free => 0 | .loading => 1 | .ready => 2 | .active => 3 | .outgoing => 4 | .spill => 5 | .cutting => 6
     let buffer (b : BufferId) : List Wire :=
       let y := s.buffers.get b
       [.u 1 (code y.role)] ++ (match y.context with | none => [] | some c => [.u 1 c.number] ++ wOpt 1 c.activeScene) ++
       (match y.role with
        | .active => [.u 1 y.tOut.code, .u 1 y.tIn.code]
        | .outgoing => [.u 1 y.tOut.code, .u 1 y.tIn.code]
        | .cutting => [.u 1 y.tOut.code, .u 1 y.tIn.code]
        | .spill => [.u 1 y.tOut.code, .u 1 y.tIn.code, .u 2 y.spillFrames, .u 1 y.quietCount]
        | .loading => [.u 1 y.loadLeft]
        | _ => [])
     let p := s.tempo
     let n := s.tuner
     let overlaid (l : Link) : Bool :=
       match s.map.overlay with | none => false | some o => o.entries.any (fun m => m.key.link == l)
     let mapOf (l : Link) : List Wire :=
       let c := s.map.counts.get l
       [.u 1 (overlaid l).toNat, .u 1 (s.map.masks.get l).toNat, .u 2 c.denied, .u 2 c.unapplied, .u 2 c.clamped]
     match part with
     | 0 => fields
         ([.u 2 s.control.framingErrors, .u 2 s.control.overruns, .u 2 s.notices.drops, .u 1 s.notices.queue.length,
            .u 1 s.control.replies.length] ++
          (match s.notices.overflow with
           | .clear => [.u 1 0]
           | .pending k => [.u 1 1, .u 2 k]
           | .queued => [.u 1 2]) ++
          [.u 1 (match s.selected with | .a => 0 | .b => 1)] ++
          (match s.loops.measuring with
           | none => [.u 1 0]
           | some m => [.u 1 1, .u 1 m.loop.code, .u 1 m.tag.toNat, .u 2 m.taken] ++ wOpt 2 m.found) ++
          loop s.loops.loop1 ++ loop s.loops.loop2 ++ identity s.pedals.a.identity ++ identity s.pedals.b.identity ++
          [.u 1 s.sat.queue.length, .u 1 s.sat.inFlight.isSome.toNat, .u 1 s.sat.activationCount,
            .u 1 s.sat.bypass.isSome.toNat, .u 1 s.sat.catchUp.length])
     | 1 => fields
         ([.u 1 e.state.code, .u 1 x.mode.code, .u 1 e.queue.length] ++ e.queue.flatMap request ++
          (match e.state, e.current with
           | .loading, some c | .armed, some c | .cutting, some c => [.u 1 1] ++ request c.request ++ [.u 1 c.buffer.code]
           | _, _ => [.u 1 0]) ++
          [.u 1 (e.holdOffs.rate.toNat + 2 * e.holdOffs.tuner.toNat + 4 * e.holdOffs.satellite.toNat +
              8 * e.holdOffs.measure.toNat + 16 * e.holdOffs.host.toNat),
            .u 2 x.w1, .u 1 x.k, .u 2 x.w2, .u 1 x.tunerHold.toNat, .u 1 x.satHold.toNat] ++
          wOpt 4 (if e.holdOffs.rate then
            some ((s.frameCounter + max (rest e.rateHistory.head? x.w1) (rest e.rateHistory[x.k - 1]? x.w2)) % 4294967296)
          else none))
     | 2 => fields
         (buffer .b0 ++ buffer .b1 ++ buffer .b2 ++
          (if e.state = .crossfading then [.u 1 1, .u 1 e.fadeFrame, .u 1 e.fadeLength] else [.u 1 0]) ++
          (match s.active with
           | none => [.u 1 0]
           | some (_, c) =>
             [.u 1 1, .u 2 c.lanes.lx, .u 2 c.lanes.ly, .u 2 c.lanes.compX, .u 2 c.lanes.compY, .u 2 c.lanes.total,
               .u 1 c.lanes.misaligned.toNat]) ++
          [.u 1 s.mains.fohL.stored, .u 1 s.mains.fohR.stored, .u 1 s.mains.stage.stored, .u 1 s.mains.mon.stored])
     | 3 => fields
         ([.u 2 p.tempo, .u 4 p.period, .u 1 p.source.code, .u 1 p.lock.toNat, .u 1 p.taps.length] ++
          wOpt 5 (p.taps.getLast?.map (fun newest =>
            (32 * (s.frameCounter + (s.frameOpen || s.frameEnded).toNat + p.beatTaken.toNat) % 137438953472 +
              (137438953472 - newest % 137438953472)) % 137438953472)) ++
          [.u 1 p.beatCounter, .u 4 (p.nextBeat / 32)] ++
          ([.u 1 n.state.code, .u 1 (n.engage.host.toNat + 2 * n.engage.pedalA.toNat + 4 * n.engage.pedalB.toNat),
             .u 1 (match s.selected with | .a => 0 | .b => 1), .u 4 n.count] ++
           wOpt 1 (if n.state = .off then none
             else some (if n.count < 2048 then (2048 - n.count) / 32 else (1024 - (n.count - 2048) % 1024) / 32)) ++
           [.u 1 n.run.length, .u 1 n.weak] ++
           (match n.last with
            | none => [.u 1 0]
            | some (r, m) =>
              [.u 1 1, .u 1 (match r.input with | .a => 0 | .b => 1), .u 1 r.note, .s 1 r.cents, .u 4 r.frequency,
                .u 1 r.confidence, .u 4 r.frame, .u 1 m.code]) ++
           [.u 2 n.aref, .u 1 n.policies.fohL.code, .u 1 n.policies.fohR.code, .u 1 n.policies.stage.code,
             .u 1 n.policies.mon.code, .s 1 n.profileA.transpose, .s 1 n.profileB.transpose]))
     | 4 => fields
         ([.u 1 s.map.entries.length, .u 2 s.map.changes] ++
          (match s.map.overlay with
           | none => [.u 1 0]
           | some o => [.u 1 1, .u 1 o.buffer.code, .u 1 o.preset]) ++
          mapOf .a ++ mapOf .b)
     | _ => exec (.status tag part) s = .next (s.replied tag 0x2D .outOfRange [])) ∧
    (let answers (code : ReplyCode) (fields : List Wire) (t : State) : Prop :=
       exec (.noticeRoute tag kind mask) s = .next (t.replied tag 0x2F code fields)
     match noticeKindOf kind, mask with
     | none, _ => answers .outOfRange [] s
     | some k, none =>
       let d := s.destinations k
       answers .ok [.u 1 (d.control.toNat + 2 * d.pedalA.toNat + 4 * d.pedalB.toNat)] s
     | some k, some m =>
       if k = .ready then answers .readOnly [] s
       else if 7 < m ∨ k.renderable = false ∧ 1 < m then answers .outOfRange [] s
       else
         let d : Destinations := { control := m % 2 == 1, pedalA := m / 2 % 2 == 1, pedalB := m / 4 == 1 }
         answers .ok [.u 1 m] { s with routing := s.routing.set kind d })) ∧
  (∀ (s : State) (body : NoticeBody) (tag : Byte),
    let t := s.post body tag
    let q := s.notices
    let n : Notice := { body := body, frame := s.frameCounter, tag := tag }
    let same (m : Notice) : Bool := m.body.sameKey body
    t = { s with notices := t.notices, pedals := t.pedals } ∧
    (body.kind.renderable = false → t.pedals = s.pedals) ∧
    (∀ l, t.pedals.get l = { s.pedals.get l with display := (t.pedals.get l).display }) ∧
    t.notices =
      (if (s.destinations body.kind).control = false then q
       else if q.queue.any same then { q with queue := q.queue.map (fun m => if same m then n else m) }
       else if q.queue.length < 32 then { q with queue := q.queue ++ [n] }
       else if q.queue.any (fun m => m.body.coalescable) then
         { q with queue := q.queue.eraseP (fun m => m.body.coalescable) ++ [n] }
       else
         { queue := if q.overflow = .queued then q.queue.map raiseOverflow else q.queue
           drops := min 65535 (q.drops + 1)
           overflow :=
             match q.overflow with
             | .queued => .queued
             | .pending c => .pending (min 65535 (c + 1))
             | .clear => if (s.destinations .overflow).control then .pending 1 else .clear }))

/-- R166 to R168, R204: a notice posted is rendered on every PRESENT link its kind is routed to, as one message, which replaces the queued
message of its key in place or joins the tail: PRESET_ACTIVE and SCENE_ACTIVE as a padded line by the controller's display lines, with none
for a line it does not have; SLOT_STATE as the lamps of the switches, each lit when the first SLOT target of its entries, by the notice's
context, names a slot shown enabled; TUNER_STATE and TUNER_READING as the view of R168; BEAT as its counter. Every other posting leaves the
display queues as they are. -/
def Obligations.PostingsShowOnTheDisplayLines : Prop :=
  ∀ (s : State) (body : NoticeBody) (tag : Byte) (l : Link),
    let p := s.pedals.get l
    let after := (s.post body tag).pedals.get l
    let shows (m : DisplayMsg) : Prop :=
      after = { p with display :=
        if p.display.any (fun q => q.key == m.key) then p.display.map (fun q => if q.key == m.key then m else q)
        else p.display ++ [m] }
    let quiet : Prop := after = p
    let digit (n : Nat) : Byte := BitVec.ofNat 8 (48 + n % 10)
    let line (text : List Byte) : List Byte := (text ++ List.replicate 20 32).take 20
    let number (n : Nat) : List Byte := [digit (n / 100), digit (n / 10), digit n, 32]
    ((p.identity = none ∨ (s.destinations body.kind).pedal l = false) → quiet) ∧
    ∀ i, p.identity = some i → (s.destinations body.kind).pedal l = true →
      match body with
      | .presetActive _ n name _ => if i.lines = 0 then quiet else shows (.text 0 (line (number n ++ name)))
      | .sceneActive _ n k name _ _ =>
        if i.lines = 0 then quiet
        else if i.lines = 1 then shows (.text 0 (line (number n ++ [83, digit k, 32] ++ name)))
        else shows (.text 1 (line ([83, 67, 69, 78, 69, 32, digit k, 32] ++ name)))
      | .slotState b _ enables =>
        let own : List MapEntry := match (s.buffers.get b).context with
          | none => []
          | some c => c.overlay.filter (fun e => e.key.link == l)
        let entries := if own = [] then s.map.entries.filter (fun e => e.key.link == l) else own
        let order (g : Gesture) : Nat :=
          match g with
          | .press => 0 | .release => 1 | .hold => 2 | .double => 3 | .combo partner => 4 + partner | .move => 100
        let slots (k : Nat) : List Nat := (List.range 36).flatMap (fun n =>
          (entries.filter (fun e => e.key.source == .switch k && order e.key.gesture == n)).flatMap
            (fun e => e.targets.filterMap (fun x =>
              match x with | .slotToggle q => some q | .slotSet q _ => some q | _ => none)))
        ∃ lit : BitVec 32, shows (.leds lit) ∧
          ∀ k, k < 32 → (lit.getLsbD k = true ↔
            k < i.switches ∧ ∃ q, (slots k).head? = some q ∧ enables.getD q false = true)
      | .tunerReading r .new _ => shows (.tunerView (some r.note) (some r.cents) .live)
      | .tunerReading r .held _ => shows (.tunerView (some r.note) (some r.cents) .held)
      | .tunerState .off _ _ _ => shows (.tunerView none none .off)
      | .tunerState .listening _ _ (some (r, .stale)) => shows (.tunerView (some r.note) (some r.cents) .stale)
      | .tunerState .listening _ _ none => shows (.tunerView none none .search)
      | .tunerState .tracking _ _ (some (r, _)) => shows (.tunerView (some r.note) (some r.cents) .live)
      | .tunerState _ _ _ _ => ∃ m, m.key = (2, 0) ∧ shows m
      | .beat n _ _ => shows (.beat n)
      | _ => quiet

/-- R154, R158, R193, R199, R210 to R212: frames are read back. On the control line the frame that carries a well-formed request, its
bytes from the length through the checksum, is that request under its tag: no field of any of the 47 request kinds is dropped. On a pedal
line and on the satellite line a frame of the kinds and lengths of R212 is its command with its fields; a frame whose checksum fails is a
framing error; a pedal frame of another kind or length is rejected; a satellite frame of another form, or from address 0 or 255, is
discarded.
Selector bytes and codes as log 9 and 11 fix them, the byte order of an expression position as log 43 does. -/
def Obligations.FramesReadBack : Prop :=
  let frame (body : List Byte) : List Byte :=
    let x := BitVec.ofNat 8 body.length :: body
    x ++ [0 - x.foldl (fun a b => a + b) 0]
  (∀ (tag : Byte) (r : Request), requestWellFormed r = true →
    parseFrame (requestFrame tag r) = some { tag := tag, body := .request r }) ∧
  (∀ (l : Link) (a b c : Byte),
    pedalCommand l (frame [0x01, a, b, c]) = .pedalIdent l a b c ∧
    pedalCommand l (frame [0x02, a, 1]) = .switchDown l a ∧
    pedalCommand l (frame [0x02, a, 0]) = .switchRelease l a ∧
    pedalCommand l (frame [0x03, a, b, c]) = .pedalExpr l a (BitVec.ofNat 16 (256 * b.toNat + c.toNat))) ∧
  (∀ (l : Link) (kind : Byte) (fields : List Byte), 1 ≤ fields.length → fields.length ≤ 21 →
    ¬ (kind = 0x01 ∧ fields.length = 3) → ¬ (kind = 0x02 ∧ fields.length = 2) → ¬ (kind = 0x03 ∧ fields.length = 3) →
    pedalCommand l (frame (kind :: fields)) = .pedalBadFrame l .unknownForm) ∧
  (∀ (address : Byte) (payload : List Byte), 1 ≤ payload.length → payload.length ≤ 16 →
    let outside := address = 0 ∨ address = 255
    satelliteCommand (frame [address, 0x02]) = (if outside then .satBadFrame else .satAck address) ∧
    satelliteCommand (frame (address :: 0x01 :: payload)) =
      (if outside then .satBadFrame else .satData address payload)) ∧
  (∀ (address kind : Byte) (fields : List Byte), ¬ (kind = 0x01 ∧ fields ≠ []) → ¬ (kind = 0x02 ∧ fields = []) →
    fields.length ≤ 16 → satelliteCommand (frame (address :: kind :: fields)) = .satBadFrame) ∧
  ∀ (l : Link) (bytes : List Byte), bytes.foldl (fun a b => a + b) 0 ≠ (0 : Byte) →
    pedalCommand l bytes = .pedalBadFrame l .framing ∧ satelliteCommand bytes = .satBadFrame ∧ parseFrame bytes = none
end

