-- ==== Sys2Proof/Laws/Containers.lean ====
section
/-! SUPPORT. Reading and writing the finite collections (one value per link, buffer, output), and the small operand
decoders and clamps as arithmetic. -/

namespace Sys2Proof

open Machine

@[simp] theorem PerLink.get_set {α : Type} (p : PerLink α) (l : Link) (x : α) : (p.set l x).get l = x := by
  cases l <;> rfl

theorem PerLink.get_set_ne {α : Type} (p : PerLink α) {l k : Link} (x : α) (h : l ≠ k) :
    (p.set l x).get k = p.get k := by
  cases l <;> cases k <;> first | rfl | exact absurd rfl h

@[simp] theorem PerLink.set_set {α : Type} (p : PerLink α) (l : Link) (x y : α) : (p.set l x).set l y = p.set l y := by
  cases l <;> rfl

@[simp] theorem PerLink.set_get {α : Type} (p : PerLink α) (l : Link) : p.set l (p.get l) = p := by
  cases l <;> rfl


@[simp] theorem PerBuffer.get_set {α : Type} (p : PerBuffer α) (b : BufferId) (x : α) : (p.set b x).get b = x := by
  cases b <;> rfl

theorem PerBuffer.get_set_ne {α : Type} (p : PerBuffer α) {b c : BufferId} (x : α) (h : b ≠ c) :
    (p.set b x).get c = p.get c := by
  cases b <;> cases c <;> first | rfl | exact absurd rfl h

@[simp] theorem PerBuffer.set_set {α : Type} (p : PerBuffer α) (b : BufferId) (x y : α) :
    (p.set b x).set b y = p.set b y := by
  cases b <;> rfl

@[simp] theorem PerBuffer.set_get {α : Type} (p : PerBuffer α) (b : BufferId) : p.set b (p.get b) = p := by
  cases b <;> rfl

@[simp] theorem PerBuffer.get_map {α β : Type} (f : α → β) (p : PerBuffer α) (b : BufferId) :
    (p.map f).get b = f (p.get b) := by
  cases b <;> rfl

@[simp] theorem PerMain.get_of {α : Type} (f : MainOut → α) (o : MainOut) : (PerMain.of f).get o = f o := by
  cases o <;> rfl

@[simp] theorem PerMain.get_map {α β : Type} (f : α → β) (p : PerMain α) (o : MainOut) :
    (p.map f).get o = f (p.get o) := by
  cases o <;> rfl

end Sys2Proof

namespace Sys2Proof.Machine

@[simp] theorem PerOut.get_of {α : Type} (f : Out → α) (o : Out) : (PerOut.of f).get o = f o := by
  cases o with
  | main m => cases m <;> rfl
  | send1 => rfl
  | send2 => rfl

theorem linkOf_eq (n : Nat) : linkOf n = if 1 < n then none else some (if n = 0 then .a else .b) := by
  match n with
  | 0 => rfl
  | 1 => rfl
  | n + 2 => simp [linkOf]

theorem boolOf_eq (n : Nat) : boolOf n = if 1 < n then none else some (n == 1) := by
  match n with
  | 0 => rfl
  | 1 => rfl
  | n + 2 => simp [boolOf]

theorem clampNat_eq {lo hi : Nat} (v : Nat) (h : lo ≤ hi) : clampNat lo hi v = max lo (min hi v) := by
  unfold clampNat
  split
  · omega
  · split <;> omega

theorem clampInt_eq {lo hi : Int} (v : Int) (h : lo ≤ hi) : clampInt lo hi v = max lo (min hi v) := by
  unfold clampInt
  split
  · omega
  · split <;> omega

theorem msToFrames_eq (ms : Nat) : msToFrames ms = (3 * ms + 1) / 2 := by
  unfold msToFrames
  omega

theorem bump_le (c n : Nat) : bump c n ≤ 65535 := Nat.min_le_left _ _

end Sys2Proof.Machine
end

