-- ==== Sys2Proof/Laws/State.lean ====
section
/-! SUPPORT. One lemma for each field and each update of State, true by rfl, so that no proof unfolds a record update. -/

namespace Sys2Proof.Machine

/-! ## setBuffer -/

@[simp] theorem State.setBuffer_pending (s : State) (b : BufferId) (x : Buffer) :
    (s.setBuffer b x).pending = s.pending := rfl

@[simp] theorem State.setBuffer_power (s : State) (b : BufferId) (x : Buffer) :
    (s.setBuffer b x).power = s.power := rfl

@[simp] theorem State.setBuffer_frameCounter (s : State) (b : BufferId) (x : Buffer) :
    (s.setBuffer b x).frameCounter = s.frameCounter := rfl

@[simp] theorem State.setBuffer_frameOpen (s : State) (b : BufferId) (x : Buffer) :
    (s.setBuffer b x).frameOpen = s.frameOpen := rfl

@[simp] theorem State.setBuffer_frameEnded (s : State) (b : BufferId) (x : Buffer) :
    (s.setBuffer b x).frameEnded = s.frameEnded := rfl

@[simp] theorem State.setBuffer_mains (s : State) (b : BufferId) (x : Buffer) :
    (s.setBuffer b x).mains = s.mains := rfl

@[simp] theorem State.setBuffer_meters (s : State) (b : BufferId) (x : Buffer) :
    (s.setBuffer b x).meters = s.meters := rfl

@[simp] theorem State.setBuffer_selected (s : State) (b : BufferId) (x : Buffer) :
    (s.setBuffer b x).selected = s.selected := rfl

@[simp] theorem State.setBuffer_curves (s : State) (b : BufferId) (x : Buffer) :
    (s.setBuffer b x).curves = s.curves := rfl

@[simp] theorem State.setBuffer_buffers (s : State) (b : BufferId) (x : Buffer) : (s.setBuffer b x).buffers =
    s.buffers.set b x := rfl

@[simp] theorem State.setBuffer_loops (s : State) (b : BufferId) (x : Buffer) :
    (s.setBuffer b x).loops = s.loops := rfl

@[simp] theorem State.setBuffer_library (s : State) (b : BufferId) (x : Buffer) :
    (s.setBuffer b x).library = s.library := rfl

@[simp] theorem State.setBuffer_staging (s : State) (b : BufferId) (x : Buffer) :
    (s.setBuffer b x).staging = s.staging := rfl

@[simp] theorem State.setBuffer_engine (s : State) (b : BufferId) (x : Buffer) :
    (s.setBuffer b x).engine = s.engine := rfl

@[simp] theorem State.setBuffer_tempo (s : State) (b : BufferId) (x : Buffer) :
    (s.setBuffer b x).tempo = s.tempo := rfl

@[simp] theorem State.setBuffer_tuner (s : State) (b : BufferId) (x : Buffer) :
    (s.setBuffer b x).tuner = s.tuner := rfl

@[simp] theorem State.setBuffer_pedals (s : State) (b : BufferId) (x : Buffer) :
    (s.setBuffer b x).pedals = s.pedals := rfl

@[simp] theorem State.setBuffer_map (s : State) (b : BufferId) (x : Buffer) :
    (s.setBuffer b x).map = s.map := rfl

@[simp] theorem State.setBuffer_sat (s : State) (b : BufferId) (x : Buffer) :
    (s.setBuffer b x).sat = s.sat := rfl

@[simp] theorem State.setBuffer_control (s : State) (b : BufferId) (x : Buffer) :
    (s.setBuffer b x).control = s.control := rfl

@[simp] theorem State.setBuffer_notices (s : State) (b : BufferId) (x : Buffer) :
    (s.setBuffer b x).notices = s.notices := rfl

@[simp] theorem State.setBuffer_routing (s : State) (b : BufferId) (x : Buffer) :
    (s.setBuffer b x).routing = s.routing := rfl

/-! ## setContext -/

@[simp] theorem State.setContext_pending (s : State) (b : BufferId) (c : Context) :
    (s.setContext b c).pending = s.pending := rfl

@[simp] theorem State.setContext_power (s : State) (b : BufferId) (c : Context) :
    (s.setContext b c).power = s.power := rfl

@[simp] theorem State.setContext_frameCounter (s : State) (b : BufferId) (c : Context) :
    (s.setContext b c).frameCounter = s.frameCounter := rfl

@[simp] theorem State.setContext_frameOpen (s : State) (b : BufferId) (c : Context) :
    (s.setContext b c).frameOpen = s.frameOpen := rfl

@[simp] theorem State.setContext_frameEnded (s : State) (b : BufferId) (c : Context) :
    (s.setContext b c).frameEnded = s.frameEnded := rfl

@[simp] theorem State.setContext_mains (s : State) (b : BufferId) (c : Context) :
    (s.setContext b c).mains = s.mains := rfl

@[simp] theorem State.setContext_meters (s : State) (b : BufferId) (c : Context) :
    (s.setContext b c).meters = s.meters := rfl

@[simp] theorem State.setContext_selected (s : State) (b : BufferId) (c : Context) :
    (s.setContext b c).selected = s.selected := rfl

@[simp] theorem State.setContext_curves (s : State) (b : BufferId) (c : Context) :
    (s.setContext b c).curves = s.curves := rfl

@[simp] theorem State.setContext_buffers (s : State) (b : BufferId) (c : Context) : (s.setContext b c).buffers =
    s.buffers.set b { (s.buffers.get b) with context := some c } := rfl

@[simp] theorem State.setContext_loops (s : State) (b : BufferId) (c : Context) :
    (s.setContext b c).loops = s.loops := rfl

@[simp] theorem State.setContext_library (s : State) (b : BufferId) (c : Context) :
    (s.setContext b c).library = s.library := rfl

@[simp] theorem State.setContext_staging (s : State) (b : BufferId) (c : Context) :
    (s.setContext b c).staging = s.staging := rfl

@[simp] theorem State.setContext_engine (s : State) (b : BufferId) (c : Context) :
    (s.setContext b c).engine = s.engine := rfl

@[simp] theorem State.setContext_tempo (s : State) (b : BufferId) (c : Context) :
    (s.setContext b c).tempo = s.tempo := rfl

@[simp] theorem State.setContext_tuner (s : State) (b : BufferId) (c : Context) :
    (s.setContext b c).tuner = s.tuner := rfl

@[simp] theorem State.setContext_pedals (s : State) (b : BufferId) (c : Context) :
    (s.setContext b c).pedals = s.pedals := rfl

@[simp] theorem State.setContext_map (s : State) (b : BufferId) (c : Context) :
    (s.setContext b c).map = s.map := rfl

@[simp] theorem State.setContext_sat (s : State) (b : BufferId) (c : Context) :
    (s.setContext b c).sat = s.sat := rfl

@[simp] theorem State.setContext_control (s : State) (b : BufferId) (c : Context) :
    (s.setContext b c).control = s.control := rfl

@[simp] theorem State.setContext_notices (s : State) (b : BufferId) (c : Context) :
    (s.setContext b c).notices = s.notices := rfl

@[simp] theorem State.setContext_routing (s : State) (b : BufferId) (c : Context) :
    (s.setContext b c).routing = s.routing := rfl

/-! ## freeBuffer -/

@[simp] theorem State.freeBuffer_pending (s : State) (b : BufferId) :
    (s.freeBuffer b).pending = s.pending := rfl

@[simp] theorem State.freeBuffer_power (s : State) (b : BufferId) :
    (s.freeBuffer b).power = s.power := rfl

@[simp] theorem State.freeBuffer_frameCounter (s : State) (b : BufferId) :
    (s.freeBuffer b).frameCounter = s.frameCounter := rfl

@[simp] theorem State.freeBuffer_frameOpen (s : State) (b : BufferId) :
    (s.freeBuffer b).frameOpen = s.frameOpen := rfl

@[simp] theorem State.freeBuffer_frameEnded (s : State) (b : BufferId) :
    (s.freeBuffer b).frameEnded = s.frameEnded := rfl

@[simp] theorem State.freeBuffer_mains (s : State) (b : BufferId) :
    (s.freeBuffer b).mains = s.mains := rfl

@[simp] theorem State.freeBuffer_meters (s : State) (b : BufferId) :
    (s.freeBuffer b).meters = s.meters := rfl

@[simp] theorem State.freeBuffer_selected (s : State) (b : BufferId) :
    (s.freeBuffer b).selected = s.selected := rfl

@[simp] theorem State.freeBuffer_buffers (s : State) (b : BufferId) : (s.freeBuffer b).buffers =
    s.buffers.set b Buffer.free := rfl

@[simp] theorem State.freeBuffer_loops (s : State) (b : BufferId) :
    (s.freeBuffer b).loops = s.loops := rfl

@[simp] theorem State.freeBuffer_library (s : State) (b : BufferId) :
    (s.freeBuffer b).library = s.library := rfl

@[simp] theorem State.freeBuffer_staging (s : State) (b : BufferId) :
    (s.freeBuffer b).staging = s.staging := rfl

@[simp] theorem State.freeBuffer_engine (s : State) (b : BufferId) :
    (s.freeBuffer b).engine = s.engine := rfl

@[simp] theorem State.freeBuffer_tempo (s : State) (b : BufferId) :
    (s.freeBuffer b).tempo = s.tempo := rfl

@[simp] theorem State.freeBuffer_tuner (s : State) (b : BufferId) :
    (s.freeBuffer b).tuner = s.tuner := rfl

@[simp] theorem State.freeBuffer_pedals (s : State) (b : BufferId) :
    (s.freeBuffer b).pedals = s.pedals := rfl

@[simp] theorem State.freeBuffer_map (s : State) (b : BufferId) :
    (s.freeBuffer b).map = s.map := rfl

@[simp] theorem State.freeBuffer_sat (s : State) (b : BufferId) :
    (s.freeBuffer b).sat = s.sat := rfl

@[simp] theorem State.freeBuffer_control (s : State) (b : BufferId) :
    (s.freeBuffer b).control = s.control := rfl

@[simp] theorem State.freeBuffer_notices (s : State) (b : BufferId) :
    (s.freeBuffer b).notices = s.notices := rfl

@[simp] theorem State.freeBuffer_routing (s : State) (b : BufferId) :
    (s.freeBuffer b).routing = s.routing := rfl

/-! ## setLink -/

@[simp] theorem State.setLink_pending (s : State) (l : Link) (x : PedalLink) :
    (s.setLink l x).pending = s.pending := rfl

@[simp] theorem State.setLink_power (s : State) (l : Link) (x : PedalLink) :
    (s.setLink l x).power = s.power := rfl

@[simp] theorem State.setLink_frameCounter (s : State) (l : Link) (x : PedalLink) :
    (s.setLink l x).frameCounter = s.frameCounter := rfl

@[simp] theorem State.setLink_frameOpen (s : State) (l : Link) (x : PedalLink) :
    (s.setLink l x).frameOpen = s.frameOpen := rfl

@[simp] theorem State.setLink_frameEnded (s : State) (l : Link) (x : PedalLink) :
    (s.setLink l x).frameEnded = s.frameEnded := rfl

@[simp] theorem State.setLink_mains (s : State) (l : Link) (x : PedalLink) :
    (s.setLink l x).mains = s.mains := rfl

@[simp] theorem State.setLink_meters (s : State) (l : Link) (x : PedalLink) :
    (s.setLink l x).meters = s.meters := rfl

@[simp] theorem State.setLink_selected (s : State) (l : Link) (x : PedalLink) :
    (s.setLink l x).selected = s.selected := rfl

@[simp] theorem State.setLink_curves (s : State) (l : Link) (x : PedalLink) :
    (s.setLink l x).curves = s.curves := rfl

@[simp] theorem State.setLink_buffers (s : State) (l : Link) (x : PedalLink) :
    (s.setLink l x).buffers = s.buffers := rfl

@[simp] theorem State.setLink_loops (s : State) (l : Link) (x : PedalLink) :
    (s.setLink l x).loops = s.loops := rfl

@[simp] theorem State.setLink_library (s : State) (l : Link) (x : PedalLink) :
    (s.setLink l x).library = s.library := rfl

@[simp] theorem State.setLink_staging (s : State) (l : Link) (x : PedalLink) :
    (s.setLink l x).staging = s.staging := rfl

@[simp] theorem State.setLink_engine (s : State) (l : Link) (x : PedalLink) :
    (s.setLink l x).engine = s.engine := rfl

@[simp] theorem State.setLink_tempo (s : State) (l : Link) (x : PedalLink) :
    (s.setLink l x).tempo = s.tempo := rfl

@[simp] theorem State.setLink_tuner (s : State) (l : Link) (x : PedalLink) :
    (s.setLink l x).tuner = s.tuner := rfl

@[simp] theorem State.setLink_pedals (s : State) (l : Link) (x : PedalLink) : (s.setLink l x).pedals =
    s.pedals.set l x := rfl

@[simp] theorem State.setLink_map (s : State) (l : Link) (x : PedalLink) :
    (s.setLink l x).map = s.map := rfl

@[simp] theorem State.setLink_sat (s : State) (l : Link) (x : PedalLink) :
    (s.setLink l x).sat = s.sat := rfl

@[simp] theorem State.setLink_control (s : State) (l : Link) (x : PedalLink) :
    (s.setLink l x).control = s.control := rfl

@[simp] theorem State.setLink_notices (s : State) (l : Link) (x : PedalLink) :
    (s.setLink l x).notices = s.notices := rfl

@[simp] theorem State.setLink_routing (s : State) (l : Link) (x : PedalLink) :
    (s.setLink l x).routing = s.routing := rfl

/-! ## setMute -/

@[simp] theorem State.setMute_pending (s : State) (m : MuteSource) (v : Bool) (o : PerMain Bool) :
    (s.setMute m v o).pending = s.pending := rfl

@[simp] theorem State.setMute_power (s : State) (m : MuteSource) (v : Bool) (o : PerMain Bool) :
    (s.setMute m v o).power = s.power := rfl

@[simp] theorem State.setMute_frameCounter (s : State) (m : MuteSource) (v : Bool) (o : PerMain Bool) :
    (s.setMute m v o).frameCounter = s.frameCounter := rfl

@[simp] theorem State.setMute_frameOpen (s : State) (m : MuteSource) (v : Bool) (o : PerMain Bool) :
    (s.setMute m v o).frameOpen = s.frameOpen := rfl

@[simp] theorem State.setMute_frameEnded (s : State) (m : MuteSource) (v : Bool) (o : PerMain Bool) :
    (s.setMute m v o).frameEnded = s.frameEnded := rfl

@[simp] theorem State.setMute_mains (s : State) (m : MuteSource) (v : Bool) (o : PerMain Bool) : (s.setMute m v o).mains =
    muteOutputs s.mains m v o := rfl

@[simp] theorem State.setMute_meters (s : State) (m : MuteSource) (v : Bool) (o : PerMain Bool) :
    (s.setMute m v o).meters = s.meters := rfl

@[simp] theorem State.setMute_selected (s : State) (m : MuteSource) (v : Bool) (o : PerMain Bool) :
    (s.setMute m v o).selected = s.selected := rfl

@[simp] theorem State.setMute_curves (s : State) (m : MuteSource) (v : Bool) (o : PerMain Bool) :
    (s.setMute m v o).curves = s.curves := rfl

@[simp] theorem State.setMute_buffers (s : State) (m : MuteSource) (v : Bool) (o : PerMain Bool) :
    (s.setMute m v o).buffers = s.buffers := rfl

@[simp] theorem State.setMute_loops (s : State) (m : MuteSource) (v : Bool) (o : PerMain Bool) :
    (s.setMute m v o).loops = s.loops := rfl

@[simp] theorem State.setMute_library (s : State) (m : MuteSource) (v : Bool) (o : PerMain Bool) :
    (s.setMute m v o).library = s.library := rfl

@[simp] theorem State.setMute_staging (s : State) (m : MuteSource) (v : Bool) (o : PerMain Bool) :
    (s.setMute m v o).staging = s.staging := rfl

@[simp] theorem State.setMute_engine (s : State) (m : MuteSource) (v : Bool) (o : PerMain Bool) :
    (s.setMute m v o).engine = s.engine := rfl

@[simp] theorem State.setMute_tempo (s : State) (m : MuteSource) (v : Bool) (o : PerMain Bool) :
    (s.setMute m v o).tempo = s.tempo := rfl

@[simp] theorem State.setMute_tuner (s : State) (m : MuteSource) (v : Bool) (o : PerMain Bool) :
    (s.setMute m v o).tuner = s.tuner := rfl

@[simp] theorem State.setMute_pedals (s : State) (m : MuteSource) (v : Bool) (o : PerMain Bool) :
    (s.setMute m v o).pedals = s.pedals := rfl

@[simp] theorem State.setMute_map (s : State) (m : MuteSource) (v : Bool) (o : PerMain Bool) :
    (s.setMute m v o).map = s.map := rfl

@[simp] theorem State.setMute_sat (s : State) (m : MuteSource) (v : Bool) (o : PerMain Bool) :
    (s.setMute m v o).sat = s.sat := rfl

@[simp] theorem State.setMute_control (s : State) (m : MuteSource) (v : Bool) (o : PerMain Bool) :
    (s.setMute m v o).control = s.control := rfl

@[simp] theorem State.setMute_notices (s : State) (m : MuteSource) (v : Bool) (o : PerMain Bool) :
    (s.setMute m v o).notices = s.notices := rfl

@[simp] theorem State.setMute_routing (s : State) (m : MuteSource) (v : Bool) (o : PerMain Bool) :
    (s.setMute m v o).routing = s.routing := rfl

/-! ## setEngine -/

@[simp] theorem State.setEngine_pending (s : State) (e : Engine) :
    (s.setEngine e).pending = s.pending := rfl

@[simp] theorem State.setEngine_power (s : State) (e : Engine) :
    (s.setEngine e).power = s.power := rfl

@[simp] theorem State.setEngine_frameCounter (s : State) (e : Engine) :
    (s.setEngine e).frameCounter = s.frameCounter := rfl

@[simp] theorem State.setEngine_frameOpen (s : State) (e : Engine) :
    (s.setEngine e).frameOpen = s.frameOpen := rfl

@[simp] theorem State.setEngine_frameEnded (s : State) (e : Engine) :
    (s.setEngine e).frameEnded = s.frameEnded := rfl

@[simp] theorem State.setEngine_mains (s : State) (e : Engine) :
    (s.setEngine e).mains = s.mains := rfl

@[simp] theorem State.setEngine_meters (s : State) (e : Engine) :
    (s.setEngine e).meters = s.meters := rfl

@[simp] theorem State.setEngine_selected (s : State) (e : Engine) :
    (s.setEngine e).selected = s.selected := rfl

@[simp] theorem State.setEngine_curves (s : State) (e : Engine) :
    (s.setEngine e).curves = s.curves := rfl

@[simp] theorem State.setEngine_buffers (s : State) (e : Engine) :
    (s.setEngine e).buffers = s.buffers := rfl

@[simp] theorem State.setEngine_loops (s : State) (e : Engine) :
    (s.setEngine e).loops = s.loops := rfl

@[simp] theorem State.setEngine_library (s : State) (e : Engine) :
    (s.setEngine e).library = s.library := rfl

@[simp] theorem State.setEngine_staging (s : State) (e : Engine) :
    (s.setEngine e).staging = s.staging := rfl

@[simp] theorem State.setEngine_engine (s : State) (e : Engine) : (s.setEngine e).engine =
    e := rfl

@[simp] theorem State.setEngine_tempo (s : State) (e : Engine) :
    (s.setEngine e).tempo = s.tempo := rfl

@[simp] theorem State.setEngine_tuner (s : State) (e : Engine) :
    (s.setEngine e).tuner = s.tuner := rfl

@[simp] theorem State.setEngine_pedals (s : State) (e : Engine) :
    (s.setEngine e).pedals = s.pedals := rfl

@[simp] theorem State.setEngine_map (s : State) (e : Engine) :
    (s.setEngine e).map = s.map := rfl

@[simp] theorem State.setEngine_sat (s : State) (e : Engine) :
    (s.setEngine e).sat = s.sat := rfl

@[simp] theorem State.setEngine_control (s : State) (e : Engine) :
    (s.setEngine e).control = s.control := rfl

@[simp] theorem State.setEngine_notices (s : State) (e : Engine) :
    (s.setEngine e).notices = s.notices := rfl

@[simp] theorem State.setEngine_routing (s : State) (e : Engine) :
    (s.setEngine e).routing = s.routing := rfl

/-! ## setHoldOffs -/

@[simp] theorem State.setHoldOffs_pending (s : State) (h : HoldOffs) :
    (s.setHoldOffs h).pending = s.pending := rfl

@[simp] theorem State.setHoldOffs_power (s : State) (h : HoldOffs) :
    (s.setHoldOffs h).power = s.power := rfl

@[simp] theorem State.setHoldOffs_frameCounter (s : State) (h : HoldOffs) :
    (s.setHoldOffs h).frameCounter = s.frameCounter := rfl

@[simp] theorem State.setHoldOffs_frameOpen (s : State) (h : HoldOffs) :
    (s.setHoldOffs h).frameOpen = s.frameOpen := rfl

@[simp] theorem State.setHoldOffs_frameEnded (s : State) (h : HoldOffs) :
    (s.setHoldOffs h).frameEnded = s.frameEnded := rfl

@[simp] theorem State.setHoldOffs_mains (s : State) (h : HoldOffs) :
    (s.setHoldOffs h).mains = s.mains := rfl

@[simp] theorem State.setHoldOffs_meters (s : State) (h : HoldOffs) :
    (s.setHoldOffs h).meters = s.meters := rfl

@[simp] theorem State.setHoldOffs_selected (s : State) (h : HoldOffs) :
    (s.setHoldOffs h).selected = s.selected := rfl

@[simp] theorem State.setHoldOffs_curves (s : State) (h : HoldOffs) :
    (s.setHoldOffs h).curves = s.curves := rfl

@[simp] theorem State.setHoldOffs_buffers (s : State) (h : HoldOffs) :
    (s.setHoldOffs h).buffers = s.buffers := rfl

@[simp] theorem State.setHoldOffs_loops (s : State) (h : HoldOffs) :
    (s.setHoldOffs h).loops = s.loops := rfl

@[simp] theorem State.setHoldOffs_library (s : State) (h : HoldOffs) :
    (s.setHoldOffs h).library = s.library := rfl

@[simp] theorem State.setHoldOffs_staging (s : State) (h : HoldOffs) :
    (s.setHoldOffs h).staging = s.staging := rfl

@[simp] theorem State.setHoldOffs_engine (s : State) (h : HoldOffs) : (s.setHoldOffs h).engine =
    { s.engine with holdOffs := h } := rfl

@[simp] theorem State.setHoldOffs_tempo (s : State) (h : HoldOffs) :
    (s.setHoldOffs h).tempo = s.tempo := rfl

@[simp] theorem State.setHoldOffs_tuner (s : State) (h : HoldOffs) :
    (s.setHoldOffs h).tuner = s.tuner := rfl

@[simp] theorem State.setHoldOffs_pedals (s : State) (h : HoldOffs) :
    (s.setHoldOffs h).pedals = s.pedals := rfl

@[simp] theorem State.setHoldOffs_map (s : State) (h : HoldOffs) :
    (s.setHoldOffs h).map = s.map := rfl

@[simp] theorem State.setHoldOffs_sat (s : State) (h : HoldOffs) :
    (s.setHoldOffs h).sat = s.sat := rfl

@[simp] theorem State.setHoldOffs_control (s : State) (h : HoldOffs) :
    (s.setHoldOffs h).control = s.control := rfl

@[simp] theorem State.setHoldOffs_notices (s : State) (h : HoldOffs) :
    (s.setHoldOffs h).notices = s.notices := rfl

@[simp] theorem State.setHoldOffs_routing (s : State) (h : HoldOffs) :
    (s.setHoldOffs h).routing = s.routing := rfl

/-! ## setQueue -/

@[simp] theorem State.setQueue_pending (s : State) (q : List SwitchRequest) :
    (s.setQueue q).pending = s.pending := rfl

@[simp] theorem State.setQueue_power (s : State) (q : List SwitchRequest) :
    (s.setQueue q).power = s.power := rfl

@[simp] theorem State.setQueue_frameCounter (s : State) (q : List SwitchRequest) :
    (s.setQueue q).frameCounter = s.frameCounter := rfl

@[simp] theorem State.setQueue_frameOpen (s : State) (q : List SwitchRequest) :
    (s.setQueue q).frameOpen = s.frameOpen := rfl

@[simp] theorem State.setQueue_frameEnded (s : State) (q : List SwitchRequest) :
    (s.setQueue q).frameEnded = s.frameEnded := rfl

@[simp] theorem State.setQueue_mains (s : State) (q : List SwitchRequest) :
    (s.setQueue q).mains = s.mains := rfl

@[simp] theorem State.setQueue_meters (s : State) (q : List SwitchRequest) :
    (s.setQueue q).meters = s.meters := rfl

@[simp] theorem State.setQueue_selected (s : State) (q : List SwitchRequest) :
    (s.setQueue q).selected = s.selected := rfl

@[simp] theorem State.setQueue_curves (s : State) (q : List SwitchRequest) :
    (s.setQueue q).curves = s.curves := rfl

@[simp] theorem State.setQueue_buffers (s : State) (q : List SwitchRequest) :
    (s.setQueue q).buffers = s.buffers := rfl

@[simp] theorem State.setQueue_loops (s : State) (q : List SwitchRequest) :
    (s.setQueue q).loops = s.loops := rfl

@[simp] theorem State.setQueue_library (s : State) (q : List SwitchRequest) :
    (s.setQueue q).library = s.library := rfl

@[simp] theorem State.setQueue_staging (s : State) (q : List SwitchRequest) :
    (s.setQueue q).staging = s.staging := rfl

@[simp] theorem State.setQueue_engine (s : State) (q : List SwitchRequest) : (s.setQueue q).engine =
    ({ s.engine with queue := q } : Engine).settle := rfl

@[simp] theorem State.setQueue_tempo (s : State) (q : List SwitchRequest) :
    (s.setQueue q).tempo = s.tempo := rfl

@[simp] theorem State.setQueue_tuner (s : State) (q : List SwitchRequest) :
    (s.setQueue q).tuner = s.tuner := rfl

@[simp] theorem State.setQueue_pedals (s : State) (q : List SwitchRequest) :
    (s.setQueue q).pedals = s.pedals := rfl

@[simp] theorem State.setQueue_map (s : State) (q : List SwitchRequest) :
    (s.setQueue q).map = s.map := rfl

@[simp] theorem State.setQueue_sat (s : State) (q : List SwitchRequest) :
    (s.setQueue q).sat = s.sat := rfl

@[simp] theorem State.setQueue_control (s : State) (q : List SwitchRequest) :
    (s.setQueue q).control = s.control := rfl

@[simp] theorem State.setQueue_notices (s : State) (q : List SwitchRequest) :
    (s.setQueue q).notices = s.notices := rfl

@[simp] theorem State.setQueue_routing (s : State) (q : List SwitchRequest) :
    (s.setQueue q).routing = s.routing := rfl

/-! ## pushHistory -/

@[simp] theorem State.pushHistory_pending (s : State) (h : HistoryRecord) :
    (s.pushHistory h).pending = s.pending := rfl

@[simp] theorem State.pushHistory_power (s : State) (h : HistoryRecord) :
    (s.pushHistory h).power = s.power := rfl

@[simp] theorem State.pushHistory_frameCounter (s : State) (h : HistoryRecord) :
    (s.pushHistory h).frameCounter = s.frameCounter := rfl

@[simp] theorem State.pushHistory_frameOpen (s : State) (h : HistoryRecord) :
    (s.pushHistory h).frameOpen = s.frameOpen := rfl

@[simp] theorem State.pushHistory_frameEnded (s : State) (h : HistoryRecord) :
    (s.pushHistory h).frameEnded = s.frameEnded := rfl

@[simp] theorem State.pushHistory_mains (s : State) (h : HistoryRecord) :
    (s.pushHistory h).mains = s.mains := rfl

@[simp] theorem State.pushHistory_meters (s : State) (h : HistoryRecord) :
    (s.pushHistory h).meters = s.meters := rfl

@[simp] theorem State.pushHistory_selected (s : State) (h : HistoryRecord) :
    (s.pushHistory h).selected = s.selected := rfl

@[simp] theorem State.pushHistory_curves (s : State) (h : HistoryRecord) :
    (s.pushHistory h).curves = s.curves := rfl

@[simp] theorem State.pushHistory_buffers (s : State) (h : HistoryRecord) :
    (s.pushHistory h).buffers = s.buffers := rfl

@[simp] theorem State.pushHistory_loops (s : State) (h : HistoryRecord) :
    (s.pushHistory h).loops = s.loops := rfl

@[simp] theorem State.pushHistory_library (s : State) (h : HistoryRecord) :
    (s.pushHistory h).library = s.library := rfl

@[simp] theorem State.pushHistory_staging (s : State) (h : HistoryRecord) :
    (s.pushHistory h).staging = s.staging := rfl

@[simp] theorem State.pushHistory_engine (s : State) (h : HistoryRecord) : (s.pushHistory h).engine =
    { s.engine with history := (h :: s.engine.history).take 16 } := rfl

@[simp] theorem State.pushHistory_tempo (s : State) (h : HistoryRecord) :
    (s.pushHistory h).tempo = s.tempo := rfl

@[simp] theorem State.pushHistory_tuner (s : State) (h : HistoryRecord) :
    (s.pushHistory h).tuner = s.tuner := rfl

@[simp] theorem State.pushHistory_pedals (s : State) (h : HistoryRecord) :
    (s.pushHistory h).pedals = s.pedals := rfl

@[simp] theorem State.pushHistory_map (s : State) (h : HistoryRecord) :
    (s.pushHistory h).map = s.map := rfl

@[simp] theorem State.pushHistory_sat (s : State) (h : HistoryRecord) :
    (s.pushHistory h).sat = s.sat := rfl

@[simp] theorem State.pushHistory_control (s : State) (h : HistoryRecord) :
    (s.pushHistory h).control = s.control := rfl

@[simp] theorem State.pushHistory_notices (s : State) (h : HistoryRecord) :
    (s.pushHistory h).notices = s.notices := rfl

@[simp] theorem State.pushHistory_routing (s : State) (h : HistoryRecord) :
    (s.pushHistory h).routing = s.routing := rfl

/-! ## countOn -/

@[simp] theorem State.countOn_pending (s : State) (l : Link) (f : MapCounts → MapCounts) :
    (s.countOn l f).pending = s.pending := rfl

@[simp] theorem State.countOn_power (s : State) (l : Link) (f : MapCounts → MapCounts) :
    (s.countOn l f).power = s.power := rfl

@[simp] theorem State.countOn_frameCounter (s : State) (l : Link) (f : MapCounts → MapCounts) :
    (s.countOn l f).frameCounter = s.frameCounter := rfl

@[simp] theorem State.countOn_frameOpen (s : State) (l : Link) (f : MapCounts → MapCounts) :
    (s.countOn l f).frameOpen = s.frameOpen := rfl

@[simp] theorem State.countOn_frameEnded (s : State) (l : Link) (f : MapCounts → MapCounts) :
    (s.countOn l f).frameEnded = s.frameEnded := rfl

@[simp] theorem State.countOn_mains (s : State) (l : Link) (f : MapCounts → MapCounts) :
    (s.countOn l f).mains = s.mains := rfl

@[simp] theorem State.countOn_meters (s : State) (l : Link) (f : MapCounts → MapCounts) :
    (s.countOn l f).meters = s.meters := rfl

@[simp] theorem State.countOn_selected (s : State) (l : Link) (f : MapCounts → MapCounts) :
    (s.countOn l f).selected = s.selected := rfl

@[simp] theorem State.countOn_curves (s : State) (l : Link) (f : MapCounts → MapCounts) :
    (s.countOn l f).curves = s.curves := rfl

@[simp] theorem State.countOn_buffers (s : State) (l : Link) (f : MapCounts → MapCounts) :
    (s.countOn l f).buffers = s.buffers := rfl

@[simp] theorem State.countOn_loops (s : State) (l : Link) (f : MapCounts → MapCounts) :
    (s.countOn l f).loops = s.loops := rfl

@[simp] theorem State.countOn_library (s : State) (l : Link) (f : MapCounts → MapCounts) :
    (s.countOn l f).library = s.library := rfl

@[simp] theorem State.countOn_staging (s : State) (l : Link) (f : MapCounts → MapCounts) :
    (s.countOn l f).staging = s.staging := rfl

@[simp] theorem State.countOn_engine (s : State) (l : Link) (f : MapCounts → MapCounts) :
    (s.countOn l f).engine = s.engine := rfl

@[simp] theorem State.countOn_tempo (s : State) (l : Link) (f : MapCounts → MapCounts) :
    (s.countOn l f).tempo = s.tempo := rfl

@[simp] theorem State.countOn_tuner (s : State) (l : Link) (f : MapCounts → MapCounts) :
    (s.countOn l f).tuner = s.tuner := rfl

@[simp] theorem State.countOn_pedals (s : State) (l : Link) (f : MapCounts → MapCounts) :
    (s.countOn l f).pedals = s.pedals := rfl

@[simp] theorem State.countOn_map (s : State) (l : Link) (f : MapCounts → MapCounts) : (s.countOn l f).map =
    { s.map with counts := s.map.counts.set l (f (s.map.counts.get l)) } := rfl

@[simp] theorem State.countOn_sat (s : State) (l : Link) (f : MapCounts → MapCounts) :
    (s.countOn l f).sat = s.sat := rfl

@[simp] theorem State.countOn_control (s : State) (l : Link) (f : MapCounts → MapCounts) :
    (s.countOn l f).control = s.control := rfl

@[simp] theorem State.countOn_notices (s : State) (l : Link) (f : MapCounts → MapCounts) :
    (s.countOn l f).notices = s.notices := rfl

@[simp] theorem State.countOn_routing (s : State) (l : Link) (f : MapCounts → MapCounts) :
    (s.countOn l f).routing = s.routing := rfl

/-! ## setEntries -/

@[simp] theorem State.setEntries_pending (s : State) (es : List MapEntry) :
    (s.setEntries es).pending = s.pending := rfl

@[simp] theorem State.setEntries_power (s : State) (es : List MapEntry) :
    (s.setEntries es).power = s.power := rfl

@[simp] theorem State.setEntries_frameCounter (s : State) (es : List MapEntry) :
    (s.setEntries es).frameCounter = s.frameCounter := rfl

@[simp] theorem State.setEntries_frameOpen (s : State) (es : List MapEntry) :
    (s.setEntries es).frameOpen = s.frameOpen := rfl

@[simp] theorem State.setEntries_frameEnded (s : State) (es : List MapEntry) :
    (s.setEntries es).frameEnded = s.frameEnded := rfl

@[simp] theorem State.setEntries_mains (s : State) (es : List MapEntry) :
    (s.setEntries es).mains = s.mains := rfl

@[simp] theorem State.setEntries_meters (s : State) (es : List MapEntry) :
    (s.setEntries es).meters = s.meters := rfl

@[simp] theorem State.setEntries_selected (s : State) (es : List MapEntry) :
    (s.setEntries es).selected = s.selected := rfl

@[simp] theorem State.setEntries_curves (s : State) (es : List MapEntry) :
    (s.setEntries es).curves = s.curves := rfl

@[simp] theorem State.setEntries_buffers (s : State) (es : List MapEntry) :
    (s.setEntries es).buffers = s.buffers := rfl

@[simp] theorem State.setEntries_loops (s : State) (es : List MapEntry) :
    (s.setEntries es).loops = s.loops := rfl

@[simp] theorem State.setEntries_library (s : State) (es : List MapEntry) :
    (s.setEntries es).library = s.library := rfl

@[simp] theorem State.setEntries_staging (s : State) (es : List MapEntry) :
    (s.setEntries es).staging = s.staging := rfl

@[simp] theorem State.setEntries_engine (s : State) (es : List MapEntry) :
    (s.setEntries es).engine = s.engine := rfl

@[simp] theorem State.setEntries_tempo (s : State) (es : List MapEntry) :
    (s.setEntries es).tempo = s.tempo := rfl

@[simp] theorem State.setEntries_tuner (s : State) (es : List MapEntry) :
    (s.setEntries es).tuner = s.tuner := rfl

@[simp] theorem State.setEntries_pedals (s : State) (es : List MapEntry) :
    (s.setEntries es).pedals = s.pedals := rfl

@[simp] theorem State.setEntries_map (s : State) (es : List MapEntry) : (s.setEntries es).map =
    { s.map with entries := es, changes := (s.map.changes + 1) % 65536 } := rfl

@[simp] theorem State.setEntries_sat (s : State) (es : List MapEntry) :
    (s.setEntries es).sat = s.sat := rfl

@[simp] theorem State.setEntries_control (s : State) (es : List MapEntry) :
    (s.setEntries es).control = s.control := rfl

@[simp] theorem State.setEntries_notices (s : State) (es : List MapEntry) :
    (s.setEntries es).notices = s.notices := rfl

@[simp] theorem State.setEntries_routing (s : State) (es : List MapEntry) :
    (s.setEntries es).routing = s.routing := rfl

/-! ## setCurve -/

@[simp] theorem State.setCurve_pending (s : State) (n : Nat) (name : List Byte) (points : List (Int × Int)) :
    (s.setCurve n name points).pending = s.pending := rfl

@[simp] theorem State.setCurve_power (s : State) (n : Nat) (name : List Byte) (points : List (Int × Int)) :
    (s.setCurve n name points).power = s.power := rfl

@[simp] theorem State.setCurve_frameCounter (s : State) (n : Nat) (name : List Byte) (points : List (Int × Int)) :
    (s.setCurve n name points).frameCounter = s.frameCounter := rfl

@[simp] theorem State.setCurve_frameOpen (s : State) (n : Nat) (name : List Byte) (points : List (Int × Int)) :
    (s.setCurve n name points).frameOpen = s.frameOpen := rfl

@[simp] theorem State.setCurve_frameEnded (s : State) (n : Nat) (name : List Byte) (points : List (Int × Int)) :
    (s.setCurve n name points).frameEnded = s.frameEnded := rfl

@[simp] theorem State.setCurve_mains (s : State) (n : Nat) (name : List Byte) (points : List (Int × Int)) :
    (s.setCurve n name points).mains = s.mains := rfl

@[simp] theorem State.setCurve_meters (s : State) (n : Nat) (name : List Byte) (points : List (Int × Int)) :
    (s.setCurve n name points).meters = s.meters := rfl

@[simp] theorem State.setCurve_selected (s : State) (n : Nat) (name : List Byte) (points : List (Int × Int)) :
    (s.setCurve n name points).selected = s.selected := rfl

@[simp] theorem State.setCurve_curves (s : State) (n : Nat) (name : List Byte) (points : List (Int × Int)) : (s.setCurve n name points).curves =
    s.curves.set n { s.curveEntry n with name := name, points := points } := rfl

@[simp] theorem State.setCurve_buffers (s : State) (n : Nat) (name : List Byte) (points : List (Int × Int)) :
    (s.setCurve n name points).buffers = s.buffers := rfl

@[simp] theorem State.setCurve_loops (s : State) (n : Nat) (name : List Byte) (points : List (Int × Int)) :
    (s.setCurve n name points).loops = s.loops := rfl

@[simp] theorem State.setCurve_library (s : State) (n : Nat) (name : List Byte) (points : List (Int × Int)) :
    (s.setCurve n name points).library = s.library := rfl

@[simp] theorem State.setCurve_staging (s : State) (n : Nat) (name : List Byte) (points : List (Int × Int)) :
    (s.setCurve n name points).staging = s.staging := rfl

@[simp] theorem State.setCurve_engine (s : State) (n : Nat) (name : List Byte) (points : List (Int × Int)) :
    (s.setCurve n name points).engine = s.engine := rfl

@[simp] theorem State.setCurve_tempo (s : State) (n : Nat) (name : List Byte) (points : List (Int × Int)) :
    (s.setCurve n name points).tempo = s.tempo := rfl

@[simp] theorem State.setCurve_tuner (s : State) (n : Nat) (name : List Byte) (points : List (Int × Int)) :
    (s.setCurve n name points).tuner = s.tuner := rfl

@[simp] theorem State.setCurve_pedals (s : State) (n : Nat) (name : List Byte) (points : List (Int × Int)) :
    (s.setCurve n name points).pedals = s.pedals := rfl

@[simp] theorem State.setCurve_map (s : State) (n : Nat) (name : List Byte) (points : List (Int × Int)) :
    (s.setCurve n name points).map = s.map := rfl

@[simp] theorem State.setCurve_sat (s : State) (n : Nat) (name : List Byte) (points : List (Int × Int)) :
    (s.setCurve n name points).sat = s.sat := rfl

@[simp] theorem State.setCurve_control (s : State) (n : Nat) (name : List Byte) (points : List (Int × Int)) :
    (s.setCurve n name points).control = s.control := rfl

@[simp] theorem State.setCurve_notices (s : State) (n : Nat) (name : List Byte) (points : List (Int × Int)) :
    (s.setCurve n name points).notices = s.notices := rfl

@[simp] theorem State.setCurve_routing (s : State) (n : Nat) (name : List Byte) (points : List (Int × Int)) :
    (s.setCurve n name points).routing = s.routing := rfl

/-! ## setLocation -/

@[simp] theorem State.setLocation_pending (s : State) (n : Nat) (p : Option Preset) :
    (s.setLocation n p).pending = s.pending := rfl

@[simp] theorem State.setLocation_power (s : State) (n : Nat) (p : Option Preset) :
    (s.setLocation n p).power = s.power := rfl

@[simp] theorem State.setLocation_frameCounter (s : State) (n : Nat) (p : Option Preset) :
    (s.setLocation n p).frameCounter = s.frameCounter := rfl

@[simp] theorem State.setLocation_frameOpen (s : State) (n : Nat) (p : Option Preset) :
    (s.setLocation n p).frameOpen = s.frameOpen := rfl

@[simp] theorem State.setLocation_frameEnded (s : State) (n : Nat) (p : Option Preset) :
    (s.setLocation n p).frameEnded = s.frameEnded := rfl

@[simp] theorem State.setLocation_mains (s : State) (n : Nat) (p : Option Preset) :
    (s.setLocation n p).mains = s.mains := rfl

@[simp] theorem State.setLocation_meters (s : State) (n : Nat) (p : Option Preset) :
    (s.setLocation n p).meters = s.meters := rfl

@[simp] theorem State.setLocation_selected (s : State) (n : Nat) (p : Option Preset) :
    (s.setLocation n p).selected = s.selected := rfl

@[simp] theorem State.setLocation_curves (s : State) (n : Nat) (p : Option Preset) :
    (s.setLocation n p).curves = s.curves := rfl

@[simp] theorem State.setLocation_buffers (s : State) (n : Nat) (p : Option Preset) :
    (s.setLocation n p).buffers = s.buffers := rfl

@[simp] theorem State.setLocation_loops (s : State) (n : Nat) (p : Option Preset) :
    (s.setLocation n p).loops = s.loops := rfl

@[simp] theorem State.setLocation_library (s : State) (n : Nat) (p : Option Preset) : (s.setLocation n p).library =
    s.library.set n { preset := p, stores := ((s.location n).stores + 1) % 65536 } := rfl

@[simp] theorem State.setLocation_staging (s : State) (n : Nat) (p : Option Preset) :
    (s.setLocation n p).staging = s.staging := rfl

@[simp] theorem State.setLocation_engine (s : State) (n : Nat) (p : Option Preset) :
    (s.setLocation n p).engine = s.engine := rfl

@[simp] theorem State.setLocation_tempo (s : State) (n : Nat) (p : Option Preset) :
    (s.setLocation n p).tempo = s.tempo := rfl

@[simp] theorem State.setLocation_tuner (s : State) (n : Nat) (p : Option Preset) :
    (s.setLocation n p).tuner = s.tuner := rfl

@[simp] theorem State.setLocation_pedals (s : State) (n : Nat) (p : Option Preset) :
    (s.setLocation n p).pedals = s.pedals := rfl

@[simp] theorem State.setLocation_map (s : State) (n : Nat) (p : Option Preset) :
    (s.setLocation n p).map = s.map := rfl

@[simp] theorem State.setLocation_sat (s : State) (n : Nat) (p : Option Preset) :
    (s.setLocation n p).sat = s.sat := rfl

@[simp] theorem State.setLocation_control (s : State) (n : Nat) (p : Option Preset) :
    (s.setLocation n p).control = s.control := rfl

@[simp] theorem State.setLocation_notices (s : State) (n : Nat) (p : Option Preset) :
    (s.setLocation n p).notices = s.notices := rfl

@[simp] theorem State.setLocation_routing (s : State) (n : Nat) (p : Option Preset) :
    (s.setLocation n p).routing = s.routing := rfl

/-! ## reply -/

@[simp] theorem State.reply_pending (s : State) (tag kind : Byte) (a : Answer) :
    (s.reply tag kind a).pending = s.pending := rfl

@[simp] theorem State.reply_power (s : State) (tag kind : Byte) (a : Answer) :
    (s.reply tag kind a).power = s.power := rfl

@[simp] theorem State.reply_frameCounter (s : State) (tag kind : Byte) (a : Answer) :
    (s.reply tag kind a).frameCounter = s.frameCounter := rfl

@[simp] theorem State.reply_frameOpen (s : State) (tag kind : Byte) (a : Answer) :
    (s.reply tag kind a).frameOpen = s.frameOpen := rfl

@[simp] theorem State.reply_frameEnded (s : State) (tag kind : Byte) (a : Answer) :
    (s.reply tag kind a).frameEnded = s.frameEnded := rfl

@[simp] theorem State.reply_mains (s : State) (tag kind : Byte) (a : Answer) :
    (s.reply tag kind a).mains = s.mains := rfl

@[simp] theorem State.reply_meters (s : State) (tag kind : Byte) (a : Answer) :
    (s.reply tag kind a).meters = s.meters := rfl

@[simp] theorem State.reply_selected (s : State) (tag kind : Byte) (a : Answer) :
    (s.reply tag kind a).selected = s.selected := rfl

@[simp] theorem State.reply_curves (s : State) (tag kind : Byte) (a : Answer) :
    (s.reply tag kind a).curves = s.curves := rfl

@[simp] theorem State.reply_buffers (s : State) (tag kind : Byte) (a : Answer) :
    (s.reply tag kind a).buffers = s.buffers := rfl

@[simp] theorem State.reply_loops (s : State) (tag kind : Byte) (a : Answer) :
    (s.reply tag kind a).loops = s.loops := rfl

@[simp] theorem State.reply_library (s : State) (tag kind : Byte) (a : Answer) :
    (s.reply tag kind a).library = s.library := rfl

@[simp] theorem State.reply_staging (s : State) (tag kind : Byte) (a : Answer) :
    (s.reply tag kind a).staging = s.staging := rfl

@[simp] theorem State.reply_engine (s : State) (tag kind : Byte) (a : Answer) :
    (s.reply tag kind a).engine = s.engine := rfl

@[simp] theorem State.reply_tempo (s : State) (tag kind : Byte) (a : Answer) :
    (s.reply tag kind a).tempo = s.tempo := rfl

@[simp] theorem State.reply_tuner (s : State) (tag kind : Byte) (a : Answer) :
    (s.reply tag kind a).tuner = s.tuner := rfl

@[simp] theorem State.reply_pedals (s : State) (tag kind : Byte) (a : Answer) :
    (s.reply tag kind a).pedals = s.pedals := rfl

@[simp] theorem State.reply_map (s : State) (tag kind : Byte) (a : Answer) :
    (s.reply tag kind a).map = s.map := rfl

@[simp] theorem State.reply_sat (s : State) (tag kind : Byte) (a : Answer) :
    (s.reply tag kind a).sat = s.sat := rfl

@[simp] theorem State.reply_control (s : State) (tag kind : Byte) (a : Answer) : (s.reply tag kind a).control =
    { s.control with replies := s.control.replies ++ [{ tag := tag, kind := kind, code := a.code, fields := a.fields }] } := rfl

@[simp] theorem State.reply_notices (s : State) (tag kind : Byte) (a : Answer) :
    (s.reply tag kind a).notices = s.notices := rfl

@[simp] theorem State.reply_routing (s : State) (tag kind : Byte) (a : Answer) :
    (s.reply tag kind a).routing = s.routing := rfl

/-! ## replied -/

@[simp] theorem State.replied_pending (s : State) (tag kind : Byte) (code : ReplyCode) (fields : List Wire) :
    (s.replied tag kind code fields).pending = s.pending := rfl

@[simp] theorem State.replied_power (s : State) (tag kind : Byte) (code : ReplyCode) (fields : List Wire) :
    (s.replied tag kind code fields).power = s.power := rfl

@[simp] theorem State.replied_frameCounter (s : State) (tag kind : Byte) (code : ReplyCode) (fields : List Wire) :
    (s.replied tag kind code fields).frameCounter = s.frameCounter := rfl

@[simp] theorem State.replied_frameOpen (s : State) (tag kind : Byte) (code : ReplyCode) (fields : List Wire) :
    (s.replied tag kind code fields).frameOpen = s.frameOpen := rfl

@[simp] theorem State.replied_frameEnded (s : State) (tag kind : Byte) (code : ReplyCode) (fields : List Wire) :
    (s.replied tag kind code fields).frameEnded = s.frameEnded := rfl

@[simp] theorem State.replied_mains (s : State) (tag kind : Byte) (code : ReplyCode) (fields : List Wire) :
    (s.replied tag kind code fields).mains = s.mains := rfl

@[simp] theorem State.replied_meters (s : State) (tag kind : Byte) (code : ReplyCode) (fields : List Wire) :
    (s.replied tag kind code fields).meters = s.meters := rfl

@[simp] theorem State.replied_selected (s : State) (tag kind : Byte) (code : ReplyCode) (fields : List Wire) :
    (s.replied tag kind code fields).selected = s.selected := rfl

@[simp] theorem State.replied_curves (s : State) (tag kind : Byte) (code : ReplyCode) (fields : List Wire) :
    (s.replied tag kind code fields).curves = s.curves := rfl

@[simp] theorem State.replied_buffers (s : State) (tag kind : Byte) (code : ReplyCode) (fields : List Wire) :
    (s.replied tag kind code fields).buffers = s.buffers := rfl

@[simp] theorem State.replied_loops (s : State) (tag kind : Byte) (code : ReplyCode) (fields : List Wire) :
    (s.replied tag kind code fields).loops = s.loops := rfl

@[simp] theorem State.replied_library (s : State) (tag kind : Byte) (code : ReplyCode) (fields : List Wire) :
    (s.replied tag kind code fields).library = s.library := rfl

@[simp] theorem State.replied_staging (s : State) (tag kind : Byte) (code : ReplyCode) (fields : List Wire) :
    (s.replied tag kind code fields).staging = s.staging := rfl

@[simp] theorem State.replied_engine (s : State) (tag kind : Byte) (code : ReplyCode) (fields : List Wire) :
    (s.replied tag kind code fields).engine = s.engine := rfl

@[simp] theorem State.replied_tempo (s : State) (tag kind : Byte) (code : ReplyCode) (fields : List Wire) :
    (s.replied tag kind code fields).tempo = s.tempo := rfl

@[simp] theorem State.replied_tuner (s : State) (tag kind : Byte) (code : ReplyCode) (fields : List Wire) :
    (s.replied tag kind code fields).tuner = s.tuner := rfl

@[simp] theorem State.replied_pedals (s : State) (tag kind : Byte) (code : ReplyCode) (fields : List Wire) :
    (s.replied tag kind code fields).pedals = s.pedals := rfl

@[simp] theorem State.replied_map (s : State) (tag kind : Byte) (code : ReplyCode) (fields : List Wire) :
    (s.replied tag kind code fields).map = s.map := rfl

@[simp] theorem State.replied_sat (s : State) (tag kind : Byte) (code : ReplyCode) (fields : List Wire) :
    (s.replied tag kind code fields).sat = s.sat := rfl

@[simp] theorem State.replied_control (s : State) (tag kind : Byte) (code : ReplyCode) (fields : List Wire) : (s.replied tag kind code fields).control =
    { s.control with replies := s.control.replies ++ [{ tag := tag, kind := kind, code := code, fields := fields }] } := rfl

@[simp] theorem State.replied_notices (s : State) (tag kind : Byte) (code : ReplyCode) (fields : List Wire) :
    (s.replied tag kind code fields).notices = s.notices := rfl

@[simp] theorem State.replied_routing (s : State) (tag kind : Byte) (code : ReplyCode) (fields : List Wire) :
    (s.replied tag kind code fields).routing = s.routing := rfl

end Sys2Proof.Machine
end

