-- ==== Sys2Proof/Laws/Control.lean ====
section
/-! SUPPORT. How a command reaches its rule: on a running part (R209), and a host request that is taken as it arrives
(R200). -/

namespace Sys2Proof.Machine

theorem State.ifRunning_eq {s : State} (h : s.power = .running) (f : State → State) : s.ifRunning f = f s := by
  simp [State.ifRunning, h]

theorem State.ifRunning_off {s : State} (h : s.power ≠ .running) (f : State → State) : s.ifRunning f = s := by
  unfold State.ifRunning
  split
  · next e => exact absurd e h
  · rfl

/-- Before the end of the open frame a command is taken as the state stands. -/
theorem State.late_eq {s : State} (h : s.midFrame) : s.late = s := by
  unfold State.late
  rw [show (s.frameOpen && s.frameEnded) = false from h]
  rfl

/-- After the rest of a frame's end no frame is open, so nothing more comes first. -/
theorem State.late_midFrame (s : State) : s.late.midFrame := by
  unfold State.late State.midFrame State.closeFrame
  cases h : s.frameOpen <;> cases k : s.frameEnded <;> simp [h, k]

theorem State.inFrame_eq {s : State} (h : s.power = .running) (k : s.midFrame) (f : State → State) : s.inFrame f = f s := by
  unfold State.inFrame
  rw [State.ifRunning_eq h, State.late_eq k]

/-- R200: a valid frame taken: the reply of its request, of UNKNOWN_KIND or of BAD_LENGTH joins the reply queue. -/
theorem takeFrame_eq (f : ControlFrame) (s : State) :
    takeFrame f s =
      match f.body with
      | .request r =>
        (perform f.tag r s).1.replied f.tag (requestKind r) (perform f.tag r s).2.code (perform f.tag r s).2.fields
      | .unknownKind k => s.replied f.tag k .unknownKind []
      | .badLength k => s.replied f.tag k .badLength [] := by
  unfold takeFrame
  cases f.body <;> rfl

/-- R200: a request on a part that is ready: its effect, and its reply at the tail of the reply queue. -/
theorem State.arrival_ready {s : State} (h : Ready s) (tag : Byte) (r : Request) :
    s.arrival tag r =
      (perform tag r s).1.replied tag (requestKind r) (perform tag r s).2.code (perform tag r s).2.fields := by
  obtain ⟨h1, h2, h3, h4⟩ := h
  have e : s.arrival tag r = receive { tag := tag, body := .request r } s := State.inFrame_eq h1 h4 _
  rw [e]
  unfold receive
  rw [h2]
  dsimp only
  rw [if_pos (show s.control.replies.length < Config.replyQueueSize from h3)]
  rfl

end Sys2Proof.Machine
end

