-- ==== Sys2Proof/Laws/Designs.lean ====
section
/-! SUPPORT. The designs the manual leaves open (log 13): repeated steps, the modulation phase (R36) and the level at which
a reverb rings (R38). -/

namespace Sys2Proof.Machine

theorem iterate_add {α : Type} (f : α → α) (a b : Nat) (x : α) :
    Config.iterate f (a + b) x = Config.iterate f b (Config.iterate f a x) := by
  induction a generalizing x with
  | zero => simp [Config.iterate]
  | succ n ih => rw [Nat.succ_add]; simp [Config.iterate, ih]

/-- R38: the tail that rings on after some silence is what is left of the tail. -/
theorem silentTail_iterate (step : Nat → Nat → Int → Nat × Int) (decay memory n k : Nat) :
    Config.silentTail step decay (Config.iterate (fun q => (step decay q 0).1) n memory) k =
      Config.silentTail step decay memory (n + k) := by
  simp only [Config.silentTail, iterate_add]

/-- R38: on silence the level at which a reverb rings does not rise. -/
theorem reverb_level_falls (decay n memory : Nat) :
    Config.reverb.level decay (Config.iterate (fun q => (Config.reverb.step decay q 0).1) n memory) ≤
      Config.reverb.level decay memory := by
  obtain ⟨k, reached⟩ := Config.reverb.reached decay (Config.iterate (fun q => (Config.reverb.step decay q 0).1) n memory)
  rw [← reached, silentTail_iterate]
  exact Config.reverb.bounds decay memory (n + k)

/-- R38: a reverb that was cleared is silent while its input is. -/
theorem reverb_cleared_silent (decay n : Nat) : Config.silentTail Config.reverb.step decay 0 n = 0 := by
  have := Config.reverb.bounds decay 0 n
  rw [Config.reverb.cleared] at this
  exact Int.natAbs_eq_zero.mp (Nat.le_zero.mp this)

/-- R36: the phase stays a part of a period, and moves on by one part at each sample but for whole periods. -/
theorem phaseStep_spec {period : Nat} {phase : Rat} (h : 1 ≤ period) (low : 0 ≤ phase) (high : phase < 1) :
    0 ≤ phaseStep period phase ∧ phaseStep period phase < 1 ∧
      ∃ z : Int, phaseStep period phase = phase + 1 / (period : Rat) - z := by
  have most : (1 : Rat) / period ≤ 1 := by
    rw [div_le_one (by exact_mod_cast h)]
    exact_mod_cast h
  have least : (0 : Rat) < 1 / period := by positivity
  simp only [phaseStep]
  split
  · exact ⟨by linarith, by linarith, 1, by push_cast; ring⟩
  · exact ⟨by linarith, by linarith, 0, by push_cast; ring⟩

end Sys2Proof.Machine
end

