-- ==== Sys2Proof/Laws/Posting.lean ====
section
/-! SUPPORT. Notices: what posting one, or ending a request with one, leaves unchanged (R202, R204, R114), and what placing
display messages does to a pedal link (R166). -/

namespace Sys2Proof.Machine

/-! ## Display queues -/

/-- Placing a message changes the display queue alone. -/
theorem PedalLink.place_only (p : PedalLink) (m : DisplayMsg) : p.place m = { p with display := (p.place m).display } := by
  unfold PedalLink.place
  split
  · rfl
  · split <;> rfl

/-- Placing messages changes the display queue alone. -/
theorem PedalLink.placeAll_only (p : PedalLink) (ms : List DisplayMsg) :
    p.placeAll ms = { p with display := (p.placeAll ms).display } := by
  unfold PedalLink.placeAll
  induction ms generalizing p with
  | nil => rfl
  | cons m rest ih =>
    rw [List.foldl_cons, ih, p.place_only m]

/-- On an ABSENT link nothing is placed. -/
theorem PedalLink.place_absent {p : PedalLink} (h : p.identity = none) (m : DisplayMsg) : p.place m = p := by
  simp [PedalLink.place, h]

/-- A message placed leaves one queued message for each key. -/
theorem placeInQueue_nodup {queue : List DisplayMsg} (h : (queue.map DisplayMsg.key).Nodup) (m : DisplayMsg) :
    ((placeInQueue queue m).map DisplayMsg.key).Nodup := by
  unfold placeInQueue
  by_cases hk : queue.any (fun q => q.key == m.key) = true
  · rw [if_pos hk]
    have : (queue.map (fun q => if q.key == m.key then m else q)).map DisplayMsg.key = queue.map DisplayMsg.key := by
      rw [List.map_map]
      apply List.map_congr_left
      intro q _
      simp only [Function.comp]
      split
      · next e => exact (beq_iff_eq.mp e).symm
      · rfl
    rw [this]
    exact h
  · rw [if_neg hk, List.map_append, List.nodup_append]
    refine ⟨h, by simp, ?_⟩
    intro x hx y hy e
    simp only [List.map_cons, List.map_nil, List.mem_singleton] at hy
    obtain ⟨q, hq, rfl⟩ := List.mem_map.mp hx
    apply hk
    rw [List.any_eq_true]
    exact ⟨q, hq, by simp [e, hy]⟩

/-! ## Posting -/

theorem State.renderOn_only (s : State) (body : NoticeBody) (l : Link) :
    s.renderOn body l = { s with pedals := (s.renderOn body l).pedals } := by
  unfold State.renderOn
  dsimp only
  split
  · rfl
  · split
    · split <;> rfl
    · rfl

theorem State.postControl_only (s : State) (body : NoticeBody) (tag : Byte) :
    s.postControl body tag = { s with notices := (s.postControl body tag).notices } := by
  unfold State.postControl
  split <;> rfl

/-- R204: a posting changes the notice queue and the pedal links alone. -/
theorem State.post_only (s : State) (body : NoticeBody) (tag : Byte) :
    s.post body tag = { s with notices := (s.post body tag).notices, pedals := (s.post body tag).pedals } := by
  unfold State.post
  rw [State.renderOn_only _ body .b, State.renderOn_only _ body .a, State.postControl_only s body tag]

/-- R167, R168, R204: a link with the pedal copy of a posting placed on its display queue, where the link is PRESENT, the
notice is routed to it and it shows on a display line. -/
def State.linkWith (s : State) (body : NoticeBody) (l : Link) : PedalLink :=
  match (s.pedals.get l).identity with
  | none => s.pedals.get l
  | some i =>
    if (s.destinations body.kind).pedal l then
      match render s l i body with
      | none => s.pedals.get l
      | some m => (s.pedals.get l).place m
    else s.pedals.get l

/-- What shows on a link depends on that link, the routing, the buffers and the map alone. -/
theorem State.linkWith_congr {s t : State} (body : NoticeBody) (l : Link) (hp : t.pedals.get l = s.pedals.get l)
    (hr : t.routing = s.routing) (hb : t.buffers = s.buffers) (hm : t.map = s.map) :
    t.linkWith body l = s.linkWith body l := by
  have same (i : Identity) : render t l i body = render s l i body := by
    cases body <;> simp [render, ledsOf, hb, hm]
  unfold State.linkWith State.destinations
  rw [hp, hr]
  cases (s.pedals.get l).identity with
  | none => rfl
  | some i => simp only [same]

/-- The pedal copy on one link changes that link alone. -/
theorem State.renderOn_link (s : State) (body : NoticeBody) (k l : Link) :
    (s.renderOn body k).pedals.get l = if k = l then s.linkWith body l else s.pedals.get l := by
  by_cases h : k = l
  · subst h
    rw [if_pos rfl]
    unfold State.renderOn State.linkWith
    dsimp only
    cases (s.pedals.get k).identity with
    | none => rfl
    | some i =>
      dsimp only
      split
      · cases render s k i body with
        | none => rfl
        | some m => simp [State.setLink]
      · rfl
  · rw [if_neg h]
    unfold State.renderOn
    dsimp only
    split
    · rfl
    · split
      · split
        · rfl
        · exact PerLink.get_set_ne _ _ h
      · rfl

/-- R167, R168, R204: what a posting places on a link. -/
theorem State.post_link (s : State) (body : NoticeBody) (tag : Byte) (l : Link) :
    (s.post body tag).pedals.get l = s.linkWith body l := by
  unfold State.post
  cases l
  · rw [State.renderOn_link, if_neg (by decide), State.renderOn_link, if_pos rfl, State.postControl_only]
    exact State.linkWith_congr body .a rfl rfl rfl rfl
  · rw [State.renderOn_link, if_pos rfl]
    have other : ((s.postControl body tag).renderOn body .a).pedals.get .b = s.pedals.get .b := by
      rw [State.renderOn_link, if_neg (by decide), State.postControl_only]
    apply State.linkWith_congr body .b other <;> rw [State.renderOn_only, State.postControl_only]

@[simp] theorem State.post_pending (s : State) (body : NoticeBody) (tag : Byte) :
    (s.post body tag).pending = s.pending := by
  rw [State.post_only]

@[simp] theorem State.post_power (s : State) (body : NoticeBody) (tag : Byte) :
    (s.post body tag).power = s.power := by
  rw [State.post_only]

@[simp] theorem State.post_frameCounter (s : State) (body : NoticeBody) (tag : Byte) :
    (s.post body tag).frameCounter = s.frameCounter := by
  rw [State.post_only]

@[simp] theorem State.post_frameOpen (s : State) (body : NoticeBody) (tag : Byte) :
    (s.post body tag).frameOpen = s.frameOpen := by
  rw [State.post_only]

@[simp] theorem State.post_frameEnded (s : State) (body : NoticeBody) (tag : Byte) :
    (s.post body tag).frameEnded = s.frameEnded := by
  rw [State.post_only]

@[simp] theorem State.post_mains (s : State) (body : NoticeBody) (tag : Byte) :
    (s.post body tag).mains = s.mains := by
  rw [State.post_only]

@[simp] theorem State.post_meters (s : State) (body : NoticeBody) (tag : Byte) :
    (s.post body tag).meters = s.meters := by
  rw [State.post_only]

@[simp] theorem State.post_selected (s : State) (body : NoticeBody) (tag : Byte) :
    (s.post body tag).selected = s.selected := by
  rw [State.post_only]

@[simp] theorem State.post_curves (s : State) (body : NoticeBody) (tag : Byte) :
    (s.post body tag).curves = s.curves := by
  rw [State.post_only]

@[simp] theorem State.post_buffers (s : State) (body : NoticeBody) (tag : Byte) :
    (s.post body tag).buffers = s.buffers := by
  rw [State.post_only]

@[simp] theorem State.post_loops (s : State) (body : NoticeBody) (tag : Byte) :
    (s.post body tag).loops = s.loops := by
  rw [State.post_only]

@[simp] theorem State.post_library (s : State) (body : NoticeBody) (tag : Byte) :
    (s.post body tag).library = s.library := by
  rw [State.post_only]

@[simp] theorem State.post_staging (s : State) (body : NoticeBody) (tag : Byte) :
    (s.post body tag).staging = s.staging := by
  rw [State.post_only]

@[simp] theorem State.post_engine (s : State) (body : NoticeBody) (tag : Byte) :
    (s.post body tag).engine = s.engine := by
  rw [State.post_only]

@[simp] theorem State.post_tempo (s : State) (body : NoticeBody) (tag : Byte) :
    (s.post body tag).tempo = s.tempo := by
  rw [State.post_only]

@[simp] theorem State.post_tuner (s : State) (body : NoticeBody) (tag : Byte) :
    (s.post body tag).tuner = s.tuner := by
  rw [State.post_only]

@[simp] theorem State.post_map (s : State) (body : NoticeBody) (tag : Byte) :
    (s.post body tag).map = s.map := by
  rw [State.post_only]

@[simp] theorem State.post_sat (s : State) (body : NoticeBody) (tag : Byte) :
    (s.post body tag).sat = s.sat := by
  rw [State.post_only]

@[simp] theorem State.post_control (s : State) (body : NoticeBody) (tag : Byte) :
    (s.post body tag).control = s.control := by
  rw [State.post_only]

@[simp] theorem State.post_routing (s : State) (body : NoticeBody) (tag : Byte) :
    (s.post body tag).routing = s.routing := by
  rw [State.post_only]

/-! ## The end of a request -/

@[simp] theorem State.failRequest_pending (s : State) (r : SwitchRequest) (x : SwitchStatus) :
    (s.failRequest r x).pending = s.pending := by
  unfold State.failRequest
  split <;> simp

@[simp] theorem State.failRequest_power (s : State) (r : SwitchRequest) (x : SwitchStatus) :
    (s.failRequest r x).power = s.power := by
  unfold State.failRequest
  split <;> simp

@[simp] theorem State.failRequest_frameCounter (s : State) (r : SwitchRequest) (x : SwitchStatus) :
    (s.failRequest r x).frameCounter = s.frameCounter := by
  unfold State.failRequest
  split <;> simp

@[simp] theorem State.failRequest_frameOpen (s : State) (r : SwitchRequest) (x : SwitchStatus) :
    (s.failRequest r x).frameOpen = s.frameOpen := by
  unfold State.failRequest
  split <;> simp

@[simp] theorem State.failRequest_frameEnded (s : State) (r : SwitchRequest) (x : SwitchStatus) :
    (s.failRequest r x).frameEnded = s.frameEnded := by
  unfold State.failRequest
  split <;> simp

@[simp] theorem State.failRequest_mains (s : State) (r : SwitchRequest) (x : SwitchStatus) :
    (s.failRequest r x).mains = s.mains := by
  unfold State.failRequest
  split <;> simp

@[simp] theorem State.failRequest_meters (s : State) (r : SwitchRequest) (x : SwitchStatus) :
    (s.failRequest r x).meters = s.meters := by
  unfold State.failRequest
  split <;> simp

@[simp] theorem State.failRequest_selected (s : State) (r : SwitchRequest) (x : SwitchStatus) :
    (s.failRequest r x).selected = s.selected := by
  unfold State.failRequest
  split <;> simp

@[simp] theorem State.failRequest_curves (s : State) (r : SwitchRequest) (x : SwitchStatus) :
    (s.failRequest r x).curves = s.curves := by
  unfold State.failRequest
  split <;> simp

@[simp] theorem State.failRequest_buffers (s : State) (r : SwitchRequest) (x : SwitchStatus) :
    (s.failRequest r x).buffers = s.buffers := by
  unfold State.failRequest
  split <;> simp

@[simp] theorem State.failRequest_loops (s : State) (r : SwitchRequest) (x : SwitchStatus) :
    (s.failRequest r x).loops = s.loops := by
  unfold State.failRequest
  split <;> simp

@[simp] theorem State.failRequest_library (s : State) (r : SwitchRequest) (x : SwitchStatus) :
    (s.failRequest r x).library = s.library := by
  unfold State.failRequest
  split <;> simp

@[simp] theorem State.failRequest_staging (s : State) (r : SwitchRequest) (x : SwitchStatus) :
    (s.failRequest r x).staging = s.staging := by
  unfold State.failRequest
  split <;> simp

@[simp] theorem State.failRequest_engine (s : State) (r : SwitchRequest) (x : SwitchStatus) :
    (s.failRequest r x).engine = s.engine := by
  unfold State.failRequest
  split <;> simp

@[simp] theorem State.failRequest_tempo (s : State) (r : SwitchRequest) (x : SwitchStatus) :
    (s.failRequest r x).tempo = s.tempo := by
  unfold State.failRequest
  split <;> simp

@[simp] theorem State.failRequest_tuner (s : State) (r : SwitchRequest) (x : SwitchStatus) :
    (s.failRequest r x).tuner = s.tuner := by
  unfold State.failRequest
  split <;> simp

@[simp] theorem State.failRequest_map (s : State) (r : SwitchRequest) (x : SwitchStatus) :
    (s.failRequest r x).map = s.map := by
  unfold State.failRequest
  split <;> simp

@[simp] theorem State.failRequest_sat (s : State) (r : SwitchRequest) (x : SwitchStatus) :
    (s.failRequest r x).sat = s.sat := by
  unfold State.failRequest
  split <;> simp

@[simp] theorem State.failRequest_control (s : State) (r : SwitchRequest) (x : SwitchStatus) :
    (s.failRequest r x).control = s.control := by
  unfold State.failRequest
  split <;> simp

@[simp] theorem State.failRequest_routing (s : State) (r : SwitchRequest) (x : SwitchStatus) :
    (s.failRequest r x).routing = s.routing := by
  unfold State.failRequest
  split <;> simp

@[simp] theorem State.doneRequest_pending (s : State) (r : SwitchRequest) (scene : Option Nat) (x : SwitchStatus) (b : BufferId)
    (n : Nat) (c : Context) : (s.doneRequest r scene x b n c).pending = s.pending := by
  unfold State.doneRequest
  split <;> simp

@[simp] theorem State.doneRequest_power (s : State) (r : SwitchRequest) (scene : Option Nat) (x : SwitchStatus) (b : BufferId)
    (n : Nat) (c : Context) : (s.doneRequest r scene x b n c).power = s.power := by
  unfold State.doneRequest
  split <;> simp

@[simp] theorem State.doneRequest_frameCounter (s : State) (r : SwitchRequest) (scene : Option Nat) (x : SwitchStatus) (b : BufferId)
    (n : Nat) (c : Context) : (s.doneRequest r scene x b n c).frameCounter = s.frameCounter := by
  unfold State.doneRequest
  split <;> simp

@[simp] theorem State.doneRequest_frameOpen (s : State) (r : SwitchRequest) (scene : Option Nat) (x : SwitchStatus) (b : BufferId)
    (n : Nat) (c : Context) : (s.doneRequest r scene x b n c).frameOpen = s.frameOpen := by
  unfold State.doneRequest
  split <;> simp

@[simp] theorem State.doneRequest_frameEnded (s : State) (r : SwitchRequest) (scene : Option Nat) (x : SwitchStatus) (b : BufferId)
    (n : Nat) (c : Context) : (s.doneRequest r scene x b n c).frameEnded = s.frameEnded := by
  unfold State.doneRequest
  split <;> simp

@[simp] theorem State.doneRequest_mains (s : State) (r : SwitchRequest) (scene : Option Nat) (x : SwitchStatus) (b : BufferId)
    (n : Nat) (c : Context) : (s.doneRequest r scene x b n c).mains = s.mains := by
  unfold State.doneRequest
  split <;> simp

@[simp] theorem State.doneRequest_meters (s : State) (r : SwitchRequest) (scene : Option Nat) (x : SwitchStatus) (b : BufferId)
    (n : Nat) (c : Context) : (s.doneRequest r scene x b n c).meters = s.meters := by
  unfold State.doneRequest
  split <;> simp

@[simp] theorem State.doneRequest_selected (s : State) (r : SwitchRequest) (scene : Option Nat) (x : SwitchStatus) (b : BufferId)
    (n : Nat) (c : Context) : (s.doneRequest r scene x b n c).selected = s.selected := by
  unfold State.doneRequest
  split <;> simp

@[simp] theorem State.doneRequest_curves (s : State) (r : SwitchRequest) (scene : Option Nat) (x : SwitchStatus) (b : BufferId)
    (n : Nat) (c : Context) : (s.doneRequest r scene x b n c).curves = s.curves := by
  unfold State.doneRequest
  split <;> simp

@[simp] theorem State.doneRequest_buffers (s : State) (r : SwitchRequest) (scene : Option Nat) (x : SwitchStatus) (b : BufferId)
    (n : Nat) (c : Context) : (s.doneRequest r scene x b n c).buffers = s.buffers := by
  unfold State.doneRequest
  split <;> simp

@[simp] theorem State.doneRequest_loops (s : State) (r : SwitchRequest) (scene : Option Nat) (x : SwitchStatus) (b : BufferId)
    (n : Nat) (c : Context) : (s.doneRequest r scene x b n c).loops = s.loops := by
  unfold State.doneRequest
  split <;> simp

@[simp] theorem State.doneRequest_library (s : State) (r : SwitchRequest) (scene : Option Nat) (x : SwitchStatus) (b : BufferId)
    (n : Nat) (c : Context) : (s.doneRequest r scene x b n c).library = s.library := by
  unfold State.doneRequest
  split <;> simp

@[simp] theorem State.doneRequest_staging (s : State) (r : SwitchRequest) (scene : Option Nat) (x : SwitchStatus) (b : BufferId)
    (n : Nat) (c : Context) : (s.doneRequest r scene x b n c).staging = s.staging := by
  unfold State.doneRequest
  split <;> simp

@[simp] theorem State.doneRequest_engine (s : State) (r : SwitchRequest) (scene : Option Nat) (x : SwitchStatus) (b : BufferId)
    (n : Nat) (c : Context) : (s.doneRequest r scene x b n c).engine = s.engine := by
  unfold State.doneRequest
  split <;> simp

@[simp] theorem State.doneRequest_tempo (s : State) (r : SwitchRequest) (scene : Option Nat) (x : SwitchStatus) (b : BufferId)
    (n : Nat) (c : Context) : (s.doneRequest r scene x b n c).tempo = s.tempo := by
  unfold State.doneRequest
  split <;> simp

@[simp] theorem State.doneRequest_tuner (s : State) (r : SwitchRequest) (scene : Option Nat) (x : SwitchStatus) (b : BufferId)
    (n : Nat) (c : Context) : (s.doneRequest r scene x b n c).tuner = s.tuner := by
  unfold State.doneRequest
  split <;> simp

@[simp] theorem State.doneRequest_map (s : State) (r : SwitchRequest) (scene : Option Nat) (x : SwitchStatus) (b : BufferId)
    (n : Nat) (c : Context) : (s.doneRequest r scene x b n c).map = s.map := by
  unfold State.doneRequest
  split <;> simp

@[simp] theorem State.doneRequest_sat (s : State) (r : SwitchRequest) (scene : Option Nat) (x : SwitchStatus) (b : BufferId)
    (n : Nat) (c : Context) : (s.doneRequest r scene x b n c).sat = s.sat := by
  unfold State.doneRequest
  split <;> simp

@[simp] theorem State.doneRequest_control (s : State) (r : SwitchRequest) (scene : Option Nat) (x : SwitchStatus) (b : BufferId)
    (n : Nat) (c : Context) : (s.doneRequest r scene x b n c).control = s.control := by
  unfold State.doneRequest
  split <;> simp

@[simp] theorem State.doneRequest_routing (s : State) (r : SwitchRequest) (scene : Option Nat) (x : SwitchStatus) (b : BufferId)
    (n : Nat) (c : Context) : (s.doneRequest r scene x b n c).routing = s.routing := by
  unfold State.doneRequest
  split <;> simp

end Sys2Proof.Machine
end

