-- ==== Sys2Proof/Laws/Engine.lean ====
section
/-! SUPPORT. What the Switch Engine's operations leave unchanged: the head test (R105) and everything it starts touch only
the engine, the buffers, the curve counts, the map's counts, the notices and the display queues. -/

namespace Sys2Proof.Machine

/-- A pedal link unit without its display queue. -/
def PedalLink.line (p : PedalLink) : PedalLink := { p with display := [] }

/-- The pedal link units without their display queues. -/
def State.lines (s : State) := (s.pedals.a.line, s.pedals.b.line)

/-- What a start, a scene change and the head test never touch. -/
def State.base (s : State) :=
  (s.lines, s.pending, s.power, s.frameCounter, s.frameOpen, s.frameEnded, s.mains, s.meters, s.selected, s.loops,
    s.library, s.staging, s.tempo, s.tuner, s.sat, s.control, s.routing)

theorem State.base_eq_iff (s t : State) : s.base = t.base ↔
    s.lines = t.lines ∧ s.pending = t.pending ∧ s.power = t.power ∧ s.frameCounter = t.frameCounter ∧
    s.frameOpen = t.frameOpen ∧ s.frameEnded = t.frameEnded ∧ s.mains = t.mains ∧ s.meters = t.meters ∧
    s.selected = t.selected ∧ s.loops = t.loops ∧ s.library = t.library ∧ s.staging = t.staging ∧ s.tempo = t.tempo ∧
    s.tuner = t.tuner ∧ s.sat = t.sat ∧ s.control = t.control ∧ s.routing = t.routing := by
  simp [State.base]

theorem State.lines_of_base {s t : State} (h : s.base = t.base) : s.lines = t.lines :=
  ((State.base_eq_iff s t).mp h).1

theorem State.renderOn_lines (s : State) (body : NoticeBody) (l : Link) : (s.renderOn body l).lines = s.lines := by
  unfold State.renderOn
  dsimp only
  split
  · rfl
  · split
    · split
      · rfl
      · next m _ =>
        rw [PedalLink.place_only _ m]
        cases l <;> rfl
    · rfl

@[simp] theorem State.post_lines (s : State) (body : NoticeBody) (tag : Byte) : (s.post body tag).lines = s.lines := by
  unfold State.post
  rw [State.renderOn_lines, State.renderOn_lines, State.postControl_only]
  rfl

@[simp] theorem State.post_base (s : State) (body : NoticeBody) (tag : Byte) : (s.post body tag).base = s.base := by
  simp [State.base]

@[simp] theorem State.failRequest_base (s : State) (r : SwitchRequest) (x : SwitchStatus) :
    (s.failRequest r x).base = s.base := by
  unfold State.failRequest
  split <;> simp

@[simp] theorem State.doneRequest_base (s : State) (r : SwitchRequest) (scene : Option Nat) (x : SwitchStatus)
    (b : BufferId) (n : Nat) (c : Context) : (s.doneRequest r scene x b n c).base = s.base := by
  unfold State.doneRequest
  split <;> simp

@[simp] theorem State.setEngine_base (s : State) (e : Engine) : (s.setEngine e).base = s.base := rfl
@[simp] theorem State.setQueue_base (s : State) (q : List SwitchRequest) : (s.setQueue q).base = s.base := rfl
@[simp] theorem State.setHoldOffs_base (s : State) (h : HoldOffs) : (s.setHoldOffs h).base = s.base := rfl
@[simp] theorem State.syncHoldOffs_base (s : State) : s.syncHoldOffs.base = s.base := rfl
@[simp] theorem State.pushHistory_base (s : State) (h : HistoryRecord) : (s.pushHistory h).base = s.base := rfl
@[simp] theorem State.recordStart_base (s : State) : s.recordStart.base = s.base := rfl
@[simp] theorem State.setContext_base (s : State) (b : BufferId) (c : Context) : (s.setContext b c).base = s.base := rfl
@[simp] theorem State.setBuffer_base (s : State) (b : BufferId) (x : Buffer) : (s.setBuffer b x).base = s.base := rfl
@[simp] theorem State.freeBuffer_base (s : State) (b : BufferId) : (s.freeBuffer b).base = s.base := rfl
@[simp] theorem State.countOn_base (s : State) (l : Link) (f : MapCounts → MapCounts) : (s.countOn l f).base = s.base := rfl

@[simp] theorem State.editHistory_base (s : State) (f : HistoryRecord → HistoryRecord) :
    (s.editHistory f).base = s.base := by
  unfold State.editHistory
  split <;> simp

@[simp] theorem State.denyTarget_base (s : State) (k : MapKey) (n : Nat) (t : Target) (c : Bool) :
    (s.denyTarget k n t c).base = s.base := by
  simp [State.denyTarget, State.countDenied]

@[simp] theorem State.writeActive_base (s : State) (b : BufferId) (c : Context) (p : Nat) (x : Slot) (i : Nat) (v : Int) :
    (s.writeActive b c p x i v).1.base = s.base := by
  unfold State.writeActive
  dsimp only
  split <;> rfl

@[simp] theorem State.runParam_base (s : State) (l : Link) (n i : Nat) (lo hi : Int) (p : Nat) :
    (s.runParam l n i lo hi p).1.base = s.base := by
  unfold State.runParam
  split
  · rfl
  · split
    · rfl
    · split
      · rfl
      · dsimp only
        split
        · rfl
        · split
          · rw [State.countClamped, State.countOn_base, State.writeActive_base]
          · rw [State.writeActive_base]

theorem CatchUpRun.target_base (r : CatchUpRun) (k : MapKey) (p : Nat) (it : Target × Nat) :
    (r.target k p it).state.base = r.state.base := by
  unfold CatchUpRun.target
  split
  · split
    · exact State.runParam_base _ _ _ _ _ _ _
    · exact State.denyTarget_base _ _ _ _ _
  · rfl

theorem CatchUpRun.entry_base (r : CatchUpRun) (e : MapEntry) : (r.entry e).state.base = r.state.base := by
  unfold CatchUpRun.entry
  split
  · rfl
  · split
    · rfl
    · next p h =>
      clear h
      generalize e.targets.zipIdx = ts
      induction ts generalizing r with
      | nil => rfl
      | cons t rest ih => rw [List.foldl_cons, ih, CatchUpRun.target_base]

theorem CatchUpRun.link_base (o : List MapEntry) (r : CatchUpRun) (l : Link) :
    (CatchUpRun.link o r l).state.base = r.state.base := by
  unfold CatchUpRun.link
  split
  · rfl
  · next h =>
    clear h
    generalize effectiveFor o r.state.map.entries l = es
    induction es generalizing r with
    | nil => rfl
    | cons e rest ih => rw [List.foldl_cons, ih, CatchUpRun.entry_base]

/-- R88 to R90: applying a scene touches the buffers, the curve counts, the map's counts and the notices. -/
@[simp] theorem State.applyScene_base (s : State) (b : BufferId) (c : Context) (n : Nat) (rec : SceneRecord) :
    (s.applyScene b c n rec).base = s.base := by
  unfold State.applyScene
  dsimp only [List.foldl_cons, List.foldl_nil]
  split
  · rw [CatchUpRun.link_base, CatchUpRun.link_base]
    rfl
  · rw [State.post_base, State.post_base, State.setContext_base, CatchUpRun.link_base, CatchUpRun.link_base]
    rfl

@[simp] theorem State.sceneChange_base (s : State) (r : SwitchRequest) (b : BufferId) (c : Context) (n : Nat) :
    (s.sceneChange r b c n).base = s.base := by
  simp [State.sceneChange]

@[simp] theorem State.takeScene_base (s : State) (r : SwitchRequest) : (s.takeScene r).base = s.base := by
  unfold State.takeScene
  dsimp only
  split <;> simp

@[simp] theorem State.failStart_base (s : State) (r : SwitchRequest) (x : SwitchStatus) :
    (s.failStart r x).base = s.base := by
  simp [State.failStart]

@[simp] theorem State.startLoad_base (s : State) (r : SwitchRequest) (n : Nat) (p : Preset) :
    (s.startLoad r n p).base = s.base := by
  unfold State.startLoad
  split
  · simp
  · dsimp only
    split
    · rfl
    · rw [State.failStart_base, State.freeBuffer_base]
      rfl

@[simp] theorem State.startPreset_base (s : State) (r : SwitchRequest) (n : Nat) : (s.startPreset r n).base = s.base := by
  unfold State.startPreset
  dsimp only
  split
  · split <;> simp
  · split <;> simp

@[simp] theorem State.takeHead_base (s : State) (r : SwitchRequest) (rest : List SwitchRequest) :
    (s.takeHead r rest).base = s.base := by
  unfold State.takeHead
  dsimp only
  split <;> simp

theorem State.headTestN_base (n : Nat) (s : State) : (State.headTestN n s).base = s.base := by
  induction n generalizing s with
  | zero => rfl
  | succ n ih =>
    unfold State.headTestN
    split
    · rfl
    · split
      · rw [ih, State.takeHead_base]
      · rfl

/-- R105: the head test touches the engine, the buffers, the curve counts, the map's counts and the notices alone. -/
@[simp] theorem State.headTest_base (s : State) : s.headTest.base = s.base := State.headTestN_base _ s

/-- R101, R105: so does the look at the conditions of the hold-offs. -/
@[simp] theorem State.syncTest_base (s : State) : s.syncTest.base = s.base := by
  unfold State.syncTest
  split <;> simp

@[simp] theorem State.enqueue_base (s : State) (r : SwitchRequest) : (s.enqueue r).base = s.base := by
  simp [State.enqueue]

@[simp] theorem State.restEngine_base (s : State) : s.restEngine.base = s.base := by
  simp [State.restEngine]

theorem State.failAll_base (s : State) (rs : List SwitchRequest) (x : SwitchStatus) :
    (s.failAll rs x).base = s.base := by
  unfold State.failAll
  induction rs generalizing s with
  | nil => rfl
  | cons r rest ih => rw [List.foldl_cons, ih, State.failRequest_base]

theorem State.supersedeMerged_base (s : State) (r : SwitchRequest) : (s.supersedeMerged r).base = s.base := by
  unfold State.supersedeMerged
  split <;> simp

@[simp] theorem State.mergePending_base (s : State) (cur : CurrentSwitch) (r : SwitchRequest) :
    (s.mergePending cur r).base = s.base := by
  simp [State.mergePending, State.supersedeMerged_base]

@[simp] theorem State.mergeQueued_base (s : State) (q : SwitchRequest) (rest : List SwitchRequest) (r : SwitchRequest) :
    (s.mergeQueued q rest r).base = s.base := by
  simp [State.mergeQueued, State.supersedeMerged_base]

@[simp] theorem State.abandonPending_base (s : State) (cur : CurrentSwitch) (x : SwitchStatus) :
    (s.abandonPending cur x).base = s.base := by
  simp [State.abandonPending]

/-- R96 to R99: placing a request touches what the head test does, and the queue. -/
@[simp] theorem State.arrive_base (s : State) (r : SwitchRequest) : (s.arrive r).1.base = s.base := by
  unfold State.arrive
  split
  · split <;> simp
  · split
    · unfold State.collapsePreset
      dsimp only
      split
      · simp [State.failAll_base]
      · split
        · simp [State.failAll_base]
        · split <;> simp [State.failAll_base]
    · unfold State.collapseScene
      split
      · split
        · simp
        · split <;> simp
      · split <;> simp

@[simp] theorem State.pedalRequest_base (s : State) (l : Link) (p n : Option Nat) (f : Bool) :
    (s.pedalRequest l p n f).base = s.base := by
  unfold State.pedalRequest
  dsimp only
  split <;> simp

/-! ## The outcomes of the head test -/

/-- R105: an engine that does not rest takes no head. -/
theorem Engine.mayTake_busy {e : Engine} (h : e.state.resting = false) (r : SwitchRequest) : e.mayTake r = false := by
  simp [Engine.mayTake, h]

theorem State.headTestN_stop {s : State} {r : SwitchRequest} {rest : List SwitchRequest}
    (hq : s.engine.queue = r :: rest) (h : s.engine.mayTake r = false) (n : Nat) : State.headTestN n s = s := by
  cases n with
  | zero => rfl
  | succ n => simp [State.headTestN, hq, h]

theorem State.headTestN_empty {s : State} (hq : s.engine.queue = []) (n : Nat) : State.headTestN n s = s := by
  cases n with
  | zero => rfl
  | succ n => simp [State.headTestN, hq]

/-- R105: with an empty queue the head test does nothing. -/
theorem State.headTest_empty {s : State} (hq : s.engine.queue = []) : s.headTest = s := State.headTestN_empty hq _

/-- R105: while the head may not be taken the head test does nothing. -/
theorem State.headTest_held {s : State} {r : SwitchRequest} {rest : List SwitchRequest}
    (hq : s.engine.queue = r :: rest) (h : s.engine.mayTake r = false) : s.headTest = s := State.headTestN_stop hq h _

/-- R105: while the engine does not rest the head test does nothing. -/
theorem State.headTest_busy {s : State} (h : s.engine.state.resting = false) : s.headTest = s := by
  match hq : s.engine.queue with
  | [] => exact State.headTest_empty hq
  | r :: rest => exact State.headTest_held hq (Engine.mayTake_busy h r)

end Sys2Proof.Machine
end

