-- ==== Sys2Proof/Laws/Frames.lean ====
section
/-! SUPPORT. The frames on the lines (R199, R212): what `frameBody` finds between the length and the checksum. -/

namespace Sys2Proof.Machine

/-- R199, R212: a frame written with its length and its checksum is read back. -/
theorem frameBody_written {most : Nat} {body : List Byte} (h : 2 ≤ body.length) (k : body.length ≤ most) (m : most < 256) :
    frameBody most ((BitVec.ofNat 8 body.length :: body) ++
      [0 - (BitVec.ofNat 8 body.length :: body).foldl (fun a b => a + b) 0]) = some body := by
  rw [List.cons_append]
  have length : (BitVec.ofNat 8 body.length).toNat = body.length := by simp; omega
  have sum : (BitVec.ofNat 8 body.length ::
      (body ++ [0 - (BitVec.ofNat 8 body.length :: body).foldl (fun a b => a + b) 0])).foldl (fun a b => a + b) (0 : Byte) = 0 := by
    rw [← List.cons_append, List.foldl_append]; simp
  simp only [frameBody, length]
  rw [if_neg]
  · simp
  · simp only [sum]; simp; omega

/-- R199, R212: bytes whose checksum fails hold no frame. -/
theorem frameBody_bad_sum {most : Nat} {bytes : List Byte} (h : bytes.foldl (fun a b => a + b) 0 ≠ (0 : Byte)) :
    frameBody most bytes = none := by
  cases bytes with
  | nil => simp at h
  | cons a rest =>
    simp only [frameBody]
    rw [if_pos]
    exact Or.inr (Or.inr (Or.inr h))

end Sys2Proof.Machine
end

