-- ==== Sys2Proof/Laws/Gestures.lean ====
section
/-! SUPPORT. Dispatching a map entry (R175) leaves the pedal link units as they are but for their display queues, so the
record of a switch is the same after the gestures it fires (R160); and how the targets of an entry and their switch requests
come one after the other. -/

namespace Sys2Proof.Machine

theorem State.freeRole_lines (s : State) (r : Role) : (s.freeRole r).lines = s.lines := by
  unfold State.freeRole
  generalize s.withRole r = bs
  induction bs generalizing s with
  | nil => rfl
  | cons b rest ih => rw [List.foldl_cons, ih]; rfl

theorem State.endSwitch_base (s : State) (cur : CurrentSwitch) (x : SwitchStatus) : (s.endSwitch cur x).base = s.base := by
  unfold State.endSwitch
  split
  · rfl
  · dsimp only
    rw [State.doneRequest_base, State.editHistory_base]

theorem State.panicSwitch_lines (s : State) : s.panicSwitch.lines = s.lines := by
  unfold State.panicSwitch
  split
  · rfl
  · split
    · rw [State.lines_of_base (State.endSwitch_base _ _ _), State.freeRole_lines]
    · exact State.lines_of_base (State.abandonPending_base _ _ _)

theorem State.abortMeasure_lines (s : State) : s.abortMeasure.lines = s.lines := by
  unfold State.abortMeasure
  split
  · rfl
  · rw [State.post_lines]
    rfl

theorem State.panic_lines (s : State) : s.panic.lines = s.lines := by
  unfold State.panic
  dsimp only
  change (((State.panicSwitch _).freeRole .spill).freeRole .cutting).abortMeasure.lines = _
  rw [State.abortMeasure_lines, State.freeRole_lines, State.freeRole_lines, State.panicSwitch_lines,
    State.lines_of_base (State.setQueue_base _ _), State.lines_of_base (State.failAll_base _ _ _)]
  rfl

theorem State.setEngage_lines (s : State) (e : EngageSet) : (s.setEngage e).lines = s.lines := by
  unfold State.setEngage
  dsimp only
  split
  · rfl
  · split
    · unfold State.engageTuner State.postTunerState
      rw [State.post_lines]
      rfl
    · split
      · unfold State.disengageTuner State.postTunerState
        rw [State.post_lines, State.lines_of_base (State.syncTest_base _)]
        rfl
      · unfold State.postTunerState
        rw [State.post_lines]
        rfl

theorem State.selectInput_lines (s : State) (i : Input) : (s.selectInput i).lines = s.lines := by
  unfold State.selectInput
  split
  · rfl
  · unfold State.tunerInput
    split
    · rfl
    · unfold State.postTunerState
      rw [State.post_lines]
      rfl

theorem State.slotTarget_lines (s : State) (l : Link) (n : Nat) (f : Bool → Bool) : (s.slotTarget l n f).lines = s.lines := by
  unfold State.slotTarget
  split
  · rfl
  · split
    · rfl
    · unfold State.setSlotEnabled
      split
      · rfl
      · dsimp only
        rw [State.post_lines]
        rfl

/-- R176 to R179: a target leaves the pedal link units as they are but for their display queues. -/
theorem State.runTarget_lines (s : State) (k : MapKey) (p : Nat) (t : Target) : (s.runTarget k p t).lines = s.lines := by
  unfold State.runTarget
  split
  · exact State.lines_of_base (State.pedalRequest_base _ _ _ _ _)
  · split
    · rfl
    · exact State.lines_of_base (State.pedalRequest_base _ _ _ _ _)
  · exact State.lines_of_base (State.pedalRequest_base _ _ _ _ _)
  · split
    · rfl
    · exact State.lines_of_base (State.pedalRequest_base _ _ _ _ _)
  · exact State.slotTarget_lines _ _ _ _
  · exact State.slotTarget_lines _ _ _ _
  · exact State.lines_of_base (State.runParam_base _ _ _ _ _ _ _)
  · exact State.selectInput_lines _ _
  · unfold State.tunerTarget
    split <;> exact State.setEngage_lines _ _
  · rfl
  · unfold State.mapMessage
    rw [State.lines_of_base (State.syncTest_base _)]
    rfl
  · exact State.post_lines _ _ _
  · exact State.panic_lines _

/-- R175: dispatching an entry leaves the pedal link units as they are but for their display queues. -/
theorem State.dispatch_lines (s : State) (e : MapEntry) (p : Nat) : (s.dispatch e p).lines = s.lines := by
  unfold State.dispatch
  generalize e.targets.zipIdx = ts
  induction ts generalizing s with
  | nil => rfl
  | cons t rest ih =>
    rw [List.foldl_cons, ih]
    unfold State.dispatchTarget
    split
    · exact State.runTarget_lines _ _ _ _
    · exact State.lines_of_base (State.denyTarget_base _ _ _ _ _)

/-- R160: the switch records are the same after a dispatch. -/
theorem State.dispatch_switches (s : State) (e : MapEntry) (p : Nat) (l : Link) :
    ((s.dispatch e p).pedals.get l).switches = (s.pedals.get l).switches := by
  have h := s.dispatch_lines e p
  unfold State.lines at h
  have ha := congrArg PedalLink.switches (congrArg Prod.fst h)
  have hb := congrArg PedalLink.switches (congrArg Prod.snd h)
  cases l
  · exact ha
  · exact hb

/-- R175: an entry with one target more: the targets before it run, then it. -/
theorem State.dispatch_append (s : State) (key : MapKey) (targets : List Target) (t : Target) (p : Nat) :
    s.dispatch { key := key, targets := targets ++ [t] } p =
      State.dispatchTarget key p (s.dispatch { key := key, targets := targets } p) (t, targets.length) := by
  simp [State.dispatch, List.zipIdx_append]

/-- R96: a switch request of a pedal target is placed, or reported with QUEUE_FULL in SEQUENCE mode with four waiting. -/
theorem State.pedalRequest_eq (s : State) (l : Link) (preset scene : Option Nat) (force : Bool) :
    s.pedalRequest l preset scene force =
      if s.engine.settings.mode = .sequence ∧ 4 ≤ s.engine.queue.length then
        s.post (.switchFailed (.pedal l) preset scene .queueFull)
      else (s.arrive (s.newRequest preset scene force (.pedal l) none)).1 := by
  unfold State.pedalRequest
  dsimp only
  generalize hr : s.newRequest preset scene force (.pedal l) none = r
  have full : (s.arrive r).2 = false ↔ s.engine.settings.mode = .sequence ∧ 4 ≤ s.engine.queue.length := by
    unfold State.arrive
    split
    · rename_i m
      by_cases k : s.engine.queue.length < 4
      · simp [Config.switchQueueSize, m, k]
      · simp [Config.switchQueueSize, m, k, Nat.le_of_not_lt k]
    · rename_i m
      split <;> simp [m]
  by_cases h : s.engine.settings.mode = .sequence ∧ 4 ≤ s.engine.queue.length
  · rw [if_pos h, if_neg (by simp [full.mpr h]), ← hr]
    rfl
  · rw [if_neg h, if_pos (by simpa [h] using full)]

end Sys2Proof.Machine
end

