-- ==== Sys2Proof/Laws/Level.lean ====
section
/-! SUPPORT. The clamp to the sample range (R6) and the delay step (R30). -/

namespace Sys2Proof.Machine

theorem clampSample_range (v : Int) : -8388608 ≤ clampSample v ∧ clampSample v ≤ 8388607 := by
  unfold clampSample
  split
  · omega
  · split <;> omega

theorem clampSample_of_range {v : Int} (h : -8388608 ≤ v) (k : v ≤ 8388607) : clampSample v = v := by
  unfold clampSample
  rw [if_neg (by omega), if_neg (by omega)]

/-- R6: every value of a clamped block lies in the sample range. -/
theorem clampBlock_range {sums : List Int} {x : Int} (h : x ∈ clampBlock sums) : -8388608 ≤ x ∧ x ≤ 8388607 := by
  obtain ⟨v, _, rfl⟩ := List.mem_map.mp h
  exact clampSample_range v

/-- R6: a sum in the range is no clip. -/
theorem clipOf_of_range {v : Int} (h : -8388608 ≤ v) (k : v ≤ 8388607) : clipOf v = 0 := by
  simp [clipOf, clampSample_of_range h k]

/-- R30: a delay line gives its oldest sample and takes the new one. -/
theorem delayStep_eq (line : List Int) (x : Int) : delayStep line x = ((line ++ [x]).tail, (line ++ [x]).headD 0) := by
  cases line <;> rfl

@[simp] theorem delayStep_length (line : List Int) (x : Int) : (delayStep line x).1.length = line.length := by
  cases line <;> simp [delayStep]

end Sys2Proof.Machine
end

