-- ==== Sys2Proof/Laws/Library.lean ====
section
/-! SUPPORT. The checks of PRESET_END (R81): the first item of a list at which a check fails. -/

namespace Sys2Proof.Machine

/-- R81: the first item that fails. -/
theorem firstBad_eq_some {α : Type} (ok : α → Bool) (xs : List α) (k : Nat) :
    firstBad ok xs = some k ↔
      (∃ x, xs[k]? = some x ∧ ok x = false) ∧ ∀ j, j < k → ¬ ∃ x, xs[j]? = some x ∧ ok x = false := by
  simp only [firstBad, List.findIdx?_eq_some_iff_getElem]
  constructor
  · rintro ⟨h, bad, before⟩
    refine ⟨⟨xs[k], by simp [h], by simpa using bad⟩, ?_⟩
    rintro j hj ⟨x, hx, ho⟩
    have good := before j hj
    rw [(List.getElem?_eq_some_iff.mp hx).2] at good
    simp [ho] at good
  · rintro ⟨⟨x, hx, ho⟩, before⟩
    obtain ⟨h, e⟩ := List.getElem?_eq_some_iff.mp hx
    exact ⟨h, by simp [e, ho], fun j hj bad => before j hj ⟨xs[j], by simp [Nat.lt_trans hj h], by simpa using bad⟩⟩

/-- R81: no item fails. -/
theorem firstBad_eq_none {α : Type} (ok : α → Bool) (xs : List α) :
    firstBad ok xs = none ↔ ∀ k : Nat, ¬ ∃ x, xs[k]? = some x ∧ ok x = false := by
  simp only [firstBad, List.findIdx?_eq_none_iff]
  constructor
  · rintro h k ⟨x, hx, ho⟩
    have good := h x (List.mem_of_getElem? hx)
    simp [ho] at good
  · intro h x hx
    obtain ⟨k, hk, e⟩ := List.getElem_of_mem hx
    by_contra bad
    exact h k ⟨x, by simp [← e, hk], by simpa using bad⟩

end Sys2Proof.Machine
end

