-- ==== Sys2Proof/Laws/Satellite.lean ====
section
/-! SUPPORT. The Satellite unit's queue and catch-up table (R190, R192, R196). -/

namespace Sys2Proof.Machine

/-- R190: placing a frame never makes the queue longer than 16. -/
theorem Satellite.place_length {u : Satellite} (h : u.queue.length ≤ 16) (f : SatFrame) :
    (u.place f).queue.length ≤ 16 := by
  unfold Satellite.place
  split
  · next k =>
    have k' : u.queue.length < 16 := k
    simp only [List.length_append, List.length_singleton]
    omega
  · split
    · exact h
    · simpa using h

/-- R190: placing a frame touches the queue, the activation count and the dropped count alone. -/
theorem Satellite.place_only (u : Satellite) (f : SatFrame) :
    u.place f = { u with
      queue := (u.place f).queue, activationCount := (u.place f).activationCount, dropped := (u.place f).dropped } := by
  unfold Satellite.place
  split
  · rfl
  · split <;> rfl

/-- R192: finishing empties the place in flight and gives back the mark. -/
theorem Satellite.finish_eq {u : Satellite} {x : InFlight} (h : u.inFlight = some x) :
    u.finish = { u with inFlight := none, activationCount := u.activationCount - x.frame.mark.toNat } := by
  simp [Satellite.finish, h]

end Sys2Proof.Machine
end

