-- ==== Sys2Proof/Laws/Sound.lean ====
section
/-! SUPPORT. The sound of a frame: what a run of samples keeps, what a frame does to a slot (R9, R27, R35), slots in series
(R53), delay lines (R61) and blocks (R4, R9). -/
namespace Sys2Proof.Machine

/-- A run of samples gives a sample for each it takes. -/
theorem runSamples_length {σ : Type} (f : Nat → σ → Int → σ × Int) (n : Nat) (a : σ) (xs : List Int) :
    (runSamples f n a xs).2.length = xs.length := by
  induction xs generalizing n a with
  | nil => rfl
  | cons x xs ih => simp [runSamples, ih]

/-- What every sample keeps, the block keeps. -/
theorem runSamples_invariant {σ : Type} {f : Nat → σ → Int → σ × Int} {p : σ → Prop}
    (h : ∀ n a x, p a → p (f n a x).1) (n : Nat) (a : σ) (xs : List Int) (ha : p a) : p (runSamples f n a xs).1 := by
  induction xs generalizing n a with
  | nil => exact ha
  | cons x xs ih => simp only [runSamples]; exact ih _ _ (h _ _ _ ha)

/-- R35: the gate ramp moves with the frame, not with a sample. -/
theorem Slot.wetResult_gate (env : SlotEnv) (slot : Slot) (k : Nat) (m : SlotMemory) (x d : Int) :
    (slot.wetResult env k m x d).memory.gate = m.gate := by
  unfold Slot.wetResult
  cases slot.kind <;> rfl

/-- R35: on one sample of the slot. -/
theorem Slot.sample_gate (env : SlotEnv) (slot : Slot) (k : Nat) (p : SlotProgress) (x : Int) :
    (slot.sample env k p x).1.memory.gate = p.memory.gate := by
  simp [Slot.sample, Slot.wetResult_gate]

/-- R35: the gate decision changes the memory alone, and not the gate code of the frame. -/
theorem Slot.gateDecision_frame (slot : Slot) (block : List Int) :
    (slot.gateDecision block).memory.gate.code = slot.memory.gate.code ∧
    slot.gateDecision block = { slot with memory := (slot.gateDecision block).memory } := by
  have h : ∀ (r : Ramp) (n : Nat), (r.retarget n).code = r.code := by
    intro r n; unfold Ramp.retarget; split <;> rfl
  unfold Slot.gateDecision
  split
  · dsimp only
    split
    · refine ⟨?_, rfl⟩
      dsimp only; split
      · rfl
      · exact h _ _
    · split
      · split
        · exact ⟨h _ _, rfl⟩
        · exact ⟨rfl, rfl⟩
      · exact ⟨rfl, rfl⟩
  · exact ⟨rfl, rfl⟩

/-- R9, R27: what a frame leaves of a slot: the ramps stand, each factor reached is kept, and only the line, the memory and the fresh
clips are the samples'. -/
theorem Slot.runFrame_frame (env : SlotEnv) (slot : Slot) (block : List Int) :
    let new := (slot.runFrame env block).1
    new.memory.gate.code = slot.memory.gate.code ∧ new.memory.gate.prev = gainFactor slot.memory.gate.code ∧
    new = { slot with
      params := slot.params.map (fun p => { p with ramp := p.ramp.passed }), wet := slot.wet.passed, dry := slot.dry.passed,
      freshClips := new.freshClips, line := new.line, memory := new.memory } := by
  intro new
  have g : (runSamples (slot.sample env) 0 { line := slot.line, memory := slot.memory, clips := 0 } block).1.memory.gate
      = slot.memory.gate :=
    runSamples_invariant (p := fun q => q.memory.gate = slot.memory.gate)
      (fun n a x h => (Slot.sample_gate env slot n a x).trans h) 0 _ block rfl
  simp only [new, Slot.runFrame]
  generalize runSamples (slot.sample env) 0 { line := slot.line, memory := slot.memory, clips := 0 } block = r at g ⊢
  have k := Slot.gateDecision_frame
    ({ slot with line := r.1.line, memory := r.1.memory, freshClips := r.1.clips } : Slot) block
  generalize Slot.gateDecision
    ({ slot with line := r.1.line, memory := r.1.memory, freshClips := r.1.clips } : Slot) block = d at k ⊢
  obtain ⟨k1, k2⟩ := k
  simp only [g] at k1
  refine ⟨?_, ?_, ?_⟩
  · simp [Slot.passFrame, Ramp.passed, k1]
  · simp [Slot.passFrame, Ramp.passed, k1]
  · rw [k2]; rfl

/-- R29: a slot gives a sample for each it takes. -/
theorem Slot.runFrame_length (env : SlotEnv) (slot : Slot) (block : List Int) :
    (slot.runFrame env block).2.length = block.length := by
  simp only [Slot.runFrame]; exact runSamples_length _ _ _ _

/-- R53: the output of slots in series. -/
theorem runSeries_out (env : SlotEnv) (slots : List Slot) (block : List Int) :
    (runSeries env slots block).out = slots.foldl (fun b x => (x.beginFrame.runFrame env b).2) block := by
  induction slots generalizing block with
  | nil => rfl
  | cons x xs ih => simp [runSeries, ih]

/-- R53: a run of slots keeps their number. -/
theorem runSeries_slots_length (env : SlotEnv) (slots : List Slot) (block : List Int) :
    (runSeries env slots block).slots.length = slots.length := by
  induction slots generalizing block with
  | nil => rfl
  | cons x xs ih => simp [runSeries, ih]

/-- R53: each slot of a series runs on what the slots before it give. -/
theorem runSeries_slot (env : SlotEnv) (slots : List Slot) (block : List Int) (n : Nat) :
    (runSeries env slots block).slots[n]? = slots[n]?.map (fun x =>
      (x.beginFrame.runFrame env ((slots.take n).foldl (fun b y => (y.beginFrame.runFrame env b).2) block)).1) := by
  induction slots generalizing block n with
  | nil => simp [runSeries]
  | cons x xs ih => cases n <;> simp [runSeries, ih]

/-- R53: slots in series give a sample for each they take. -/
theorem series_length (env : SlotEnv) (slots : List Slot) (block : List Int) :
    (slots.foldl (fun b x => (x.beginFrame.runFrame env b).2) block).length = block.length := by
  induction slots generalizing block with
  | nil => rfl
  | cons x xs ih => simp [ih, Slot.runFrame_length]

/-- R61: a block through a delay line comes after what the line held. -/
theorem delayBlock_eq (line block : List Int) :
    delayBlock line block = ((line ++ block).drop block.length, (line ++ block).take block.length) := by
  have h : ∀ (n : Nat) (l : List Int), runSamples (fun _ l x => delayStep l x) n l block =
      ((l ++ block).drop block.length, (l ++ block).take block.length) := by
    induction block with
    | nil => intro n l; simp [runSamples]
    | cons x xs ih =>
      intro n l
      simp only [runSamples]
      rw [ih]
      cases l <;> simp [delayStep]
  exact h 0 line

/-- R4: the level operation keeps the length of a block. -/
theorem levelBlock_length (f : Nat → Int) (b : List Int) : (levelBlock f b).length = b.length := by simp [levelBlock]

/-- R4, R9: sample k of a block under the factors of its samples. -/
theorem levelBlock_get (f : Nat → Int) (b : List Int) (k : Nat) :
    (levelBlock f b)[k]? = b[k]?.map (fun x => level x (f k)) := by
  simp [levelBlock, List.getElem?_map, List.getElem?_zipIdx]
  cases b[k]? <;> simp

/-- R6: blocks of one length are summed sample by sample. -/
theorem addBlocks_zip {xs ys : List Int} (h : xs.length = ys.length) :
    addBlocks xs ys = List.zipWith (· + ·) xs ys := by
  induction xs generalizing ys with
  | nil => cases ys <;> simp_all [addBlocks]
  | cons x xs ih => cases ys with
    | nil => simp at h
    | cons y ys => simp [addBlocks, ih (by simpa using h)]

end Sys2Proof.Machine
end

