-- ==== Sys2Proof/Tests/Slice0.lean ====
section
/-! SUPPORT. Tests, each a named theorem. First the checks of WellFormed, each with an ill-formed command that it refuses; then
what commands answer and do on small states, the expected values taken from the rules named; last, for every statement with
hypotheses, a state and operands that meet them (`witness_…`), with the boundary values of clauses over one operand. -/

namespace Sys2Proof.Tests

open Machine

/-! ## Small states -/

/-- The part once READY has gone out, in frame 0. -/
def boot : State :=
  { State.reset with
    frameOpen := true,
    control := { State.reset.control with gate := .taking }, notices := { State.reset.notices with queue := [] } }

/-- The state after a command. -/
def run (s : State) (i : Instr) : State :=
  match exec i s with
  | .next t => t
  | _ => s

/-- The code of the last reply after a command. -/
def code (s : State) (i : Instr) : Option ReplyCode := (run s i).control.replies.getLast?.map Reply.code

/-- The fields of the last reply after a command. -/
def fields (s : State) (i : Instr) : Option (List Wire) := (run s i).control.replies.getLast?.map Reply.fields

/-- Header fields of a preset of n PRE slots. -/
def headerFields (n : Nat) : HeaderFields :=
  { name := [0x41], inputMode := 2, inputLevel := 192, nPre := n, nX := 0, nY := 0, nPost := 0, gX := 192, gY := 0,
    outputMatrix :=
      { fohL := { main := 192, dry := 0, aux := 0 }, fohR := { main := 192, dry := 0, aux := 0 },
        stage := { main := 192, dry := 0, aux := 0 }, mon := { main := 0, dry := 0, aux := 0 } },
    frames := 4, policy := 0, spillLimit := 3000, quantize := 0, tempo := none, defaultScene := 0 }

/-- A header of n PRE slots. -/
def header (n : Nat) (q : Quantize) : Header :=
  { name := [0x41], inputMode := .follow, inputLevel := 192, nPre := n, nX := 0, nY := 0, nPost := 0, gX := 192, gY := 0,
    outputMatrix := (headerFields n).outputMatrix,
    frames := 4, policy := .spill, spillLimit := 3000, quantize := q, tempo := none, defaultScene := 0 }

/-- A preset of one VOLUME slot and one scene. -/
def preset (q : Quantize) : Preset :=
  { header := header 1 q, slots := [{ kind := .volume, enabled := true, values := [192] }],
    scenes := [{ name := [0x42], enables := [true], overrides := [] }], overlay := [], messages := [] }

/-- A preset of one DRIVE slot with the built-in curve 0. -/
def drivePreset (values : List Int) : Preset :=
  { preset .off with slots := [{ kind := .drive, enabled := true, values := values }] }

/-- The context of a preset. -/
def context (p : Preset) : Context := p.load boot.loops .a 5

/-- A buffer with a context in a running role. -/
def held (r : Role) (p : Preset) : Buffer :=
  { Buffer.free with role := r, context := some (context p) }

/-- The part with a preset ACTIVE in buffer 0. -/
def playing (p : Preset) : State := { boot with buffers := { boot.buffers with b0 := held .active p } }

/-- The part with a preset stored at location 9. -/
def stored (p : Preset) : State := { boot with library := boot.library.set 9 { preset := some p, stores := 1 } }

/-- A switch to location 5, under way in buffer 1. -/
def current (scene : Option Nat) : CurrentSwitch :=
  { request := { preset := some 5, scene := scene, force := false, source := .control, tag := some 3, arrival := 0,
                 merged := none },
    buffer := .b1, sceneApplied := none, status := .inProgress }

def record : HistoryRecord :=
  { preset := some 5, scene := none, source := .control, status := .inProgress, arrival := 0, start := 0,
    activation := none }

/-- The part with a switch under way: its engine state, its buffer's role and the frames of load left. -/
def switching (e : EngineState) (r : Role) (left : Nat) (p : Preset) : State :=
  { boot with
    buffers := { boot.buffers with b1 := { held r p with loadLeft := left } },
    engine := { boot.engine with state := e, current := some (current none), history := [record], fadeLength := 4 } }

/-- An open staging record. -/
def staged (p : Preset) : State := { boot with staging := some { location := 9, record := p } }

/-- A PRESENT pedal link A, with one switch record replaced. -/
def pedal (r : SwitchRecord) : PedalLink :=
  { boot.pedals.a with identity := some { switches := 2, pedals := 1, lines := 1 }, switches := boot.pedals.a.switches.set 0 r }

def present (r : SwitchRecord) : State := { boot with pedals := { boot.pedals with a := pedal r } }

def upRecord : SwitchRecord := SwitchRecord.reset

/-- A map entry of switch 0 of link A. -/
def entry (g : Gesture) : MapEntry :=
  { key := { link := .a, source := .switch 0, gesture := g }, targets := [.hostNotice 1] }

/-- A DOWN record whose snapshot holds entries. -/
def downRecord (state : GestureState) (es : List MapEntry) (hold window : Option Nat) : SwitchRecord :=
  { state := state, isDown := true, snapshot := some es, hold := hold, window := window, order := 0 }

/-- A key as a request carries it. -/
def rawKey (sourceKind number gesture partner : Nat) : RawKey :=
  { link := 0, sourceKind := sourceKind, number := number, gesture := gesture, partner := partner }

/-- A satellite frame. -/
def satFrame (acknowledge : Bool) (origin : SatOrigin) (mark : Bool) : SatFrame :=
  { physical := 16, logical := none, payload := [1], acknowledge := acknowledge, origin := origin, tag := none, mark := mark }

/-- The part with a satellite frame in flight. -/
def flying (acknowledge : Bool) (wait : Option Nat) : State :=
  { boot with sat := { boot.sat with
      inFlight := some { frame := satFrame acknowledge .map false, wait := wait, bytes := [] } } }

def estimateState (state : TunerState) (due : Bool) : State :=
  { boot with tuner := { boot.tuner with
      state := state, engage := { host := true, pedalA := false, pedalB := false }, estimateDue := due } }

/-! ## WellFormed: each check refuses an ill-formed command -/

theorem test_wf_partner_without_combo : wellFormed (.mapWrite 7 (rawKey 0 1 0 2) [.tap]) = false := by decide
theorem test_wf_partner_with_combo : wellFormed (.mapWrite 7 (rawKey 0 1 4 2) [.tap]) = true := by decide
theorem test_wf_selector_key : wellFormed (.mapErase 7 (.key (rawKey 0 1 1 3))) = false := by decide
theorem test_wf_profile_offsets : wellFormed (.tunerProfile 7 0 none (List.replicate 11 none)) = false := by decide
theorem test_wf_profile_twelve : wellFormed (.tunerProfile 7 0 none (List.replicate 12 none)) = true := by decide
theorem test_wf_bypass_off_timeout : wellFormed (.satBypass 7 0 (some 250)) = false := by decide
theorem test_wf_bypass_on_timeout : wellFormed (.satBypass 7 1 (some 250)) = true := by decide
theorem test_wf_unsigned_width : wellFormed (.tempoSet 7 65536) = false := by decide
theorem test_wf_signed_width : wellFormed (.paramSet 7 0 0 32768) = false := by decide
theorem test_wf_signed_lowest : wellFormed (.paramSet 7 0 0 (-32768)) = true := by decide
theorem test_wf_payload_length : wellFormed (.presetSatmsg 7 0 (List.replicate 249 0)) = false := by decide +kernel
theorem test_wf_payload_longest : wellFormed (.presetSatmsg 7 0 (List.replicate 248 0)) = true := by decide +kernel
theorem test_wf_frame_bytes : wellFormed (.controlFrameReceived [2, 7]) = false := by decide
theorem test_wf_estimate_confidence : wellFormed (.tunerEstimate 82407 101) = false := by decide
theorem test_wf_switch_number : wellFormed (.comboWindowExpiry .a 32) = false := by decide
theorem test_wf_ack_address : wellFormed (.satAck 255) = false := by decide
theorem test_wf_data_payload : wellFormed (.satData 16 []) = false := by decide

/-! ## Level arithmetic -/

/-- R3: M(7) at code 199 is 1,571,089. -/
theorem test_gain_of_code_199 : gainFactor 199 = 1571089 := by decide
/-- R3: one octave down halves the factor. -/
theorem test_gain_of_code_180 : gainFactor 180 = 524288 := by decide
/-- R4: halfway values go up, for either sign. -/
theorem test_level_rounds_half_up : level 1 524288 = 1 ∧ level (-1) 524288 = 0 := by decide
/-- R6: the clamp. -/
theorem test_clamp_sample : clampSample 8388608 = 8388607 ∧ clampSample (-8388609) = -8388608 := by decide
/-- R159: 40 ms are 60 frames, 250 ms are 375. -/
theorem test_ms_to_frames : msToFrames 40 = 60 ∧ msToFrames 600 = 900 ∧ msToFrames 250 = 375 := by decide

/-! ## The requests: replies and effects at the boundaries of their operands -/

theorem test_mute_checks :
    [code boot (.mute 7 1 15), code boot (.mute 7 3 1), code boot (.mute 7 2 1), code boot (.mute 7 1 0),
      code boot (.mute 7 1 16)] = [some .ok, some .ok, some .outOfRange, some .outOfRange, some .outOfRange] := by decide
theorem test_mute_adds_host : ((run boot (.mute 7 3 8)).mains.mon.sources.host, (run boot (.mute 7 3 8)).mains.stage.sources.host)
    = (true, false) := by decide
theorem test_unmute_leaves_start : (run boot (.unmute 7 1 15)).mains.fohL.sources.start = true := by decide
theorem test_meters_checks : [code boot (.meters 7 0), code boot (.meters 7 1), code boot (.meters 7 2)]
    = [some .ok, some .ok, some .outOfRange] := by decide

def points : List (Int × Int) := [(-8388608, 0), (8388607, 100)]

theorem test_curve_write_checks :
    [code boot (.curveWrite 7 32 [] points), code boot (.curveWrite 7 4 (List.replicate 9 65) points),
      code boot (.curveWrite 7 4 [31] points), code boot (.curveWrite 7 3 [] points),
      code boot (.curveWrite 7 4 [] [(-8388608, 0)]), code boot (.curveWrite 7 4 [126] points),
      code boot (.curveWrite 7 31 [] points)]
    = [some .outOfRange, some .outOfRange, some .outOfRange, some .readOnly, some .badCurve, some .ok, some .ok] := by
  decide
theorem test_curve_erase_checks :
    [code boot (.curveErase 7 32), code boot (.curveErase 7 3), code boot (.curveErase 7 4), code boot (.curveRead 7 4),
      code boot (.curveRead 7 3), code (run boot (.curveWrite 7 4 [65] points)) (.curveErase 7 4)]
    = [some .outOfRange, some .readOnly, some .empty, some .empty, some .ok, some .ok] := by decide
theorem test_param_set_checks :
    [code boot (.paramSet 7 0 0 100), code (playing (preset .off)) (.paramSet 7 1 0 100),
      code (playing (preset .off)) (.paramSet 7 0 1 100), code (playing (preset .off)) (.paramSet 7 0 0 100),
      code (playing (preset .off)) (.paramSet 7 0 0 32767)]
    = [some .badState, some .outOfRange, some .outOfRange, some .ok, some .clamped] := by decide
theorem test_slot_set_checks :
    [code boot (.slotSet 7 0 0), code (playing (preset .off)) (.slotSet 7 1 0), code (playing (preset .off)) (.slotSet 7 0 2),
      code (playing (preset .off)) (.slotSet 7 0 1), code (playing (preset .off)) (.slotSet 7 0 0)]
    = [some .badState, some .outOfRange, some .outOfRange, some .ok, some .ok] := by decide
theorem test_input_select_checks :
    [code boot (.inputSelect 7 2), code boot (.inputSelect 7 0), code boot (.inputSelect 7 1)]
    = [some .outOfRange, some .ok, some .ok] ∧ (run boot (.inputSelect 7 1)).selected = .b := by decide
theorem test_loop_measure_checks :
    [code boot (.loopMeasure 7 0), code boot (.loopMeasure 7 3), code boot (.loopMeasure 7 2),
      code (run boot (.loopMeasure 7 1)) (.loopMeasure 8 2)]
    = [some .outOfRange, some .outOfRange, some .accepted, some .busy] := by decide
theorem test_loop_set_checks :
    [code boot (.loopSet 7 3 none), code boot (.loopSet 7 1 (some 4095)), code boot (.loopSet 7 2 (some 4096)),
      code (run boot (.loopMeasure 7 1)) (.loopSet 8 1 none), code boot (.loopRead 7 2), code boot (.loopRead 7 3)]
    = [some .outOfRange, some .ok, some .clamped, some .busy, some .ok, some .outOfRange] := by decide
theorem test_preset_begin_checks :
    [code boot (.presetBegin 7 256 (headerFields 1)), code boot (.presetBegin 7 255 (headerFields 1)),
      code boot (.presetBegin 7 0 (headerFields 0)), code boot (.presetBegin 7 0 (headerFields 16)),
      code boot (.presetBegin 7 0 { headerFields 1 with frames := 65 }),
      code (staged (preset .off)) (.presetBegin 7 0 (headerFields 1))]
    = [some .outOfRange, some .ok, some .outOfRange, some .ok, some .clamped, some .replaced] := by decide
theorem test_preset_slot_checks :
    [code boot (.presetSlot 7 { kind := 8, enabled := 1, values := [192] } none),
      code (staged (preset .off)) (.presetSlot 7 { kind := 8, enabled := 1, values := [192] } (some 2)),
      code (staged (preset .off)) (.presetSlot 7 { kind := 10, enabled := 1, values := [192] } none),
      code (staged (preset .off)) (.presetSlot 7 { kind := 8, enabled := 1, values := [192] } (some 0)),
      code (staged (preset .off)) (.presetSlot 7 { kind := 8, enabled := 1, values := [192] } (some 1))]
    = [some .notOpen, some .outOfRange, some .outOfRange, some .replaced, some .ok] := by decide
theorem test_preset_scene_checks :
    [code boot (.presetScene 7 { name := [], enables := [1], overrides := [] } none),
      code (staged (preset .off)) (.presetScene 7 { name := [], enables := [1], overrides := [] } none),
      code (staged (preset .off)) (.presetScene 7 { name := [], enables := [1], overrides := [] } (some 2)),
      code (staged (preset .off)) (.presetScene 7 { name := [], enables := [], overrides := [] } none),
      code (staged (preset .off)) (.presetScene 7 { name := [], enables := [2], overrides := [] } none)]
    = [some .notOpen, some .ok, some .outOfRange, some .outOfRange, some .outOfRange] := by decide
theorem test_preset_list_checks :
    [code boot (.presetMap 7 (rawKey 0 0 0 0) [.tap]), code (staged (preset .off)) (.presetMap 7 (rawKey 0 32 0 0) [.tap]),
      code (staged (preset .off)) (.presetMap 7 (rawKey 0 31 0 0) [.tap]), code boot (.presetSatmsg 7 0 [1]),
      code (staged (preset .off)) (.presetSatmsg 7 16 [1]), code (staged (preset .off)) (.presetSatmsg 7 15 [1])]
    = [some .notOpen, some .outOfRange, some .ok, some .notOpen, some .outOfRange, some .ok] := by decide
theorem test_preset_end_checks :
    [code boot (.presetEnd 7), code (staged (preset .off)) (.presetEnd 7),
      code (staged { preset .off with scenes := [] }) (.presetEnd 7)]
    = [some .notOpen, some .ok, some .badState] := by decide
theorem test_preset_read_checks :
    [code boot (.presetRead 7 256 0), code boot (.presetRead 7 9 0), code (stored (preset .off)) (.presetRead 7 9 2),
      code (stored (preset .off)) (.presetRead 7 9 3)]
    = [some .outOfRange, some .empty, some .ok, some .endOfRecord] := by decide
theorem test_preset_erase_copy_checks :
    [code boot (.presetErase 7 256), code boot (.presetErase 7 9), code (stored (preset .off)) (.presetErase 7 9),
      code boot (.presetCopy 7 9 10), code (stored (preset .off)) (.presetCopy 7 9 9),
      code (stored (preset .off)) (.presetCopy 7 9 256), code (stored (preset .off)) (.presetCopy 7 9 255)]
    = [some .outOfRange, some .empty, some .ok, some .empty, some .ok, some .outOfRange, some .ok] := by decide
theorem test_switch_starts_a_load :
    (code (stored (preset .off)) (.switch 7 (some 9) none 0), (run (stored (preset .off)) (.switch 7 (some 9) none 0)).engine.state,
      (run (stored (preset .off)) (.switch 7 (some 9) none 0)).buffers.b0.loadLeft) = (some .accepted, .loading, 2) := by decide
theorem test_switch_checks :
    [code boot (.switch 7 none none 0), code boot (.switch 7 (some 256) none 0), code boot (.switch 7 (some 255) (some 8) 0),
      code boot (.switch 7 none (some 7) 2), code boot (.scene 7 8), code boot (.scene 7 7)]
    = [some .outOfRange, some .outOfRange, some .outOfRange, some .outOfRange, some .outOfRange, some .accepted] := by decide
theorem test_scene_without_context_fails :
    (run boot (.scene 7 0)).notices.queue.map (fun n => n.body.kind) = [.switchFailed] := by decide
theorem test_hold_checks :
    [code boot (.hold 7 0), code boot (.hold 7 1), code boot (.hold 7 2)] = [some .ok, some .ok, some .outOfRange] := by
  decide
theorem test_switch_setup_checks :
    [code boot (.switchSetup 7 1 500 8 5000 1 1), code boot (.switchSetup 7 0 501 2 100 0 0),
      code boot (.switchSetup 7 0 40 1 1000 0 0), code boot (.switchSetup 7 2 40 4 1000 1 1)]
    = [some .ok, some .clamped, some .clamped, some .outOfRange] := by decide
theorem test_panic_mutes : (run boot (.panic 7)).mains.stage.sources.panic = true := by decide
theorem test_history_checks :
    [code boot (.history 7 16), code boot (.history 7 0), code (switching .loading .loading 1 (preset .off)) (.history 7 0),
      code (switching .loading .loading 1 (preset .off)) (.history 7 1)]
    = [some .outOfRange, some .endOfRecord, some .ok, some .endOfRecord] := by decide
/-- R123, R129: 1200 tenths of BPM are 24,000 samples; 399 is clamped to 400, 72,000 samples. -/
theorem test_tempo_set : (fields boot (.tempoSet 7 1200)).map (fun f => f.take 2) = some [.u 2 1200, .u 4 24000] ∧
    (code boot (.tempoSet 7 399), (run boot (.tempoSet 7 399)).tempo.period) = (some .clamped, 72000) := by decide
/-- R126: the floor of the next beat is the first sample of the next frame to begin: frame 5,001 both within frame 5,000 and once the end
of that frame has begun. -/
theorem test_tempo_set_floor :
    let s : State := { boot with frameCounter := 5000 }
    ((run s (.tempoSet 7 3000)).tempo.nextBeat, (run { s with frameEnded := true } (.tempoSet 7 3000)).tempo.nextBeat,
      (run { s with frameEnded := true } (.tempoSet 7 3000)).frameCounter) = (160032, 160032, 5001) := by decide +kernel
theorem test_tempo_lock_checks : [code boot (.tempoLock 7 1), code boot (.tempoLock 7 2)] = [some .ok, some .outOfRange] := by
  decide
/-- R130, R131: two taps 24,000 samples apart give 120.0 BPM and the beat counter 3. -/
theorem test_tap_sets_the_tempo :
    let s := run { run boot (.tap 7) with frameCounter := 750 } (.tap 7)
    (s.tempo.tempo, s.tempo.beatCounter, s.tempo.nextBeat) = (1200, 3, 24032) := by decide
/-- R131: after the beat event of the frame that is ending a TAP map target is timed one frame later; a TAP request lets the frame
end first, and so is timed by the next. -/
theorem test_tap_after_the_frame_end :
    let s : State := { boot with frameCounter := 750, tempo := { boot.tempo with taps := [48] } }
    let t := run s .beatEvent
    (s.tapTime, t.tapTime, t.tempo.beatCounter, (run t (.tap 7)).frameCounter, (run t (.tap 7)).tempo.taps) =
      (24032, 24064, 1, 751, [48, 24064]) := by decide +kernel
/-- R131: a request that follows another event of the frame's end finds the frame's beat taken on the old schedule. -/
theorem test_tap_does_not_lose_a_beat :
    let s : State := { boot with frameCounter := 750, tempo := { boot.tempo with taps := [48] },
                                 buffers := { boot.buffers with b2 := { held .cutting (preset .off) with cutFrames := 4 } } }
    let t := run (run s .cutComplete) (.tap 7)
    (t.tempo.lastBeat, t.tempo.nextBeat, t.tempo.beatCounter) = (24000, 24064, 3) := by decide +kernel
/-- R130: 9,600 samples are not too close, 9,599 would be; 96,000 are not too far. -/
theorem test_tap_boundaries :
    [fields { run boot (.tap 7) with frameCounter := 299 } (.tap 7), fields { run boot (.tap 7) with frameCounter := 300 } (.tap 7),
      fields { run boot (.tap 7) with frameCounter := 3000 } (.tap 7), fields { run boot (.tap 7) with frameCounter := 3001 } (.tap 7)].map
        (fun f => f.map (fun w => w.take 2))
    = [some [.u 1 1, .u 1 1], some [.u 1 2, .u 1 2], some [.u 1 2, .u 1 2], some [.u 1 0, .u 1 1]] := by decide
theorem test_tuner_on_mutes :
    (code boot (.tuner 7 0), (run boot (.tuner 7 0)).tuner.state, (run boot (.tuner 7 0)).mains.mon.sources.tuner,
      code boot (.tuner 7 3), code boot (.tuner 7 2)) = (some .ok, .listening, true, some .outOfRange, some .ok) := by decide
theorem test_tuner_profile_checks :
    [code boot (.tunerProfile 7 2 none (List.replicate 12 none)), code boot (.tunerProfile 7 1 none (List.replicate 12 none)),
      code boot (.tunerProfile 7 1 (some 12) (List.replicate 12 (some (-20)))),
      code boot (.tunerProfile 7 0 (some 13) (List.replicate 12 (some 0))),
      code boot (.tunerProfile 7 0 (some 0) (List.replicate 12 none))]
    = [some .outOfRange, some .ok, some .ok, some .clamped, some .outOfRange] := by decide
theorem test_tuner_setup_checks :
    [code boot (.tunerSetup 7 4500 { fohL := 1, fohR := 0, stage := 0, mon := 0 }),
      code boot (.tunerSetup 7 4299 { fohL := 1, fohR := 0, stage := 0, mon := 0 }),
      code boot (.tunerSetup 7 4400 { fohL := 2, fohR := 0, stage := 0, mon := 0 })]
    = [some .ok, some .clamped, some .outOfRange] := by decide
theorem test_gesture_timing_checks :
    [code boot (.gestureTiming 7 2 none none none), code boot (.gestureTiming 7 1 none none none),
      code boot (.gestureTiming 7 0 (some 10) (some 2000) (some 100)), code boot (.gestureTiming 7 0 (some 9) (some 300) (some 500)),
      code boot (.gestureTiming 7 0 (some 40) none none)]
    = [some .outOfRange, some .ok, some .ok, some .clamped, some .outOfRange] := by decide
theorem test_pedal_status_checks :
    [code boot (.pedalStatus 7 1 31 1), code boot (.pedalStatus 7 2 0 0), code boot (.pedalStatus 7 0 32 0),
      code boot (.pedalStatus 7 0 0 2)] = [some .ok, some .outOfRange, some .outOfRange, some .outOfRange] := by decide
theorem test_map_write_checks :
    [code boot (.mapWrite 7 (rawKey 0 0 0 0) [.tap]), code boot (.mapWrite 7 (rawKey 0 32 0 0) [.tap]),
      code { boot with map := { boot.map with entries := [entry .press] } } (.mapWrite 7 (rawKey 0 0 0 0) [.tap]),
      code { boot with map := { boot.map with masks := { a := 0, b := 0 } } } (.mapWrite 7 (rawKey 0 0 0 0) [.tap])]
    = [some .ok, some .outOfRange, some .replaced, some .denied] := by decide
theorem test_map_erase_read_checks :
    let s := { boot with map := { boot.map with entries := [entry .press] } }
    [code s (.mapErase 7 (.index 96)), code s (.mapErase 7 (.index 95)), code s (.mapErase 7 (.index 0)),
      code s (.mapErase 7 (.key (rawKey 0 0 1 0))), code s (.mapRead 7 2 (.index 0)), code s (.mapRead 7 1 (.index 0)),
      code s (.mapRead 7 0 (.index 1)), code s (.mapRead 7 0 (.key (rawKey 0 0 0 0))), code s (.mapRead 7 0 (.key (rawKey 0 0 1 0)))]
    = [some .outOfRange, some .notFound, some .ok, some .notFound, some .outOfRange, some .badState, some .endOfRecord,
        some .ok, some .notFound] := by decide
/-- R172: every reply to MAP_READ carries the change count. -/
theorem test_map_read_count :
    let s := { boot with map := { boot.map with entries := [entry .press], changes := 258 } }
    [fields s (.mapRead 7 2 (.index 0)), fields s (.mapRead 7 0 (.index 1)), fields s (.mapRead 7 0 (.key (rawKey 0 0 1 0)))]
    = [some [.u 2 258], some [.u 1 1, .u 2 258], some [.u 2 258]] := by decide
/-- R20: STATUS carries the stored mute codes. -/
theorem test_status_mute_codes :
    let s := { boot with mains := { boot.mains with mon := { boot.mains.mon with stored := 24 } } }
    (fields s (.status 7 2)).map (fun f => f.drop (f.length - 4)) = some [.u 1 0, .u 1 0, .u 1 0, .u 1 24] := by decide
theorem test_permit_checks :
    [code boot (.permit 7 2 none), code boot (.permit 7 1 none), code boot (.permit 7 0 (some 255)),
      code boot (.permit 7 0 (some 256))] = [some .outOfRange, some .ok, some .ok, some .outOfRange] := by decide
theorem test_sat_addr_checks :
    [code boot (.satAddr 7 (some { logical := 15, physical := none, acknowledge := 0 }) none),
      code boot (.satAddr 7 (some { logical := 14, physical := some 254, acknowledge := 1 }) none),
      code boot (.satAddr 7 (some { logical := 14, physical := some 255, acknowledge := 1 }) none),
      code boot (.satAddr 7 none (some 500)), code boot (.satAddr 7 none (some 501)), code boot (.satAddr 7 none none)]
    = [some .outOfRange, some .ok, some .outOfRange, some .ok, some .clamped, some .ok] := by decide
theorem test_sat_send_checks :
    [code boot (.satSend 7 1 0 [1]), code boot (.satSend 7 255 0 [1]), code boot (.satSend 7 254 2 [1]),
      code boot (.satSend 7 16 1 []), code boot (.satSend 7 16 1 (List.replicate 16 0)),
      code { boot with sat := { boot.sat with queue := List.replicate 16 (satFrame false .raw false) } } (.satSend 7 16 1 [1])]
    = [some .ok, some .outOfRange, some .outOfRange, some .outOfRange, some .ok, some .queueFull] := by decide
theorem test_sat_bypass_checks :
    [code boot (.satBypass 7 0 none), code boot (.satBypass 7 1 none), code boot (.satBypass 7 1 (some 4000)),
      code boot (.satBypass 7 1 (some 500)), code boot (.satBypass 7 2 none), code boot (.satStatus 7 1), code boot (.satStatus 7 2)]
    = [some .ok, some .ok, some .ok, some .outOfRange, some .outOfRange, some .ok, some .outOfRange] := by decide
theorem test_ident_and_status :
    [code boot (.ident 7), code boot (.status 7 0), code boot (.status 7 4), code boot (.status 7 5)]
    = [some .ok, some .ok, some .ok, some .outOfRange] := by decide
theorem test_reset_stops_taking : (code boot (.reset 7), (run boot (.reset 7)).control.gate) = (some .ok, .resetDiscard) := by
  decide
theorem test_notice_route_checks :
    [code boot (.noticeRoute 7 17 none), code boot (.noticeRoute 7 0 none), code boot (.noticeRoute 7 0 (some 1)),
      code boot (.noticeRoute 7 8 (some 7)), code boot (.noticeRoute 7 8 (some 8)), code boot (.noticeRoute 7 16 (some 2)),
      code boot (.noticeRoute 7 16 (some 1))]
    = [some .outOfRange, some .ok, some .readOnly, some .ok, some .outOfRange, some .outOfRange, some .ok] := by decide

/-! ## Frames on the lines -/

/-- R199, R210, R211: TEMPO_SET 1200 under tag 5, byte by byte: length 4, tag, kind 1C, 04 B0, and the checksum. -/
theorem test_tempo_set_frame : parseFrame [0x04, 0x05, 0x1C, 0x04, 0xB0, 0x27]
    = some { tag := 5, body := .request (.tempoSet 1200) } := by decide
/-- R199: the same frame with a wrong checksum. -/
theorem test_frame_checksum : parseFrame [0x04, 0x05, 0x1C, 0x04, 0xB0, 0x28] = none := by decide
/-- R200: an unknown kind, and a payload too short. -/
theorem test_frame_kinds :
    [parseFrame [0x02, 0x05, 0x30, 0xC9], parseFrame [0x03, 0x05, 0x1C, 0x04, 0xD8]]
    = [some { tag := 5, body := .unknownKind 0x30 }, some { tag := 5, body := .badLength 0x1C }] := by decide
/-- R205, R210: NOTICE_ROUTE of BEAT (8) to all three, under tag 9. -/
theorem test_notice_route_frame : parseFrame [0x05, 0x09, 0x2F, 0x08, 0x01, 0x07, 0xB3]
    = some { tag := 9, body := .request (.noticeRoute 8 (some 7)) } := by decide
/-- R212: the inbound pedal frames byte by byte: IDENT of 6 switches, 1 pedal and 2 lines, SWITCH 3 down and up, EXPR of pedal 1 at
0x03FF; then a kind that there is not, and a wrong checksum. -/
theorem test_pedal_frames :
    [pedalCommand .a [0x04, 0x01, 0x06, 0x01, 0x02, 0xF2], pedalCommand .b [0x03, 0x02, 0x03, 0x01, 0xF7],
      pedalCommand .b [0x03, 0x02, 0x03, 0x00, 0xF8], pedalCommand .a [0x04, 0x03, 0x01, 0x03, 0xFF, 0xF6],
      pedalCommand .a [0x02, 0x04, 0x00, 0xFA], pedalCommand .a [0x03, 0x02, 0x03, 0x00, 0xF9]]
    = [.pedalIdent .a 6 1 2, .switchDown .b 3, .switchRelease .b 3, .pedalExpr .a 1 1023, .pedalBadFrame .a .unknownForm,
        .pedalBadFrame .a .framing] := by decide
/-- R212: the inbound satellite frames byte by byte: ACK and DATA from 0x10; then an ACK from 0, and a wrong checksum. -/
theorem test_satellite_frames :
    [satelliteCommand [0x02, 0x10, 0x02, 0xEC], satelliteCommand [0x04, 0x10, 0x01, 0xAA, 0x55, 0xEC],
      satelliteCommand [0x02, 0x00, 0x02, 0xFC], satelliteCommand [0x02, 0x10, 0x02, 0xED]]
    = [.satAck 0x10, .satData 0x10 [0xAA, 0x55], .satBadFrame, .satBadFrame] := by decide
theorem test_frame_received_is_the_request :
    run boot (.controlFrameReceived [0x04, 0x05, 0x1C, 0x04, 0xB0, 0x27]) = run boot (.tempoSet 5 1200) := by decide +kernel
theorem test_bad_frame_counts :
    ((run boot .controlBadFrame).control.framingErrors, (run boot .controlByteGapTimeout).control.framingErrors,
      (run State.reset .controlBadFrame).control.framingErrors) = (1, 1, 0) := by decide
theorem test_ready_leaves_first :
    ((run State.reset .controlTxStart).control.tx.isSome, (run (run State.reset .controlTxStart) .controlTxEnd).control.gate)
    = (true, .taking) := by decide
theorem test_soft_reset_after_its_reply :
    (run (run (run boot (.reset 7)) .controlTxStart) .controlTxEnd).notices.queue.map (fun n => n.body)
    = [.ready .softReset 1] := by decide
theorem test_soft_reset_event :
    run (run (run boot (.reset 7)) .controlTxStart) .softReset = run (run (run boot (.reset 7)) .controlTxStart) .controlTxEnd := by
  decide +kernel
theorem test_power_on_sequence :
    ((run boot .powerOnReset).power, run (run (run boot .powerOnReset) .resetPinRelease) .initComplete)
    = (.pinLow, State.reset) := by decide +kernel

/-! ## Pedals and satellites -/

theorem test_ident_bounds :
    [(run boot (.pedalIdent .a 0 0 0)).pedals.a.identity.isSome, (run boot (.pedalIdent .a 1 4 2)).pedals.a.identity.isSome,
      (run boot (.pedalIdent .a 32 0 0)).pedals.a.identity.isSome, (run boot (.pedalIdent .a 33 0 0)).pedals.a.identity.isSome,
      (run boot (.pedalIdent .a 1 5 0)).pedals.a.identity.isSome, (run boot (.pedalIdent .a 1 0 3)).pedals.a.identity.isSome]
    = [false, true, true, false, false, false] := by decide
theorem test_switch_on_absent_link : (run boot (.switchDown .a 0)).pedals.a.rejected = 1 := by decide
theorem test_press_fires :
    (run { present upRecord with map := { boot.map with entries := [entry .press] } } (.switchDown .a 0)).notices.queue.map
      (fun n => n.body.kind) = [.gesture] := by decide
theorem test_hold_waits :
    let s := run { present upRecord with map := { boot.map with entries := [entry .hold] } } (.switchDown .a 0)
    (s.switchAt .a 0).hold = some 900 ∧ s.notices.queue = [] := by decide
theorem test_release_of_hold_presses :
    (run (present (downRecord .down [entry .hold, entry .press] (some 5) none)) (.switchRelease .a 0)).notices.queue.map
      (fun n => n.body.kind) = [.gesture] := by decide
theorem test_hold_expires :
    ((run (present (downRecord .down [entry .hold] (some 0) none)) (.holdTimerExpiry .a 0)).switchAt .a 0).state = .held := by
  decide
theorem test_combo_window_expires :
    ((run (present (downRecord .comboWait [entry .press] none (some 0))) (.comboWindowExpiry .a 0)).switchAt .a 0).state = .down := by
  decide
theorem test_double_window_expires :
    (run (present (downRecord .doubleWait [entry .press] none (some 0))) (.doubleWindowExpiry .a 0)).notices.queue.map
      (fun n => n.body.kind) = [.gesture] := by decide
theorem test_expr_clamps : (run (present upRecord) (.pedalExpr .a 0 2000)).pedals.a.positions = [some 1023, none, none, none] := by
  decide
theorem test_pedal_counts :
    ((run boot (.pedalBadFrame .a .framing)).pedals.a.framingErrors, (run boot (.pedalBadFrame .b .unknownForm)).pedals.b.rejected,
      (run boot (.pedalByteGapTimeout .b)).pedals.b.framingErrors) = (1, 1, 1) := by decide
theorem test_silence :
    (run { boot with pedals := { boot.pedals with a := { pedal upRecord with silence := 2250 } } }
      (.pedalSilenceTimeout .a)).pedals.a.identity = none := by decide
theorem test_display_line :
    let s := { boot with pedals := { boot.pedals with a := { pedal upRecord with display := [.beat 1] } } }
    ((run s (.displayTxStart .a)).pedals.a.displayTx.map (fun t => t.bytes),
      (run (run s (.displayTxStart .a)) (.displayTxEnd .a)).pedals.a.displayTx) = (some [0x5A, 0x02, 0x14, 0x01, 0xE9], none) := by
  decide
theorem test_sat_start :
    (run { boot with sat := { boot.sat with queue := [satFrame true .map false] } } .satTxStart).sat.inFlight.map
      (fun x => x.bytes) = some [0xC3, 0x03, 0x10, 0x01, 0x01, 0xEB] := by decide
theorem test_sat_end :
    ((run (flying true none) .satTxEnd).sat.inFlight.bind (fun x => x.wait), (run (flying false none) .satTxEnd).sat.inFlight)
    = (some 75, none) := by decide
theorem test_sat_ack :
    ((run (flying true (some 9)) (.satAck 16)).sat.inFlight, (run (flying true (some 9)) (.satAck 17)).sat.strayAcks,
      (run boot (.satAck 0)).sat.framingErrors) = (none, 1, 1) := by decide
theorem test_sat_data :
    ((run boot (.satData 16 [1])).notices.queue.map (fun n => n.body), (run boot .satBadFrame).sat.framingErrors,
      (run boot .satByteGapTimeout).sat.framingErrors) = ([.satReceived 16 none [1]], 1, 1) := by decide
theorem test_sat_timeouts :
    ((run (flying true (some 0)) .satAckTimeout).notices.queue.map (fun n => n.body.kind),
      (run { boot with sat := { boot.sat with bypass := some { timeout := some 250, remaining := some 0 } } }
        .satBypassTimeout).sat.bypass) = ([.satTimeout], none) := by decide

/-! ## The clock -/

theorem test_load_completes :
    [(run (switching .loading .loading 0 (preset .off)) .loadComplete).engine.state,
      (run (switching .loading .loading 0 (preset .bar)) .loadComplete).engine.state,
      (run (switching .loading .loading 1 (preset .off)) .loadComplete).engine.state]
    = [.crossfading, .armed, .loading] := by decide
theorem test_crossfade_completes :
    let s := switching .crossfading .active 0 (preset .off)
    let t := run { s with engine := { s.engine with fadeFrame := 4 } } .crossfadeComplete
    (t.engine.state, t.mains.fohL.sources.start, (run s .crossfadeComplete).engine.state) = (.idle, false, .crossfading) := by
  decide
theorem test_cut_and_spill :
    let s (r : Role) (cut quiet frames : Nat) : State := { boot with buffers := { boot.buffers with
      b2 := { held r (preset .off) with cutFrames := cut, quietCount := quiet, spillFrames := frames } } }
    [(run (s .cutting 4 0 0) .cutComplete).buffers.b2.role, (run (s .cutting 3 0 0) .cutComplete).buffers.b2.role,
      (run (s .spill 0 32 0) .spillQuietEnd).buffers.b2.role, (run (s .spill 0 31 0) .spillQuietEnd).buffers.b2.role,
      (run (s .spill 0 31 4500) .spillLimitReached).buffers.b2.role,
      (run (s .spill 0 31 4499) .spillLimitReached).buffers.b2.role]
    = [.free, .cutting, .free, .spill, .cutting, .spill] := by decide
theorem test_beat_event :
    let s := { boot with frameOpen := true, frameEnded := true, frameCounter := 750 }
    ((run s .beatEvent).tempo.nextBeat, (run s .beatEvent).tempo.beatCounter, (run boot .beatEvent).tempo.beatCounter)
    = (48000, 1, 0) := by decide
theorem test_rate_window :
    (run { boot with engine := { boot.engine with holdOffs := { boot.engine.holdOffs with rate := true } } }
      .rateWindowExpiry).engine.holdOffs.rate = false := by decide
theorem test_measure_completes :
    let m : Measurement := { loop := .one, tag := 7, taken := 4096, found := some 12, block := none }
    let s := run { boot with loops := { boot.loops with measuring := some m } } .measureComplete
    (s.loops.loop1.latency, s.loops.measuring, s.notices.queue.map (fun n => n.tag)) = (some 12, none, [7]) := by decide
theorem test_estimate_not_due : run (estimateState .listening false) (.tunerEstimate 82407 100) = estimateState .listening false := by
  decide +kernel
theorem test_estimate_of_a4 :
    ((run (estimateState .listening true) (.tunerEstimate 440000 100)).tuner.run.map Prod.fst,
      (run (estimateState .listening true) (.tunerEstimate 440000 59)).tuner.run) = ([57], []) := by decide +kernel
theorem test_frame_opens :
    let z : Block := Vector.replicate 32 0
    let s := run boot (.frame { inA := z, inB := z, ret1 := z, ret2 := z, aux := z })
    (s.frameOpen, s.frameCounter, (run s (.frame { inA := z, inB := z, ret1 := z, ret2 := z, aux := z })).frameCounter)
    = (true, 1, 2) := by decide +kernel
/-- R159: a wait of 60 frames begun in frame 0, and one begun after the end of frame 0 (so in frame 1), as frame 1 begins. -/
theorem test_wait_of_a_late_down :
    let z : Block := Vector.replicate 32 0
    let s := { present upRecord with map := { boot.map with entries := [entry (.combo 1)] } }
    let after (t : State) : Option Nat :=
      ((run (run t (.switchDown .a 0)) (.frame { inA := z, inB := z, ret1 := z, ret2 := z, aux := z })).switchAt .a 0).window
    (after s, after { s with frameEnded := true }) = (some 59, some 60) := by decide +kernel

/-! ## Witnesses: a state and operands that meet the hypotheses of each statement, clause by clause

Statements whose one hypothesis is `Ready s` or `s.power = .running` are witnessed by `ready_states`; the operands that reach
each of their clauses stand in the tests of the command above. -/

/-- The states of these tests are Ready (and so run). -/
theorem ready_states :
    Ready boot ∧ Ready (playing (preset .off)) ∧ Ready (stored (preset .off)) ∧ Ready (staged (preset .off)) ∧
    Ready (switching .loading .loading 0 (preset .off)) ∧ Ready (present upRecord) ∧ Ready (flying true none) := by
  refine ⟨?_, ?_, ?_, ?_, ?_, ?_, ?_⟩ <;> exact ⟨rfl, rfl, by decide⟩

/-- EveryCommandKeeps…: a state with a command waiting in which all that every command keeps holds. -/
theorem witness_every_command_keeps :
    let s : State := { boot with pending := [.mute 7 1 15] }
    (∃ t, step s = .next t) ∧ s.queuesBounded ∧ s.builtInsKept ∧ s.rolesCoherent ∧ s.restingByQueue ∧ s.tunerCoherent ∧
    s.holdOffsCurrent ∧ s.satelliteCoherent ∧ s.linksCoherent := by
  refine ⟨⟨_, rfl⟩, ?_, ?_, ⟨by decide, ?_, ?_, by decide, ?_, by decide, by decide, by decide⟩, ?_, ⟨by decide, by decide, ?_⟩,
    ?_, ?_, ?_⟩
  · unfold State.queuesBounded; decide
  · unfold State.builtInsKept; decide +kernel
  · intro b; cases b <;> decide
  · intro b _; cases b <;> exact ⟨rfl, rfl⟩
  · intro cur h; cases h
  · unfold State.restingByQueue; decide
  · intro o; cases o <;> decide
  · unfold State.holdOffsCurrent; decide
  · unfold State.satelliteCoherent; decide
  · intro l
    cases l <;> refine ⟨by decide, by decide, fun _ => ?_, by decide⟩ <;> decide

/-- StepRunsTheFrontCommand, its second clause. -/
theorem witness_empty_queue : boot.pending = [] := rfl

theorem witness_level : (0 : Int) ≤ 1048576 ∧ (1048576 : Int) ≤ 1048576 ∧ (0 : Int) ≤ 7 ∧ (-7 : Int) ≤ 0 := by decide

/-- LevelRoundsHalfUpAndNeverGrowsBelowUnity: codes 240 (q = 4, j = 0) and 1 (q = −16, j = 1), with R3's factors of both. -/
theorem witness_gain_factor :
    ((240 : Nat) : Int) = 192 + 12 * 4 + ((0 : Nat) : Int) ∧ ((1 : Nat) : Int) = 192 + 12 * (-(15 + 1 : Nat)) + ((1 : Nat) : Int) ∧
    gainFactor 240 = 16777216 ∧ gainFactor 1 = 17 := by decide

theorem witness_ramp_equal_target : 192 = (Ramp.rest 192).code := rfl

theorem witness_disabled_slot :
    let slot : Slot := { SlotRecord.load boot.loops { kind := .volume, enabled := false, values := [192] } with latency := 2 }
    let p : SlotProgress := { line := [8388607, -8388608], memory := slot.memory, clips := 0 }
    slot.wet = Ramp.rest 0 ∧ slot.dry = Ramp.rest 192 ∧ ∀ y ∈ (0 : Int) :: p.line, -8388608 ≤ y ∧ y ≤ 8388607 := by decide

/-- DisabledSlotPassesItsDelayedInput, its gate clauses: a gate of threshold code 120, whose threshold magnitude R35 gives as 131,072,
hears a sample there and not one below; code 0 opens it too. -/
theorem witness_gate :
    let gate (v : Int) : Slot := SlotRecord.load boot.loops { kind := .gate, enabled := true, values := [v, 100] }
    (gate 120).kind = .gate ∧ ((gate 120).ramp 0).code = 120 ∧ ((gate 0).ramp 0).code = 0 ∧
    level 8388607 (((gate 120).ramp 0).prev + (gainFactor ((gate 120).ramp 0).code - ((gate 120).ramp 0).prev) * (0 + 1) / 32) =
      131072 ∧
    ((gate 120).gateDecision [131071]).memory.gateQuiet = 1 ∧ ((gate 120).gateDecision [-131072]).memory.gateQuiet = 0 := by decide

theorem witness_muted_output :
    let z : Block := Vector.replicate 32 0
    let s : State := { boot with frameOpen := false }
    (s.closeFrame.mains.get .fohL).gain = { code := 0, prev := 0 } ∧
    ((run s (.frame { inA := z, inB := z, ret1 := z, ret2 := z, aux := z })).mains.get .fohL).gain.code = 0 := by decide

/-- FrameMovesCodesCountsAndWaits: a FOLLOW context whose first running frame the FRAME begins. -/
theorem witness_first_frame :
    let u : State := { playing (preset .off) with frameOpen := false }
    u.closeFrame = u ∧ (u.buffers.get .b0).role.running = true ∧
    (u.buffers.get .b0).context.map (fun c => (c.started, c.header.inputMode)) = some (false, .follow) := ⟨rfl, rfl, rfl⟩

/-- FrameEndOnlyCounts, its clause on the commands within a frame: before and after the frame's end has begun. -/
theorem witness_late :
    timesTheFrame (.tap 7) = false ∧ boot.midFrame ∧
    ({ boot with frameEnded := true } : State).frameOpen = true ∧ ({ boot with frameEnded := true } : State).frameEnded = true := by
  decide

theorem witness_frame_end :
    let s : State := { boot with frameOpen := true }
    s.frameOpen = true ∧ s.frameEnded = false ∧ State.reset.frameOpen = false := by decide

theorem witness_curve_values :
    risingX points = true ∧ points ≠ [] ∧ (∀ p ∈ points, (0 : Int) ≤ p.2 ∧ p.2 ≤ 100) ∧
    points[0]? = some (-8388608, 0) ∧ points[0 + 1]? = some (8388607, 100) := by decide

/-- DesignsKeepWhatTheirRulesState: memories of the design's size; a tremolo of depth 100 and a free rate of 20 Hz; a decay;
a pitch slot at the lowest interval. -/
theorem witness_designs :
    (List.replicate Config.tone.size (0 : Rat)).length = Config.tone.size ∧
    (let slot := SlotRecord.load boot.loops { kind := .modulation, enabled := true, values := [2, 0, 200, 100] }
     slot.value 0 = 2 ∧ slot.value 3 = 100 ∧ 1 ≤ modPeriod 24000 (slot.value 1) (slot.value 2) ∧
     (0 : Rat) ≤ SlotMemory.cleared.modPhase ∧ SlotMemory.cleared.modPhase < 1) ∧
    (SlotRecord.load boot.loops { kind := .modulation, enabled := true, values := [2, 0, 200, 0] }).value 3 = 0 ∧
    1 ≤ ((SlotRecord.load boot.loops { kind := .reverb, enabled := true, values := [1, 192] }).value 0).toNat ∧
    (SlotRecord.load boot.loops { kind := .pitch, enabled := true, values := [-24, 192] }).kind = .pitch ∧
    (SlotRecord.load boot.loops { kind := .pitch, enabled := true, values := [-24, 192] }).value 0 = -24 ∧
    (SlotRecord.load boot.loops { kind := .pitch, enabled := true, values := [-24, 192] }).latency = 64 := by
  refine ⟨List.length_replicate, ⟨rfl, rfl, by decide, le_refl _, ?_⟩, rfl, by decide, rfl, rfl, rfl⟩
  exact zero_lt_one

theorem witness_param_set :
    ∃ b c slot, (playing (preset .off)).active = some (b, c) ∧ c.slots[0]? = some slot ∧ slot.kind = .volume ∧
      slot.params.length = 1 := ⟨_, _, _, rfl, rfl, rfl, rfl⟩

theorem witness_curve_parameter :
    ∃ b c slot, (playing (drivePreset [192, 0, 192])).active = some (b, c) ∧ c.slots[0]? = some slot ∧ slot.kind = .drive ∧
      slot.params.length = slot.kind.paramCount ∧ slot.value 1 = 0 := ⟨_, _, _, rfl, rfl, rfl, rfl, rfl⟩

theorem witness_loop_measure : boot.holdOffsCurrent := by unfold State.holdOffsCurrent; decide

theorem witness_preset_end :
    let p := preset .off
    p.slots.length = p.header.nPre + p.header.nX + p.header.nY + p.header.nPost ∧ p.scenes ≠ [] ∧
    (∀ c ∈ p.scenes, c.enables.length = p.slots.length) ∧ p.header.defaultScene < p.scenes.length ∧
    (∀ c ∈ p.scenes, c.overrides = []) ∧ p.slots.length = 1 ∧ (p.slots.map (fun r => r.kind.cost)).sum ≤ 120 ∧
    (∀ r ∈ p.slots, r.curve = none) ∧ p.overlay = [] := by decide

/-- Its failing checks in the order of R81, each with its reply code and part index, behind an item that passes where there can be one. -/
theorem witness_preset_end_fails :
    let p := preset .off
    let volume : SlotRecord := { kind := .volume, enabled := true, values := [192] }
    let drive : SlotRecord := { kind := .drive, enabled := true, values := [192, 4, 192] }
    let loop : SlotRecord := { kind := .loop, enabled := true, values := [1, 192, 192] }
    let amp : SlotRecord := { kind := .amp, enabled := true, values := [192, 0, 192, 192, 192, 255, 192] }
    let scene (n : Nat) (os : List Override) : SceneRecord := { name := [], enables := List.replicate n true, overrides := os }
    let of (slots : List SlotRecord) (scenes : List SceneRecord) (default : Nat) (overlay : List MapEntry) : State :=
      let s := staged { p with
        header := { p.header with nPre := slots.length, defaultScene := default },
        slots := slots, scenes := scenes, overlay := overlay }
      { s with map := { s.map with masks := { a := 1, b := 255 } } }
    let short : State := staged { p with slots := [] }
    let allowedEntry : MapEntry := { entry .press with targets := [.preset 1 false] }
    [(code short (.presetEnd 7), fields short (.presetEnd 7)),
      (code (of [volume] [] 0 []) (.presetEnd 7), fields (of [volume] [] 0 []) (.presetEnd 7)),
      (code (of [volume] [scene 1 [], scene 2 []] 0 []) (.presetEnd 7),
        fields (of [volume] [scene 1 [], scene 2 []] 0 []) (.presetEnd 7)),
      (code (of [volume] [scene 1 []] 1 []) (.presetEnd 7), fields (of [volume] [scene 1 []] 1 []) (.presetEnd 7)),
      (code (of [volume] [scene 1 [], scene 1 [{ position := 0, index := 1, value := 0 }]] 0 []) (.presetEnd 7),
        fields (of [volume] [scene 1 [], scene 1 [{ position := 0, index := 1, value := 0 }]] 0 []) (.presetEnd 7)),
      (code (of [loop, loop] [scene 2 []] 0 []) (.presetEnd 7), fields (of [loop, loop] [scene 2 []] 0 []) (.presetEnd 7)),
      (code (of (List.replicate 5 amp) [scene 5 []] 0 []) (.presetEnd 7),
        fields (of (List.replicate 5 amp) [scene 5 []] 0 []) (.presetEnd 7)),
      (code (of [volume, drive] [scene 2 []] 0 []) (.presetEnd 7), fields (of [volume, drive] [scene 2 []] 0 []) (.presetEnd 7)),
      (code (of [volume] [scene 1 []] 0 [allowedEntry, entry .hold]) (.presetEnd 7),
        fields (of [volume] [scene 1 []] 0 [allowedEntry, entry .hold]) (.presetEnd 7))]
    = [(some .badState, some [.u 1 1, .u 1 0]), (some .badState, some [.u 1 1, .u 1 0]),
        (some .badState, some [.u 1 1, .u 1 3]), (some .outOfRange, some [.u 1 1, .u 1 0]),
        (some .outOfRange, some [.u 1 1, .u 1 3]), (some .badState, some [.u 1 1, .u 1 2]),
        (some .overBudget, some [.u 1 1, .u 1 0]), (some .missingCurve, some [.u 1 1, .u 1 2]),
        (some .denied, some [.u 1 1, .u 1 4])] := by decide +kernel

theorem witness_switch_starts :
    let s := stored (preset .off)
    s.engine.settings.mode = .collapse ∧ s.engine.state = .idle ∧ s.engine.queue = [] ∧
    s.engine.holdOffs = { rate := false, tuner := false, satellite := false, measure := false, host := false } ∧
    s.presetAt 9 = some (preset .off) ∧ s.withRole .free = [.b0, .b1, .b2] ∧ s.active = none := by decide

/-- The other branch of SwitchStartsALoadFromIdle: the stored preset names the empty curve 4. -/
theorem witness_switch_missing_curve :
    let s := stored (drivePreset [192, 4, 192])
    s.presetAt 9 = some (drivePreset [192, 4, 192]) ∧ curveHeld s.curves 4 = false ∧
    (run s (.switch 7 (some 9) none 0)).notices.queue.map (fun n => n.body.kind) = [.switchFailed] := by decide

/-- Its outcomes for the preset of the ACTIVE context (5), without and with a scene, with one it does not hold, forced to an EMPTY
location, and for another EMPTY location. -/
theorem witness_switch_outcomes :
    let s := playing (preset .off)
    let after (i : Instr) : Option (SwitchStatus × Option Nat) :=
      (run s i).engine.history.head?.map (fun h => (h.status, h.scene))
    s.active = some (.b0, context (preset .off)) ∧ (context (preset .off)).number = 5 ∧
    (context (preset .off)).scenes[0]? = some { name := [0x42], enables := [true], overrides := [] } ∧
    [after (.switch 7 (some 5) none 0), after (.switch 7 (some 5) (some 0) 0), after (.switch 7 (some 5) (some 7) 0),
      after (.switch 7 (some 5) none 1), after (.switch 7 (some 6) none 0)]
    = [some (.unchanged, none), some (.ok, some 0), some (.sceneMissing, some 0), some (.empty, none), some (.empty, none)] := by
  decide

theorem witness_sequence :
    let q (n : Nat) (e : EngineState) : State := { boot with engine := { boot.engine with
      state := e, settings := { boot.engine.settings with mode := .sequence },
      queue := List.replicate n (current none).request } }
    [code (q 4 .idle) (.switch 7 (some 255) (some 7) 1), code (q 4 .idle) (.scene 7 7), code (q 3 .loading) (.scene 7 7),
      code (q 3 .loading) (.switch 7 none (some 0) 0)] = [some .queueFull, some .queueFull, some .accepted, some .accepted] ∧
    (q 3 .loading).engine.state.resting = false := by decide

theorem witness_collapse :
    let s := switching .loading .loading 1 (preset .off)
    s.engine.settings.mode = .collapse ∧ s.engine.state = .loading ∧ s.engine.current = some (current none) ∧
    s.engine.queue = [] ∧ s.engine.history = [record] ∧ (current none).request.preset = some 5 ∧
    (current none).request.merged = none ∧
    ({ s with engine := { s.engine with holdOffs := { s.engine.holdOffs with host := true } } } :
      State).engine.holdOffs.isEmpty = false := by decide

/-- A part whose ACTIVE context has a scene that overrides its level, and whose PRESENT pedal controls the level too. -/
def sceneState (position : Option Nat) : State :=
  let p : Preset :=
    { preset .off with scenes := [{ name := [0x42], enables := [false], overrides := [{ position := 0, index := 0, value := 300 }] }] }
  let e : MapEntry :=
    { key := { link := .a, source := .expr 0, gesture := .move }, targets := [.tap, .param 0 0 0 100] }
  let s := playing p
  { s with
    map := { s.map with entries := [e] },
    pedals := { s.pedals with a := { pedal upRecord with positions := [position, none, none, none] } } }

theorem witness_scene_request :
    let s := sceneState none
    s.engine.state = .idle ∧ s.engine.queue = [] ∧ s.engine.holdOffs.host = false ∧ s.engine.holdOffs.measure = false ∧
    s.active.isSome = true ∧ s.pedals.a.identity.isSome = true ∧ boot.active = none ∧
    (s.active.map (fun x => x.2.scenes.length)) = some 1 := by decide

/-- R88 to R90: the override is clamped to 192 and the mark set; a pedal whose position is known writes after it, and only PARAM runs. -/
theorem test_scene_overrides_and_pedals :
    let after (p : Option Nat) : State := run (sceneState p) (.scene 7 0)
    [after none, after (some 1023)].map (fun t => (t.active.map (fun x => x.2.slots.map (fun y => (y.value 0, y.enabled))),
      t.notices.queue.map (fun n => match n.body with | .sceneActive _ _ _ _ clamped _ => clamped | _ => false), t.tempo.taps)) =
    [(some [(192, false)], [false, true, false], []), (some [(100, false)], [false, true, false], [])] := by decide +kernel

/-- The roles of a part that crossfades from buffer 2 into buffer 1. -/
def fading : State :=
  let s := switching .crossfading .active 0 (preset .off)
  { s with engine := { s.engine with fadeFrame := 4 }, buffers := { s.buffers with b2 := held .outgoing (preset .off) } }

theorem witness_crossfade :
    fading.endFrame.rolesCoherent ∧ fading.frameOpen = true ∧ fading.endFrame.engine.state = .crossfading ∧
    fading.endFrame.engine.current = some (current none) ∧
    (fading.endFrame.buffers.get .b1).context = some (context (preset .off)) ∧
    fading.endFrame.engine.fadeLength ≤ fading.endFrame.engine.fadeFrame ∧ (current none).request.merged = none ∧
    fading.endFrame.engine.queue = [] := by
  refine ⟨⟨by decide, ?_, ?_, by decide, ?_, by decide, by decide, by decide⟩, rfl, rfl, rfl, rfl, by decide, rfl, rfl⟩
  · intro b; cases b <;> decide
  · intro b h; cases b
    · exact ⟨rfl, rfl⟩
    · exact absurd h (by decide)
    · exact absurd h (by decide)
  · intro cur h; cases h; rfl

/-- PanicSilencesAndLeavesOnlyTheActiveContext: a crossfade under way; its request ends with SWITCH_DONE. -/
theorem witness_panic : Ready fading ∧ fading.rolesCoherent ∧ fading.holdOffsCurrent ∧ fading.engine.history = [record] ∧
    (run fading (.panic 7)).notices.queue.map (fun n => n.body.kind) = [.switchDone] := by
  refine ⟨⟨rfl, rfl, by decide⟩, witness_crossfade.1, ?_, rfl, by decide⟩
  unfold State.holdOffsCurrent; decide

/-- LoadCompletesAndProceeds: its clauses in turn: not due, quantized, with a spill, with a cut, at once. -/
theorem witness_load :
    let s (n : Nat) (q : Quantize) : State := switching .loading .loading n (preset q)
    let spilling (r : Role) : State :=
      { s 0 .off with buffers := { (s 0 .off).buffers with b2 := held r (preset .off) } }
    (s 0 .off).frameOpen = true ∧ (s 0 .off).endFrame.engine.current = some (current none) ∧
    ((s 0 .off).endFrame.buffers.get .b1).context = some (context (preset .off)) ∧
    ((s 1 .off).endFrame.buffers.get .b1).loadLeft = 1 ∧ ((s 0 .bar).endFrame.buffers.get .b1).loadLeft = 0 ∧
    (spilling .spill).endFrame.withRole .spill = [.b2] ∧ (spilling .cutting).endFrame.withRole .cutting = [.b2] ∧
    (s 0 .off).endFrame.withRole .cutting = [] := by decide

/-- CutsSpillsAndRateEndWhenDue, while the engine is CUTTING: a cut done, and a spill that has become quiet. -/
theorem witness_cut_activates :
    let s : State := switching .cutting .ready 0 (preset .off)
    let t (r : Role) : State :=
      { s with buffers := { s.buffers with b2 := { held r (preset .off) with cutFrames := 4, quietCount := 32 } } }
    (t .cutting).endFrame.engine.state = .cutting ∧ (t .cutting).endFrame.engine.current = some (current none) ∧
    (run (t .cutting) .cutComplete).engine.state = .crossfading ∧ (run (t .spill) .spillQuietEnd).engine.state = .crossfading := by
  decide

/-- BeatFallsInItsFrame: a beat due with an ARMED engine, quantized to BAR off and on the bar, and to BEAT. -/
theorem witness_beat :
    let s (q : Quantize) (n : Nat) : State :=
      let x := switching .armed .ready 0 (preset q)
      { x with frameOpen := true, frameEnded := true, frameCounter := 750, tempo := { x.tempo with beatCounter := n },
               buffers := { x.buffers with b2 := held .spill (preset .off) } }
    [(run (s .bar 0) .beatEvent).engine.state, (run (s .bar 3) .beatEvent).engine.state,
      (run (s .beat 0) .beatEvent).engine.state] = [.armed, .cutting, .cutting] ∧
    (s .bar 0).endFrame.engine.current = some (current none) ∧ (s .bar 0).endFrame.withRole .spill = [.b2] := by decide

/-- Its ARMED engine without a spill: a cut under way, and none. -/
theorem witness_beat_without_spill :
    let s (r : Role) : State :=
      let x := switching .armed .ready 0 (preset .beat)
      { x with frameCounter := 750, buffers := { x.buffers with b2 := if r = .free then Buffer.free else held r (preset .off) } }
    [(run (s .cutting) .beatEvent).engine.state, (run (s .free) .beatEvent).engine.state] = [.cutting, .crossfading] ∧
    (s .cutting).endFrame.withRole .cutting = [.b2] ∧ (s .free).endFrame.withRole .spill = [] ∧
    (s .free).endFrame.withRole .cutting = [] := by decide

/-- An engaged tuner, by the host alone or with a pedal. -/
def engaged (pedal : Bool) : State :=
  let s := run boot (.tuner 7 0)
  { s with tuner := { s.tuner with engage := { host := true, pedalA := pedal, pedalB := false } } }

theorem witness_tuner : Ready (engaged true) ∧ (engaged true).holdOffsCurrent ∧ (engaged false).holdOffsCurrent ∧
    (run (engaged true) (.tuner 8 1)).tuner.state = .listening ∧ (run (engaged false) (.tuner 8 1)).tuner.state = .off := by
  refine ⟨⟨rfl, rfl, by decide⟩, ?_, ?_, by decide, by decide⟩ <;> (unfold State.holdOffsCurrent; decide)

/-- EstimatesMoveBetweenListeningAndTracking: an estimate that counts and one that does not, in each state. -/
theorem witness_estimates :
    (readingOf boot.tuner .a 0 440000 100).isSome = true ∧ readingOf boot.tuner .a 0 24999 100 = none ∧
    (estimateState .tracking true).endFrame.tuner.estimateDue = true := by decide +kernel

/-- PedalFramesMoveThePresence: identities acceptable and not, on an ABSENT and a PRESENT link; numbers at the counts. -/
theorem witness_pedal_frames :
    boot.pedals.a.identity = none ∧
    (present upRecord).pedals.a.identity = some { switches := 2, pedals := 1, lines := 1 } ∧
    (present upRecord).pedals.a.rejected = 0 ∧ (run (present upRecord) (.switchDown .a 2)).pedals.a.rejected = 1 ∧
    (run (present upRecord) (.pedalExpr .a 1 5)).pedals.a.rejected = 1 ∧
    (run (present upRecord) (.pedalExpr .a 0 5)).pedals.a.rejected = 0 ∧
    (run (present upRecord) (.pedalIdent .a 2 1 1)).notices.queue = [] ∧
    (run (present upRecord) (.pedalIdent .a 2 1 2)).notices.queue.map (fun n => n.body.kind) = [.linkState, .linkState] := by
  decide

/-- SwitchFramesFollowTheGestureTable: its common hypotheses, and a down event in UP whose one waiting partner is switch 1. -/
def comboState : State :=
  let p := pedal upRecord
  let e : MapEntry := { entry .press with key := { link := .a, source := .switch 1, gesture := .combo 0 } }
  { boot with
    map := { boot.map with entries := [e] },
    pedals := { boot.pedals with a := { p with switches := p.switches.set 1 (downRecord .comboWait [e] none (some 5)) } } }

theorem witness_combo_partner :
    comboState.pedals.a.identity = some { switches := 2, pedals := 1, lines := 1 } ∧ comboState.pedals.a.switches.length = 32 ∧
    (comboState.switchAt .a 0).isDown = false ∧ (comboState.switchAt .a 0).state = .up ∧
    (∀ k < 32, (comboState.switchAt .a k).state = .comboWait → k = 1) ∧
    (run comboState (.switchDown .a 0)).notices.queue.map (fun n => n.body.kind) = [.gesture] ∧
    ((run comboState (.switchDown .a 0)).switchAt .a 1).state = .consumed := by decide

/-- Its other down events: repeated, in DOUBLE_WAIT, waiting for a combination, and with HOLD, DOUBLE or neither. -/
theorem witness_switch_down :
    let s (r : SwitchRecord) (es : List MapEntry) : State := { present r with map := { boot.map with entries := es } }
    let after (r : SwitchRecord) (es : List MapEntry) : GestureState := ((run (s r es) (.switchDown .a 0)).switchAt .a 0).state
    [after (downRecord .held [] none none) [],
      after { downRecord .doubleWait [entry .double] none (some 3) with isDown := false } [],
      after upRecord [entry (.combo 1)], after upRecord [entry .hold, entry .double], after upRecord [entry .double],
      after upRecord [entry .press]]
    = [.held, .consumed, .comboWait, .down, .doubleWait, .down] := by decide

/-- Its releases, row by row. -/
theorem witness_switch_release :
    let after (state : GestureState) (es : List MapEntry) : GestureState :=
      ((run (present (downRecord state es none none)) (.switchRelease .a 0)).switchAt .a 0).state
    [after .down [entry .hold, entry .double], after .comboWait [entry .hold], after .down [entry .release],
      after .comboWait [entry .double], after .comboWait [entry .press], after .held [], after .doubleWait [], after .consumed []]
    = [.doubleWait, .up, .up, .doubleWait, .up, .up, .doubleWait, .up] := by decide

/-- MapTargetsActAsTheirRequests: what a target leaves, after one that has run before it in its entry. -/
def dispatched (s : State) (t : Target) : State := s.dispatch { entry .press with targets := [.hostNotice 1, t] } 1023

/-- A class outside the mask, and inside it. -/
theorem witness_target_mask :
    let s : State := { boot with map := { boot.map with masks := { a := 254, b := 255 } } }
    (s.map.masks.get .a).getLsbD (Target.preset 1 false).class.code = false ∧
    (boot.map.masks.get .a).getLsbD (Target.preset 1 false).class.code = true ∧
    ((dispatched s (.preset 1 false)).map.counts.a.denied, (dispatched s (.preset 1 false)).notices.queue.map (fun n => n.body.kind))
      = (1, [.gesture, .mapDenied]) := by decide

/-- Targets that find nothing to act on: no ACTIVE context, no such slot, no preset stored, no such parameter. -/
theorem witness_targets_unapplied :
    [(dispatched boot (.presetStep .up)).map.counts.a.unapplied, (dispatched boot (.sceneStep .up)).map.counts.a.unapplied,
      (dispatched boot (.slotToggle 0)).map.counts.a.unapplied,
      (dispatched (playing (preset .off)) (.slotSet 1 true)).map.counts.a.unapplied,
      (dispatched (playing (preset .off)) (.param 0 1 0 192)).map.counts.a.unapplied] = [1, 1, 1, 1, 1] := by decide +kernel

/-- Targets that act: a step to the one location stored, a scene, a slot, a parameter clamped, an input, the tuner, a tap, a message. -/
theorem witness_targets_act :
    let s := playing (preset .off)
    let mapped : State := { boot with sat := { boot.sat with
      table := boot.sat.table.set 3 { physical := some 16, acknowledge := true } } }
    ((dispatched (stored (preset .off)) (.presetStep .down)).engine.current.map (fun c => c.request.preset)) = some (some 9) ∧
    (dispatched s (.sceneStep .down)).engine.history.map (fun h => h.scene) = [some 0] ∧
    (dispatched s (.slotToggle 0)).active.map (fun p => p.2.slots.map Slot.enabled) = some [false] ∧
    (dispatched s (.param 0 0 0 300)).map.counts.a.clamped = 1 ∧ (dispatched boot (.guitar .toggle)).selected = .b ∧
    (dispatched boot (.tuner .toggle)).tuner.engage = { host := false, pedalA := true, pedalB := false } ∧
    (dispatched boot .tap).tempo.taps = [32] ∧
    [(dispatched mapped (.satMessage 15 [7])).sat.queue.length, (dispatched mapped (.satMessage 4 [7])).sat.unmapped] = [1, 1] ∧
    (dispatched boot .panic).mains.mon.sources.panic = true := by decide +kernel

/-- PostingsShowOnTheDisplayLines: the example of R167 on links of two lines, of one and of none, and the lamp of a SLOT target. -/
theorem witness_display_lines :
    let on (lines : Nat) : State :=
      { boot with
        map := { boot.map with entries := [{ entry .hold with targets := [.tap, .slotToggle 1] }] },
        pedals := { boot.pedals with a := { pedal upRecord with identity := some { switches := 2, pedals := 1, lines := lines } } } }
    let lead : List Byte := [0x4C, 0x45, 0x41, 0x44]
    let after (lines : Nat) (b : NoticeBody) : List DisplayMsg := ((on lines).post b).pedals.a.display
    [after 2 (.presetActive .b0 40 (lead ++ [0x54, 0x4F, 0x4E, 0x45]) 1), after 2 (.sceneActive .b0 40 1 lead false 0),
      after 1 (.sceneActive .b0 40 1 lead false 0), after 0 (.sceneActive .b0 40 1 lead false 0),
      after 0 (.slotState .b0 40 [false, true])]
    = [[.text 0 ([0x30, 0x34, 0x30, 0x20] ++ lead ++ [0x54, 0x4F, 0x4E, 0x45] ++ List.replicate 8 0x20)],
        [.text 1 ([0x53, 0x43, 0x45, 0x4E, 0x45, 0x20, 0x31, 0x20] ++ lead ++ List.replicate 8 0x20)],
        [.text 0 ([0x30, 0x34, 0x30, 0x20, 0x53, 0x31, 0x20] ++ lead ++ List.replicate 9 0x20)], [], [.leds 1]] ∧
    [((on 2).destinations .presetActive).pedalA, ((on 2).destinations .beat).pedalA] = [true, false] := by decide +kernel

/-- SatelliteLinesFinishFrames: the line busy; a frame on the line; one that waits, for the address or for another. -/
theorem witness_satellite_lines :
    ({ boot with sat := { boot.sat with lineBusy := true } } : State).sat.lineBusy = true ∧ (flying true none).sat.lineBusy = false ∧
    (flying true none).sat.inFlight = some { frame := satFrame true .map false, wait := none, bytes := [] } ∧
    (flying true (some 9)).sat.inFlight = some { frame := satFrame true .map false, wait := some 9, bytes := [] } ∧
    (satFrame true .map false).physical = 16 := by decide

theorem witness_requests :
    requestOf (.tempoSet 7 1200) = some (7, .tempoSet 1200) ∧ parseFrame [0x04, 0x05, 0x1C, 0x04, 0xB0, 0x27] ≠ none ∧
    parseFrame [0x04, 0x05, 0x1C, 0x04, 0xB0, 0x28] = none := by decide

/-- A reply, and a state with it at the head of the queue or on the line. -/
def reply (kind : Byte) : Reply := { tag := 7, kind := kind, code := .ok, fields := [] }

def sending (item : Option TxItem) (replies : List Reply) (hold : List ControlFrame) : State :=
  { boot with control := { boot.control with
      tx := item.map (fun i => { item := i, bytes := [] }), replies := replies, hold := hold } }

/-- TransmittersSendTheHeadOfTheirQueue: a reply with a frame held behind it; a notice with OVERFLOW pending; OVERFLOW itself. -/
theorem witness_transmitters :
    let n (b : NoticeBody) : State := { boot with notices := { boot.notices with
      queue := [{ body := b, frame := 0, tag := 0 }], overflow := .pending 3 } }
    (run (sending none [reply 1] [{ tag := 9, body := .request .ident }]) .controlTxStart).control.replies.map Reply.kind = [0x2C] ∧
    (run (n (.clip (.main .mon) 1)) .controlTxStart).notices.queue.map (fun n => n.body) = [.overflow 3] ∧
    (run (n (.overflow 2)) .controlTxStart).notices.overflow = .clear := by decide

/-- ResetsKeepWhatTheRulesName: nothing on the line; RESET's OK reply; another reply; a notice. -/
theorem witness_resets :
    (sending none [] []).control.tx = none ∧
    ((sending (some (.reply (reply 0x2E))) [] []).control.tx.map (fun t => t.item)) = some (.reply (reply 0x2E)) ∧
    (reply 0x2E).code = .ok ∧ (reply 1).kind ≠ 0x2E ∧
    (run (sending (some (.reply (reply 1))) [] []) .controlTxEnd).control.tx = none := by decide

/-- FramesReadBack: kinds and lengths outside R212 on the pedal and satellite lines, and bytes whose sum is not 0. -/
theorem witness_inbound_frames :
    (1 ≤ [(0 : Byte)].length ∧ [(0 : Byte)].length ≤ 21 ∧ ¬ ((4 : Byte) = 0x01 ∧ [(0 : Byte)].length = 3)) ∧
    ¬ ((3 : Byte) = 0x01 ∧ ([] : List Byte) ≠ []) ∧ [(0x10 : Byte), 0x02].foldl (fun a b => a + b) 0 ≠ (0 : Byte) := by decide

/-- FramesReadBack: a well-formed request of each shape, the longest payload among them. -/
theorem witness_well_formed_requests :
    requestWellFormed .ident = true ∧ requestWellFormed (.paramSet 255 255 (-32768)) = true ∧
    requestWellFormed (.presetSatmsg 0 (List.replicate 248 0)) = true := by decide +kernel

end Sys2Proof.Tests
end

section
/-! PROOFS. Level arithmetic (R3, R4, R9) and the four-frame code ramp (R10). The level operation, the moving gain and the
ramp all take a share k/n of a distance d and round it to an integer; `ediv_share_between` says once that the result lies
between 0 and d. -/

namespace Sys2Proof.Machine

/-! ## A share of a distance, rounded -/

/-- The part k/n of d, with any rounding offset h below one unit, lies between 0 and d, on whichever side of 0 d is. -/
theorem ediv_share_between (d : Int) {k n h : Int} (hk : 0 ≤ k) (hkn : k ≤ n) (hh : 0 ≤ h) (hhn : h < n) :
    (0 ≤ d → 0 ≤ (d * k + h) / n ∧ (d * k + h) / n ≤ d) ∧ (d ≤ 0 → d ≤ (d * k + h) / n ∧ (d * k + h) / n ≤ 0) := by
  have hn : 0 < n := by omega
  constructor <;> intro hd
  · have low : 0 ≤ d * k := Int.mul_nonneg hd hk
    have high : d * k ≤ d * n := Int.mul_le_mul_of_nonneg_left hkn hd
    refine ⟨Int.ediv_nonneg (by omega) hn.le, Int.lt_add_one_iff.mp (Int.ediv_lt_of_lt_mul hn ?_)⟩
    rw [Int.add_mul]; omega
  · have low : d * n ≤ d * k := Int.mul_le_mul_of_nonpos_left hd hkn
    have high : d * k ≤ 0 := Int.mul_nonpos_of_nonpos_of_nonneg hd hk
    exact ⟨Int.le_ediv_of_mul_le hn (by omega), Int.lt_add_one_iff.mp (Int.ediv_lt_of_lt_mul hn (by omega))⟩

/-! ## The level operation -/

/-- R4: the result is within half a unit of the exact product over 2^20, a half going up. -/
theorem level_rounds_half_up (x g : Int) :
    2097152 * level x g ≤ 2 * (x * g) + 1048576 ∧ 2 * (x * g) + 1048576 < 2097152 * (level x g + 1) := by
  unfold level
  omega

@[simp] theorem level_zero_factor (x : Int) : level x 0 = 0 := by
  unfold level
  omega

@[simp] theorem level_unity (x : Int) : level x 1048576 = x := by
  unfold level
  omega

/-- R4: at a factor up to unity the sample keeps its sign and does not grow. -/
theorem level_between {g : Int} (x : Int) (hg : 0 ≤ g) (hu : g ≤ 1048576) :
    (0 ≤ x → 0 ≤ level x g ∧ level x g ≤ x) ∧ (x ≤ 0 → x ≤ level x g ∧ level x g ≤ 0) :=
  ediv_share_between x hg hu (by decide) (by decide)

/-! ## Gain factors -/

theorem gainFactor_zero : gainFactor 0 = 0 := rfl

/-- R3: the octave q and the place j of a code in the mantissa table give the two branches of its factor. -/
theorem gainFactor_eq {code j : Nat} {q m : Int} (hpos : 1 ≤ code) (hcode : (code : Int) = 192 + 12 * q + j)
    (hm : mantissas[j]? = some m) :
    gainFactor code = if 0 ≤ q then m * 2 ^ q.toNat else (m + 2 ^ (-q - 1).toNat) / 2 ^ (-q).toNat := by
  have hj : j < 12 := (List.getElem?_eq_some_iff.mp hm).1
  have hq : ((code : Int) - 192) / 12 = q := by omega
  have hr : (((code : Int) - 192) % 12).toNat = j := by omega
  simp only [gainFactor, if_neg (Nat.one_le_iff_ne_zero.mp hpos), hq, hr, List.getD_eq_getElem?_getD, hm,
    Option.getD_some]

/-- R3: from code 192 up the factor is the mantissa times a power of two. -/
theorem gainFactor_of_octave_up {code j n : Nat} {m : Int} (hpos : 1 ≤ code) (hcode : (code : Int) = 192 + 12 * n + j)
    (hm : mantissas[j]? = some m) : gainFactor code = m * 2 ^ n := by
  rw [gainFactor_eq hpos hcode hm, if_pos (Int.natCast_nonneg n), Int.toNat_natCast]

/-- R3: below code 192 the factor is the mantissa over a power of two, rounded half up. -/
theorem gainFactor_of_octave_down {code j n : Nat} {m : Int} (hpos : 1 ≤ code)
    (hcode : (code : Int) = 192 + 12 * -((n + 1 : Nat) : Int) + j) (hm : mantissas[j]? = some m) :
    gainFactor code = (m + 2 ^ n) / 2 ^ (n + 1) := by
  have hdown : ¬ (0 : Int) ≤ -((n + 1 : Nat) : Int) := by omega
  have hhalf : (- -((n + 1 : Nat) : Int) - 1).toNat = n := by omega
  have hunit : (- -((n + 1 : Nat) : Int)).toNat = n + 1 := by omega
  rw [gainFactor_eq hpos hcode hm, if_neg hdown, hhalf, hunit]

/-- Rounding half up to a multiple of 2^(n+1), with both sides doubled. -/
theorem ediv_pow_rounds_half_up (m : Int) (n : Nat) :
    2 ^ (n + 2) * ((m + 2 ^ n) / 2 ^ (n + 1)) ≤ 2 * m + 2 ^ (n + 1) ∧
    2 * m + 2 ^ (n + 1) < 2 ^ (n + 2) * ((m + 2 ^ n) / 2 ^ (n + 1) + 1) := by
  have hpow : (0 : Int) < 2 ^ (n + 1) := by positivity
  have low := Int.mul_ediv_self_le (x := m + 2 ^ n) hpow.ne'
  have high := Int.lt_mul_ediv_self_add (x := m + 2 ^ n) hpow
  have hdouble : (2 : Int) ^ (n + 2) = 2 * 2 ^ (n + 1) := pow_succ' 2 (n + 1)
  have hhalf : (2 : Int) ^ (n + 1) = 2 * 2 ^ n := pow_succ' 2 n
  rw [hdouble, mul_assoc, mul_assoc, mul_add, mul_one]
  omega

/-- R3: each code's factor is above the one before; a fact of the table, read off code by code. -/
theorem gainFactor_lt_succ : ∀ code < 240, gainFactor code < gainFactor (code + 1) := by
  decide +kernel

/-- R3: a higher code has a higher factor. -/
theorem gainFactor_lt {a b : Nat} (hab : a < b) (hb : b ≤ 240) : gainFactor a < gainFactor b := by
  induction b, hab using Nat.le_induction with
  | base => exact gainFactor_lt_succ a hb
  | succ b _ ih => exact (ih (by omega)).trans (gainFactor_lt_succ b hb)

theorem gainFactor_le {a b : Nat} (hab : a ≤ b) (hb : b ≤ 240) : gainFactor a ≤ gainFactor b := by
  obtain rfl | hlt := Nat.eq_or_lt_of_le hab
  · exact le_rfl
  · exact (gainFactor_lt hlt hb).le

/-- R3: the factors run from that of code 0 to that of code 240. -/
theorem gainFactor_range {code : Nat} (h : code ≤ 240) : 0 ≤ gainFactor code ∧ gainFactor code ≤ 16777216 :=
  ⟨gainFactor_le (Nat.zero_le code) h, gainFactor_le h le_rfl⟩

/-! ## Moving gains -/

/-- R9: the factor of a sample lies between the factor of the frame before and the frame's own. -/
theorem sampleFactor_between (old new : Int) {k : Nat} (hk : k < 32) :
    min old new ≤ sampleFactor old new k ∧ sampleFactor old new k ≤ max old new := by
  have hshare := ediv_share_between (new - old) (k := (k : Int) + 1) (n := 32) (h := 0)
    (by omega) (by omega) le_rfl (by decide)
  rw [Int.add_zero] at hshare
  obtain ⟨hup, hdown⟩ := hshare
  unfold sampleFactor
  rcases le_total old new with h | h
  · have := hup (by omega)
    omega
  · have := hdown (by omega)
    omega

/-- R9: the last sample of the frame has the frame's own factor. -/
@[simp] theorem sampleFactor_last (old new : Int) : sampleFactor old new 31 = new := by
  unfold sampleFactor
  omega

/-- R9: the factor is rounded toward minus infinity. -/
theorem sampleFactor_rounds_down (old new : Int) (k : Nat) :
    32 * (sampleFactor old new k - old) ≤ (new - old) * (k + 1) ∧
    (new - old) * (k + 1) < 32 * (sampleFactor old new k - old + 1) := by
  unfold sampleFactor
  omega

/-- Settles O10: each clause is the law of one operation, that of the factors over the two signs of q. -/
theorem levelRoundsHalfUpAndNeverGrowsBelowUnity : Obligations.LevelRoundsHalfUpAndNeverGrowsBelowUnity := by
  unfold Obligations.LevelRoundsHalfUpAndNeverGrowsBelowUnity
  refine ⟨fun x g => ⟨level_rounds_half_up x g, level_zero_factor x, level_unity x, level_between x⟩,
    gainFactor_zero, fun code q j m hpos _ hcode hm => ⟨?up, ?down⟩, fun a b hab hb => ?order, fun old new k hk => ?moving⟩
  case up =>
    rintro n rfl
    exact gainFactor_of_octave_up hpos hcode hm
  case down =>
    rintro n rfl
    rw [gainFactor_of_octave_down hpos hcode hm]
    exact ediv_pow_rounds_half_up m n
  case order =>
    exact ⟨(gainFactor_range (hab.le.trans hb)).1, gainFactor_lt hab hb, (gainFactor_range hb).2⟩
  case moving =>
    obtain ⟨hlow, hhigh⟩ := sampleFactor_between old new hk
    exact ⟨hlow, hhigh, sampleFactor_last old new, sampleFactor_rounds_down old new k⟩

/-! ## The four-frame code ramp -/

/-- R10: up to frame 4 the law gives no negative code, so it holds of the code as a number. -/
theorem rampCode_cast (start target : Nat) {k : Nat} (hk : k ≤ 4) :
    (rampCode start target k : Int) = start + ((target : Int) - start) * k / 4 := by
  have hshare := ediv_share_between ((target : Int) - start) (k := k) (n := 4) (h := 0)
    (by omega) (by omega) le_rfl (by decide)
  rw [Int.add_zero] at hshare
  obtain ⟨hup, hdown⟩ := hshare
  refine Int.toNat_of_nonneg ?_
  rcases le_total 0 ((target : Int) - start) with h | h
  · have := hup h
    omega
  · have := hdown h
    omega

@[simp] theorem rampCode_zero (start target : Nat) : rampCode start target 0 = start := by
  simp [rampCode]

@[simp] theorem rampCode_four (start target : Nat) : rampCode start target 4 = target := by
  have := rampCode_cast start target (k := 4) le_rfl
  omega

@[simp] theorem rampCode_self (code k : Nat) : rampCode code code k = code := by
  simp [rampCode]

@[simp] theorem Ramp.retarget_code (r : Ramp) (target : Nat) : (r.retarget target).code = r.code := by
  unfold Ramp.retarget
  split <;> rfl

@[simp] theorem Ramp.retarget_prev (r : Ramp) (target : Nat) : (r.retarget target).prev = r.prev := by
  unfold Ramp.retarget
  split <;> rfl

/-- R10: the code reached ends the ramp as its own target. -/
theorem Ramp.retarget_self_done (r : Ramp) : (r.retarget r.code).done = 4 := by
  simp [Ramp.retarget]

/-- R10: another target begins a ramp at the code reached. -/
theorem Ramp.retarget_of_ne {r : Ramp} {target : Nat} (h : target ≠ r.code) :
    r.retarget target = { r with start := r.code, target := target, done := 0 } := by
  simp [Ramp.retarget, h]

theorem Ramp.advance_of_running {r : Ramp} (h : r.done < 4) :
    r.advance = { r with code := rampCode r.start r.target (r.done + 1), done := r.done + 1 } := by
  simp [Ramp.advance, h]

theorem Ramp.advance_of_done {r : Ramp} (h : r.done = 4) : r.advance = r := by
  simp [Ramp.advance, h]

/-- R10: a ramp that has run its frames stays as it is. -/
theorem Ramp.repeat_advance_of_done {r : Ramp} (h : r.done = 4) (k : Nat) : k.repeat Ramp.advance r = r := by
  induction k with
  | zero => rfl
  | succ k ih => rw [Nat.repeat, ih, Ramp.advance_of_done h]

/-- R10: the ramp begun by a new target, after k frames; from frame 4 on it is what frame 4 left. -/
theorem Ramp.repeat_advance_retarget_of_ne {r : Ramp} {target : Nat} (hne : target ≠ r.code) (k : Nat) :
    k.repeat Ramp.advance (r.retarget target) =
      { r with code := rampCode r.code target (min k 4), start := r.code, target := target, done := min k 4 } := by
  induction k with
  | zero => simp [Nat.repeat, Ramp.retarget_of_ne hne]
  | succ k ih =>
    rw [Nat.repeat, ih]
    rcases Nat.lt_or_ge k 4 with h | h
    · rw [Ramp.advance_of_running (by simp [h])]
      simp [Nat.min_eq_left h.le, Nat.min_eq_left (Nat.succ_le_of_lt h)]
    · rw [Ramp.advance_of_done (by simp [h]), Nat.min_eq_right h, Nat.min_eq_right (Nat.le_succ_of_le h)]

/-- R10: the code k frames after a target was taken, for every k and every target. -/
theorem Ramp.repeat_advance_retarget_code (r : Ramp) (target k : Nat) :
    (k.repeat Ramp.advance (r.retarget target)).code = rampCode r.code target (min k 4) := by
  by_cases h : target = r.code
  · subst h
    rw [Ramp.repeat_advance_of_done r.retarget_self_done, Ramp.retarget_code, rampCode_self]
  · rw [Ramp.repeat_advance_retarget_of_ne h]

/-- Settles O11: the four clauses are values of the ramp's law at min k 4. -/
theorem rampReachesItsTargetInFourFrames : Obligations.RampReachesItsTargetInFourFrames := by
  unfold Obligations.RampReachesItsTargetInFourFrames
  intro r target
  refine ⟨r.retarget_code target, r.retarget_prev target, fun k _ hk => ?law, fun k hk => ?reached, ?ended⟩
  case law =>
    rw [Ramp.repeat_advance_retarget_code, Nat.min_eq_left hk, rampCode_cast r.code target hk]
  case reached =>
    rw [Ramp.repeat_advance_retarget_code, Nat.min_eq_right hk, rampCode_four]
  case ended =>
    rintro rfl k
    rw [Ramp.repeat_advance_retarget_code, rampCode_self]

end Sys2Proof.Machine
end

section
/-! PROOFS. The curve table's requests (R46 to R48). The checks of the requests are decided on Booleans; the facts here say
what each check means, and each request's meaning is then read off branch by branch. -/

namespace Sys2Proof.Machine

/-! ## The checks of R42 and R46 -/

/-- R46: a name is refused for its length, or for a character outside 32..126. -/
theorem nameOk_eq_false_iff (most : Nat) (name : List Byte) :
    nameOk most name = false ↔ most < name.length ∨ ∃ c ∈ name, c.toNat < 32 ∨ 126 < c.toNat := by
  simp only [nameOk, Bool.and_eq_false_iff, decide_eq_false_iff_not, List.all_eq_false, Bool.and_eq_true,
    decide_eq_true_eq, not_le, Decidable.not_and_iff_not_or_not]

/-- R42: x rises from each breakpoint to the next. -/
theorem risingX_iff_isChain (points : List (Int × Int)) :
    risingX points = true ↔ points.IsChain (fun p q => p.1 < q.1) := by
  induction points using risingX.induct with
  | case1 => simp [risingX]
  | case2 p => simp [risingX]
  | case3 p q rest ih => simp [risingX, ih]

/-- R42: x rises between any two breakpoints, as < is transitive. -/
theorem risingX_iff_pairwise (points : List (Int × Int)) :
    risingX points = true ↔ (points.map Prod.fst).Pairwise (· < ·) := by
  rw [risingX_iff_isChain, ← List.isChain_iff_pairwise, List.isChain_map]

/-- R42: the shape rules of a breakpoint list. -/
theorem curveShapeOk_iff (points : List (Int × Int)) :
    curveShapeOk points = true ↔
      2 ≤ points.length ∧ points.length ≤ 16 ∧ (points.map Prod.fst).Pairwise (· < ·) ∧
      points.head?.map Prod.fst = some (-8388608) ∧ points.getLast?.map Prod.fst = some 8388607 ∧
      (∀ p ∈ points, -8388608 ≤ p.2 ∧ p.2 ≤ 8388607) := by
  simp only [curveShapeOk, Bool.and_eq_true, decide_eq_true_eq, beq_iff_eq, List.all_eq_true, risingX_iff_pairwise,
    and_assoc]

/-! ## The reply of CURVE_READ -/

/-- R48: the fields of the reply, field by field. -/
theorem curveFields_eq (index : Nat) (e : CurveEntry) :
    curveFields index e =
      wBytes e.name ++ [.u 1 (if index ≤ 3 then 1 else 0), .u 1 e.refs, .u 1 e.points.length] ++
        e.points.flatMap (fun p => [.s 3 p.1, .s 3 p.2]) := by
  simp only [curveFields, wFlag, wList, Bool.toNat, Bool.cond_decide, List.append_assoc, List.cons_append, List.nil_append]

/-! ## The requests on a part that is ready -/

theorem exec_curveWrite_of_ready {s : State} (ready : Ready s) (tag : Byte) (index : Nat) (name : List Byte)
    (points : List (Int × Int)) :
    exec (.curveWrite tag index name points) s =
      .next ((reqCurveWrite index name points s).1.replied tag 0x04 (reqCurveWrite index name points s).2.code
        (reqCurveWrite index name points s).2.fields) :=
  congrArg Host.Outcome.next (State.arrival_ready ready tag (.curveWrite index name points))

theorem exec_curveErase_of_ready {s : State} (ready : Ready s) (tag : Byte) (index : Nat) :
    exec (.curveErase tag index) s =
      .next ((reqCurveErase index s).1.replied tag 0x06 (reqCurveErase index s).2.code (reqCurveErase index s).2.fields) :=
  congrArg Host.Outcome.next (State.arrival_ready ready tag (.curveErase index))

theorem exec_curveRead_of_ready {s : State} (ready : Ready s) (tag : Byte) (index : Nat) :
    exec (.curveRead tag index) s =
      .next ((reqCurveRead index s).1.replied tag 0x05 (reqCurveRead index s).2.code (reqCurveRead index s).2.fields) :=
  congrArg Host.Outcome.next (State.arrival_ready ready tag (.curveRead index))

/-- Settles O18: with the name, the shape and the fields under the model's own names, the statement and the request make the
same checks in the same order, and each branch is what `refuse` and `answer` are. -/
theorem curveRequestsFollowTheirChecks : Obligations.CurveRequestsFollowTheirChecks := by
  unfold Obligations.CurveRequestsFollowTheirChecks
  refine ⟨fun s tag index name points ready => ?write, fun s tag index ready => ⟨?erase, ?read⟩⟩
  case write =>
    simp only [exec_curveWrite_of_ready ready, reqCurveWrite, State.curveEntry, ← nameOk_eq_false_iff, ← curveShapeOk_iff,
      Bool.not_eq_true', ← Bool.not_eq_true (curveShapeOk points), ite_not]
    split_ifs with outside badName builtIn used wellShaped <;> rfl
  case erase =>
    simp only [exec_curveErase_of_ready ready, reqCurveErase, State.curveEntry, List.isEmpty_iff]
    split_ifs with outside builtIn used unwritten <;> rfl
  case read =>
    simp only [exec_curveRead_of_ready ready, reqCurveRead, State.curveEntry, ← curveFields_eq, List.isEmpty_iff]
    split_ifs with outside unwritten <;> rfl

end Sys2Proof.Machine
end

section
/-! PROOFS. The staging record's requests PRESET_BEGIN (R76), PRESET_MAP (R79) and PRESET_SATMSG (R80). The header's decoder
answers exactly for the fields in range, and its answer is the header with the numeric fields clamped. -/

namespace Sys2Proof.Machine

/-! ## The enumerated fields of a header -/

/-- R52: the input mode of a number is the mode whose code it is. -/
theorem inputModeOf_eq_some_iff {n : Nat} {m : InputMode} : inputModeOf n = some m ↔ m.code = n := by
  match n with
  | 0 | 1 | 2 => cases m <;> simp [inputModeOf, InputMode.code]
  | n + 3 => cases m <;> simp [inputModeOf, InputMode.code]

theorem inputModeOf_isSome_iff (n : Nat) : (inputModeOf n).isSome = true ↔ n ≤ 2 := by
  match n with
  | 0 | 1 | 2 => simp [inputModeOf]
  | n + 3 => simp [inputModeOf]

/-- R73: the spill policy of a number is the policy whose code it is. -/
theorem policyOf_eq_some_iff {n : Nat} {p : SpillPolicy} : policyOf n = some p ↔ p.code = n := by
  match n with
  | 0 | 1 => cases p <;> simp [policyOf, SpillPolicy.code]
  | n + 2 => cases p <;> simp [policyOf, SpillPolicy.code]

theorem policyOf_isSome_iff (n : Nat) : (policyOf n).isSome = true ↔ n ≤ 1 := by
  match n with
  | 0 | 1 => simp [policyOf]
  | n + 2 => simp [policyOf]

/-- R73: the quantize value of a number is the value whose code it is. -/
theorem quantizeOf_eq_some_iff {n : Nat} {q : Quantize} : quantizeOf n = some q ↔ q.code = n := by
  match n with
  | 0 | 1 | 2 => cases q <;> simp [quantizeOf, Quantize.code]
  | n + 3 => cases q <;> simp [quantizeOf, Quantize.code]

theorem quantizeOf_isSome_iff (n : Nat) : (quantizeOf n).isSome = true ↔ n ≤ 2 := by
  match n with
  | 0 | 1 | 2 => simp [quantizeOf]
  | n + 3 => simp [quantizeOf]

/-! ## The checks and clamps of R76 -/

/-- R76: a name is accepted for its length and its characters. -/
theorem nameOk_iff (most : Nat) (name : List Byte) :
    nameOk most name = true ↔ name.length ≤ most ∧ ∀ c ∈ name, 32 ≤ c.toNat ∧ c.toNat ≤ 126 := by
  simp only [nameOk, Bool.and_eq_true, decide_eq_true_eq, List.all_eq_true]

theorem clampRow_eq (r : MatrixRow) :
    clampRow r = { main := min 240 r.main, dry := min 240 r.dry, aux := min 240 r.aux } := by
  simp only [clampRow, clampNat_eq _ (Nat.zero_le 240), Nat.zero_max]

/-- R76: the fields that are refused, and not clamped, are values of their kinds. -/
def headerInRange (f : HeaderFields) : Prop :=
  f.inputMode ≤ 2 ∧ f.policy ≤ 1 ∧ f.quantize ≤ 2 ∧
  f.nPre ≤ 16 ∧ f.nX ≤ 16 ∧ f.nY ≤ 16 ∧ f.nPost ≤ 16 ∧
  1 ≤ f.nPre + f.nX + f.nY + f.nPost ∧ f.nPre + f.nX + f.nY + f.nPost ≤ 16 ∧
  f.defaultScene ≤ 7 ∧ f.name.length ≤ 16 ∧ (∀ c ∈ f.name, 32 ≤ c.toNat ∧ c.toNat ≤ 126)

/-- R76: the header of the fields, the numeric fields clamped. -/
def clampedHeader (f : HeaderFields) (mode : InputMode) (policy : SpillPolicy) (quantize : Quantize) : Header :=
  { name := f.name, inputMode := mode, inputLevel := min 192 f.inputLevel, nPre := f.nPre, nX := f.nX, nY := f.nY,
    nPost := f.nPost, gX := min 240 f.gX, gY := min 240 f.gY, outputMatrix := f.outputMatrix.map clampRow,
    frames := max 1 (min 64 f.frames), policy := policy, spillLimit := min 8000 f.spillLimit, quantize := quantize,
    tempo := f.tempo.map (fun t => max 400 (min 3000 t)), defaultScene := f.defaultScene }

theorem headerOf_of_headerInRange {f : HeaderFields} (inRange : headerInRange f) :
    ∃ mode policy quantize, mode.code = f.inputMode ∧ policy.code = f.policy ∧ quantize.code = f.quantize ∧
      headerOf f = some (clampedHeader f mode policy quantize) := by
  obtain ⟨hmode, hpolicy, hquantize, hpre, hx, hy, hpost, hmin, hmax, hscene, hname⟩ := inRange
  obtain ⟨mode, emode⟩ := Option.isSome_iff_exists.mp ((inputModeOf_isSome_iff _).mpr hmode)
  obtain ⟨policy, epolicy⟩ := Option.isSome_iff_exists.mp ((policyOf_isSome_iff _).mpr hpolicy)
  obtain ⟨quantize, equantize⟩ := Option.isSome_iff_exists.mp ((quantizeOf_isSome_iff _).mpr hquantize)
  have counts : countsOk f = true := decide_eq_true ⟨hpre, hx, hy, hpost, hmin, hmax⟩
  have name : nameOk 16 f.name = true := (nameOk_iff 16 f.name).mpr hname
  refine ⟨mode, policy, quantize, inputModeOf_eq_some_iff.mp emode, policyOf_eq_some_iff.mp epolicy,
    quantizeOf_eq_some_iff.mp equantize, ?_⟩
  simp [headerOf, clampedHeader, emode, epolicy, equantize, counts, name, hscene, clampNat_eq,
    funext (fun v => clampNat_eq (lo := 400) (hi := 3000) v (by decide))]

theorem headerInRange_of_headerOf {f : HeaderFields} {h : Header} (e : headerOf f = some h) : headerInRange f := by
  unfold headerOf at e
  split at e
  · next mode policy quantize emode epolicy equantize =>
    split at e
    · next checks =>
      simp only [Bool.and_eq_true, decide_eq_true_eq, countsOk, nameOk_iff] at checks
      obtain ⟨⟨⟨hpre, hx, hy, hpost, hmin, hmax⟩, hscene⟩, hlength, hchars⟩ := checks
      exact ⟨(inputModeOf_isSome_iff _).mp (by simp [emode]), (policyOf_isSome_iff _).mp (by simp [epolicy]),
        (quantizeOf_isSome_iff _).mp (by simp [equantize]), hpre, hx, hy, hpost, hmin, hmax, hscene, hlength, hchars⟩
    · cases e
  · cases e

/-- R76: CLAMPED unless every numeric field is held as it was given. -/
theorem okOr_headerClamped (f : HeaderFields) (h : Header) :
    okOr (headerClamped f h) =
      if h.inputLevel = f.inputLevel ∧ h.gX = f.gX ∧ h.gY = f.gY ∧ h.outputMatrix = f.outputMatrix ∧
        h.frames = f.frames ∧ h.spillLimit = f.spillLimit ∧ h.tempo = f.tempo then .ok else .clamped := by
  split_ifs with same
  · simp [okOr, headerClamped, same]
  · have clamped : headerClamped f h = true := by
      by_contra unclamped
      simp only [headerClamped, Bool.not_eq_true, Bool.or_eq_false_iff, bne_eq_false_iff_eq, and_assoc] at unclamped
      exact same unclamped
    rw [clamped]; rfl

/-! ## The requests on a part that is ready -/

theorem exec_presetBegin_of_ready {s : State} (ready : Ready s) (tag : Byte) (location : Nat) (f : HeaderFields) :
    exec (.presetBegin tag location f) s =
      .next ((reqPresetBegin location f s).1.replied tag 0x0D (reqPresetBegin location f s).2.code
        (reqPresetBegin location f s).2.fields) :=
  congrArg Host.Outcome.next (State.arrival_ready ready tag (.presetBegin location f))

theorem exec_presetMap_of_ready {s : State} (ready : Ready s) (tag : Byte) (key : RawKey) (targets : List RawTarget) :
    exec (.presetMap tag key targets) s =
      .next ((reqPresetMap key targets s).1.replied tag 0x10 (reqPresetMap key targets s).2.code
        (reqPresetMap key targets s).2.fields) :=
  congrArg Host.Outcome.next (State.arrival_ready ready tag (.presetMap key targets))

theorem exec_presetSatmsg_of_ready {s : State} (ready : Ready s) (tag : Byte) (address : Nat) (payload : List Byte) :
    exec (.presetSatmsg tag address payload) s =
      .next ((reqPresetSatmsg address payload s).1.replied tag 0x11 (reqPresetSatmsg address payload s).2.code
        (reqPresetSatmsg address payload s).2.fields) :=
  congrArg Host.Outcome.next (State.arrival_ready ready tag (.presetSatmsg address payload))

/-! ## PRESET_BEGIN -/

theorem reqPresetBegin_of_headerOf {location : Nat} {f : HeaderFields} {h : Header} (hl : location ≤ 255)
    (e : headerOf f = some h) (s : State) :
    reqPresetBegin location f s =
      answer { s with staging := some (Staging.begin location h) }
        (if s.staging.isSome then .replaced else okOr (headerClamped f h)) (wHeader h) := by
  simp only [reqPresetBegin, e, if_neg (Nat.not_lt.mpr hl)]

theorem reqPresetBegin_of_bad {location : Nat} {f : HeaderFields} (bad : ¬ (location ≤ 255 ∧ headerInRange f)) (s : State) :
    reqPresetBegin location f s = refuse s .outOfRange := by
  unfold reqPresetBegin
  split
  · rfl
  · next h e => exact if_pos (Nat.lt_of_not_le fun hl => bad ⟨hl, headerInRange_of_headerOf e⟩)

/-- Settles O26: the fields are in range exactly when `headerOf` answers, and then its header is the fields clamped. -/
theorem presetBeginOpensTheStagingRecord : Obligations.PresetBeginOpensTheStagingRecord := by
  unfold Obligations.PresetBeginOpensTheStagingRecord
  intro s tag location f ready
  rw [exec_presetBegin_of_ready ready]
  split
  case isTrue valid =>
    obtain ⟨hl, inRange⟩ := valid
    obtain ⟨mode, policy, quantize, hmode, hpolicy, hquantize, e⟩ := headerOf_of_headerInRange inRange
    have row (o : MainOut) := (PerMain.get_map clampRow f.outputMatrix o).trans (clampRow_eq _)
    refine ⟨clampedHeader f mode policy quantize, ?_, rfl, hmode, hpolicy, hquantize, rfl, rfl, rfl, rfl, rfl, rfl, rfl, rfl,
      row, rfl, rfl, rfl⟩
    simp only [reqPresetBegin_of_headerOf hl e, okOr_headerClamped]
    rfl
  case isFalse bad =>
    rw [reqPresetBegin_of_bad bad]
    rfl

/-! ## PRESET_MAP and PRESET_SATMSG -/

/-- R79: the overlay already holds an entry with the key. -/
theorem any_key_iff (entries : List MapEntry) (k : MapKey) :
    entries.any (fun x => x.key == k) = true ↔ ∃ x ∈ entries, x.key = k := by
  simp only [List.any_eq_true, beq_iff_eq]

/-- Settles O28: with no record open both refuse; else the statement
makes each request's checks in the request's order. -/
theorem presetListsGrowToTheirCapacity : Obligations.PresetListsGrowToTheirCapacity := by
  unfold Obligations.PresetListsGrowToTheirCapacity
  intro s tag key targets address payload ready
  rw [exec_presetMap_of_ready ready, exec_presetSatmsg_of_ready ready]
  cases staging : s.staging with
  | none => simp only [reqPresetMap, reqPresetSatmsg, staging, refuse, and_self]
  | some st =>
    refine ⟨?map, ?message⟩
    case map =>
      cases entry : entryOf key targets with
      | error n => simp only [reqPresetMap, staging, entry, refuse]
      | ok e =>
        simp only [reqPresetMap, staging, entry, any_key_iff]
        split_ifs with held full <;> rfl
    case message =>
      simp only [reqPresetSatmsg, staging]
      split_ifs with full outside <;> rfl

end Sys2Proof.Machine
end

section
/-! PROOFS. What every command keeps, as one relation between a state and a later one; notices posted and display messages placed keep it. -/
namespace Sys2Proof.Machine

/-- What every command keeps (R15, R42, R91 to R93, R101, R135 to R139, R153, R156, R166, R187, R191, R195), from one state to a
later one: the waiting commands, and each of the invariants on its own. -/
structure State.Keeps (s t : State) : Prop where
  pending : t.pending = s.pending
  bounded : s.queuesBounded → t.queuesBounded
  builtIns : s.builtInsKept → t.builtInsKept
  roles : s.rolesCoherent ∧ s.restingByQueue → t.rolesCoherent ∧ t.restingByQueue
  tuner : s.tunerCoherent → t.tunerCoherent
  held : s.holdOffsCurrent → t.holdOffsCurrent
  sat : s.satelliteCoherent → t.satelliteCoherent
  links : s.linksCoherent → t.linksCoherent

namespace State.Keeps

theorem refl (s : State) : s.Keeps s := ⟨rfl, id, id, id, id, id, id, id⟩

theorem trans {s t u : State} (h : s.Keeps t) (k : t.Keeps u) : s.Keeps u :=
  ⟨k.pending.trans h.pending, k.bounded ∘ h.bounded, k.builtIns ∘ h.builtIns, k.roles ∘ h.roles, k.tuner ∘ h.tuner,
    k.held ∘ h.held, k.sat ∘ h.sat, k.links ∘ h.links⟩

theorem foldl {α : Type} {f : State → α → State} (h : ∀ (s : State) (x : α), s.Keeps (f s x)) (xs : List α) (s : State) :
    s.Keeps (xs.foldl f s) := by
  induction xs generalizing s with
  | nil => exact refl s
  | cons x xs ih => exact (h s x).trans (ih _)

end State.Keeps

/-! ## Notices and display messages -/

theorem removeOldestCoalescable_subset (q : List Notice) : ∀ n ∈ removeOldestCoalescable q, n ∈ q := by
  induction q with
  | nil => exact fun n h => h
  | cons m rest ih =>
    unfold removeOldestCoalescable
    split
    · exact fun n h => List.mem_cons_of_mem _ h
    · intro n h
      rcases List.mem_cons.mp h with rfl | h
      · exact List.mem_cons_self
      · exact List.mem_cons_of_mem _ (ih n h)

/-- R202: a queue that holds a coalescable notice gives one up. -/
theorem removeOldestCoalescable_length {q : List Notice} (h : q.any (fun n => n.body.coalescable) = true) :
    (removeOldestCoalescable q).length + 1 = q.length := by
  induction q with
  | nil => simp at h
  | cons m rest ih =>
    unfold removeOldestCoalescable
    by_cases k : m.body.coalescable = true
    · simp [k]
    · rw [if_neg k, List.length_cons, ih (by simpa [k] using h), List.length_cons]

/-- R202: a posting keeps the capacity of the notice queue. -/
theorem NoticeQueue.post_length {q : NoticeQueue} (h : q.queue.length ≤ 32) (routed : Bool) (n : Notice) :
    (q.post routed n).queue.length ≤ 32 := by
  unfold NoticeQueue.post
  split
  · simpa using h
  · split
    · next k =>
      have k' : q.queue.length < 32 := k
      simp only [List.length_append, List.length_singleton]
      omega
    · split
      · next k =>
        have := removeOldestCoalescable_length k
        simp only [List.length_append, List.length_singleton]
        omega
      · unfold NoticeQueue.drop
        dsimp only
        split
        · simpa using h
        · exact h
        · split <;> exact h

theorem raiseOverflow_isReading (n : Notice) : (raiseOverflow n).isReading = n.isReading := by
  unfold raiseOverflow
  split
  · next e => simp [Notice.isReading, e, NoticeBody.kind]
  · rfl

theorem NoticeBody.sameKey_kind {a b : NoticeBody} (h : a.sameKey b = true) : a.kind = b.kind := by
  cases a <;> cases b <;> simp_all [NoticeBody.sameKey, NoticeBody.kind]

/-- R202: a posting of another kind brings no TUNER_READING into the queue. -/
theorem NoticeQueue.post_readings {q : NoticeQueue} (h : q.queue.all (fun m => !m.isReading) = true) (routed : Bool)
    {n : Notice} (hn : n.isReading = false) : (q.post routed n).queue.all (fun m => !m.isReading) = true := by
  rw [List.all_eq_true] at h
  unfold NoticeQueue.post
  split
  · rw [List.all_map, List.all_eq_true]
    intro m hm
    dsimp only [Function.comp]
    split
    · simp [hn]
    · exact h m hm
  · split
    · rw [List.all_append, Bool.and_eq_true, List.all_eq_true]
      exact ⟨h, by simp [hn]⟩
    · split
      · rw [List.all_append, Bool.and_eq_true, List.all_eq_true]
        exact ⟨fun m hm => h m (removeOldestCoalescable_subset _ m hm), by simp [hn]⟩
      · have raised : (q.queue.map raiseOverflow).all (fun m => !m.isReading) = true := by
          rw [List.all_map, List.all_eq_true]
          exact fun m hm => (congrArg (!·) (raiseOverflow_isReading m)).trans (h m hm)
        unfold NoticeQueue.drop
        dsimp only
        split
        · exact raised
        · exact List.all_eq_true.mpr h
        · split <;> exact List.all_eq_true.mpr h

/-- R153, R156, R166: what `linksCoherent` says of one link. -/
def PedalLink.coherent (p : PedalLink) : Prop :=
  p.switches.length = 32 ∧ p.positions.length = 4 ∧ p.quietIfAbsent ∧ (p.display.map DisplayMsg.key).Nodup

theorem State.linksCoherent_iff (s : State) : s.linksCoherent ↔ ∀ l, (s.pedals.get l).coherent := Iff.rfl

/-- R166: a message is placed on a PRESENT link alone. -/
theorem PedalLink.coherent_place {p : PedalLink} (h : p.coherent) (m : DisplayMsg) : (p.place m).coherent := by
  obtain ⟨switches, positions, quiet, keys⟩ := h
  unfold PedalLink.place
  split
  · exact ⟨switches, positions, quiet, keys⟩
  · next i present =>
    split
    · exact ⟨switches, positions, fun absent => by simp [present] at absent, placeInQueue_nodup keys m⟩
    · exact ⟨switches, positions, quiet, keys⟩

theorem State.linkWith_coherent {s : State} {l : Link} (h : (s.pedals.get l).coherent) (body : NoticeBody) :
    (s.linkWith body l).coherent := by
  unfold State.linkWith
  split
  · exact h
  · split
    · split
      · exact h
      · exact PedalLink.coherent_place h _
    · exact h

theorem State.post_notices (s : State) (body : NoticeBody) (tag : Byte) :
    (s.post body tag).notices = (s.postControl body tag).notices := by
  unfold State.post
  rw [State.renderOn_only _ body .b, State.renderOn_only _ body .a]

/-- R202, R204: a posting keeps the invariants; a TUNER_READING may be posted only while the tuner is not OFF. -/
theorem State.post_keeps (s : State) (body : NoticeBody) (tag : Byte)
    (h : body.kind = .tunerReading → s.tuner.state ≠ .off) : s.Keeps (s.post body tag) where
  pending := State.post_pending s body tag
  bounded b := by
    unfold State.queuesBounded
    rw [State.post_notices, State.post_control, State.post_engine, State.post_sat, State.post_map]
    refine ⟨?_, b.2⟩
    unfold State.postControl
    split
    · exact NoticeQueue.post_length b.1 _ _
    · exact b.1
  builtIns b := by unfold State.builtInsKept; rwa [State.post_curves]
  roles b := by
    unfold State.rolesCoherent State.restingByQueue State.rolesIn
    rwa [State.post_buffers, State.post_engine]
  tuner b := by
    obtain ⟨engaged, off, muted⟩ := b
    unfold State.tunerCoherent
    rw [State.post_tuner, State.post_mains, State.post_notices]
    refine ⟨engaged, fun e => ⟨(off e).1, ?_⟩, muted⟩
    unfold State.postControl
    split
    · refine NoticeQueue.post_readings (off e).2 _ ?_
      simpa [Notice.isReading] using fun k => h k e
    · exact (off e).2
  held b := by
    unfold State.holdOffsCurrent
    rwa [State.post_engine, State.post_tuner, State.post_sat, State.post_loops]
  sat b := by unfold State.satelliteCoherent; rwa [State.post_sat]
  links b l := by
    rw [State.post_link]
    exact State.linkWith_coherent (b l) body

end Sys2Proof.Machine
end

section
/-! PROOFS. The engine's records, the queue of requests, the law of the buffer roles and the curve table: what keeps them. -/
namespace Sys2Proof.Machine

/-! ## The engine's records -/

/-- The invariants speak of the engine through its state, its switch under way, its queue, the lengths of its lists, and its
hold-offs and settings. -/
theorem State.setEngine_keeps {s : State} {e : Engine} (hs : e.state = s.engine.state) (hc : e.current = s.engine.current)
    (hq : e.queue = s.engine.queue) (hh : s.engine.history.length ≤ 16 → e.history.length ≤ 16)
    (hr : s.engine.rateHistory.length ≤ 8 → e.rateHistory.length ≤ 8) (ho : e.settings = s.engine.settings)
    (ht : e.holdOffs.tuner = s.engine.holdOffs.tuner) (ha : e.holdOffs.satellite = s.engine.holdOffs.satellite)
    (hm : e.holdOffs.measure = s.engine.holdOffs.measure) : s.Keeps (s.setEngine e) where
  pending := rfl
  bounded b := by
    obtain ⟨notices, replies, hold, queue, history, rate, rest⟩ := b
    exact ⟨notices, replies, hold, by rwa [State.setEngine_engine, hq], hh history, hr rate, rest⟩
  builtIns := id
  roles b := by
    unfold State.rolesCoherent State.restingByQueue at *
    rwa [State.setEngine_engine, hs, hc, hq]
  tuner := id
  held b := by
    unfold State.holdOffsCurrent at *
    rwa [State.setEngine_engine, ho, ht, ha, hm]
  sat := id
  links := id

theorem State.pushHistory_keeps (s : State) (h : HistoryRecord) : s.Keeps (s.pushHistory h) :=
  State.setEngine_keeps rfl rfl rfl (fun _ => List.length_take_le _ _) id rfl rfl rfl rfl

theorem State.editHistory_keeps (s : State) (f : HistoryRecord → HistoryRecord) : s.Keeps (s.editHistory f) := by
  unfold State.editHistory
  split
  · exact .refl s
  · next e => exact State.setEngine_keeps rfl rfl rfl (fun h => by simpa [e] using h) id rfl rfl rfl rfl

theorem State.recordStart_keeps (s : State) : s.Keeps s.recordStart :=
  State.setEngine_keeps rfl rfl rfl id (fun _ => List.length_take_le _ _) rfl rfl rfl rfl

/-- R102, R103: RATE and HOST are free of the invariants. -/
theorem State.setHoldOffs_keeps {s : State} {h : HoldOffs} (ht : h.tuner = s.engine.holdOffs.tuner)
    (ha : h.satellite = s.engine.holdOffs.satellite) (hm : h.measure = s.engine.holdOffs.measure) :
    s.Keeps (s.setHoldOffs h) := State.setEngine_keeps rfl rfl rfl id id rfl ht ha hm

theorem State.testRate_keeps (s : State) : s.Keeps s.testRate := State.setHoldOffs_keeps rfl rfl rfl

/-- R101: after a look at the conditions the hold-off set is current, whatever it was. -/
theorem State.syncHoldOffs_current (s : State) : s.syncHoldOffs.holdOffsCurrent := by
  simp [State.holdOffsCurrent, State.syncHoldOffs, State.setHoldOffs, State.holdOffsNow, Satellite.condition, State.setEngine]

/-- R101: a change of the state followed by a look at the conditions keeps what the change keeps besides the hold-off set. -/
theorem State.syncHoldOffs_keeps {s t : State} (pending : t.pending = s.pending) (bounded : s.queuesBounded → t.queuesBounded)
    (builtIns : s.builtInsKept → t.builtInsKept)
    (roles : s.rolesCoherent ∧ s.restingByQueue → t.rolesCoherent ∧ t.restingByQueue)
    (tuner : s.tunerCoherent → t.tunerCoherent) (sat : s.satelliteCoherent → t.satelliteCoherent)
    (links : s.linksCoherent → t.linksCoherent) : s.Keeps t.syncHoldOffs :=
  ⟨pending, bounded, builtIns, roles, tuner, fun _ => t.syncHoldOffs_current, sat, links⟩

/-! ## The queue -/

@[simp] theorem Engine.settle_queue (e : Engine) : e.settle.queue = e.queue := by unfold Engine.settle; split <;> rfl
@[simp] theorem Engine.settle_current (e : Engine) : e.settle.current = e.current := by unfold Engine.settle; split <;> rfl
@[simp] theorem Engine.settle_history (e : Engine) : e.settle.history = e.history := by unfold Engine.settle; split <;> rfl
@[simp] theorem Engine.settle_rateHistory (e : Engine) : e.settle.rateHistory = e.rateHistory := by
  unfold Engine.settle; split <;> rfl
@[simp] theorem Engine.settle_settings (e : Engine) : e.settle.settings = e.settings := by unfold Engine.settle; split <;> rfl
@[simp] theorem Engine.settle_holdOffs (e : Engine) : e.settle.holdOffs = e.holdOffs := by unfold Engine.settle; split <;> rfl

/-- R93: settling moves the engine only between IDLE and WAITING. -/
theorem Engine.settle_state_of_busy {e : Engine} (h : e.state.resting = false) : e.settle.state = e.state := by
  simp [Engine.settle, h]

theorem Engine.settle_state_of_resting {e : Engine} (h : e.state.resting = true) :
    e.settle.state = if e.queue.isEmpty then .idle else .waiting := by
  simp [Engine.settle, h]

@[simp] theorem Engine.settle_resting (e : Engine) : e.settle.state.resting = e.state.resting := by
  cases h : e.state.resting
  · rw [Engine.settle_state_of_busy h, h]
  · rw [Engine.settle_state_of_resting h]; split <;> rfl

theorem EngineState.resting_iff (x : EngineState) : x.resting = true ↔ x = .idle ∨ x = .waiting := by
  cases x <;> simp [EngineState.resting]

/-- R93: what the law of the roles asks of the engine's state is the same for the two resting states. -/
theorem Engine.settle_roleLaw (e : Engine) :
    e.settle.state.bufferRole = e.state.bufferRole ∧ e.settle.state.pendingSwitch = e.state.pendingSwitch ∧
    (e.settle.state = .crossfading ↔ e.state = .crossfading) := by
  cases h : e.state.resting
  · rw [Engine.settle_state_of_busy h]; exact ⟨rfl, rfl, Iff.rfl⟩
  · rw [Engine.settle_state_of_resting h]
    rcases (EngineState.resting_iff _).mp h with k | k <;> rw [k] <;> split <;>
      exact ⟨rfl, rfl, by simp⟩

/-- R93: a settled engine that rests is IDLE with an empty queue and WAITING otherwise. -/
theorem Engine.settle_byQueue (e : Engine) :
    (e.settle.state = .idle → e.queue = []) ∧ (e.settle.state = .waiting → e.queue ≠ []) := by
  cases h : e.state.resting
  · rw [Engine.settle_state_of_busy h]
    constructor <;> intro k <;> simp [k, EngineState.resting] at h
  · rw [Engine.settle_state_of_resting h]
    cases e.queue <;> simp

/-- R99: a queue within its capacity is put in place. -/
theorem State.setQueue_keeps {s : State} {q : List SwitchRequest} (h : s.engine.queue.length ≤ 4 → q.length ≤ 4) :
    s.Keeps (s.setQueue q) where
  pending := rfl
  bounded b := by
    obtain ⟨notices, replies, hold, queue, history, rate, rest⟩ := b
    refine ⟨notices, replies, hold, ?_, ?_, ?_, rest⟩ <;>
      simp only [State.setQueue, State.setEngine_engine, Engine.settle_queue, Engine.settle_history, Engine.settle_rateHistory]
    · exact h queue
    · exact history
    · exact rate
  builtIns := id
  roles b := by
    obtain ⟨law, pend, fade⟩ := Engine.settle_roleLaw { s.engine with queue := q }
    unfold State.rolesCoherent State.restingByQueue at *
    simp only [State.setQueue, State.setEngine_engine, Engine.settle_resting, Engine.settle_current, Engine.settle_queue,
      law, pend, ne_eq, fade]
    exact ⟨b.1, Engine.settle_byQueue _⟩
  tuner := id
  held b := by
    unfold State.holdOffsCurrent at *
    simpa only [State.setQueue_engine, State.setQueue_tuner, State.setQueue_sat, State.setQueue_loops, Engine.settle_holdOffs,
      Engine.settle_settings] using b
  sat := id
  links := id

/-! ## The law of the buffer roles -/

/-- How many buffers have a role of a set, buffer by buffer. -/
theorem State.rolesIn_eq (s : State) (p : Role → Bool) :
    s.rolesIn p = (p s.buffers.b0.role).toNat + (p s.buffers.b1.role).toNat + (p s.buffers.b2.role).toNat := by
  simp only [State.rolesIn, bufferIds, List.countP_cons, List.countP_nil, PerBuffer.get]
  cases p s.buffers.b0.role <;> cases p s.buffers.b1.role <;> cases p s.buffers.b2.role <;> rfl

/-- One buffer changes: the count of a set of roles moves by what that buffer was and is. -/
theorem State.rolesIn_set {s t : State} {b : BufferId} {x : Buffer} (h : t.buffers = s.buffers.set b x) (p : Role → Bool) :
    t.rolesIn p + (p (s.buffers.get b).role).toNat = s.rolesIn p + (p x.role).toNat := by
  rw [State.rolesIn_eq, State.rolesIn_eq, h]
  cases b <;> simp only [PerBuffer.set, PerBuffer.get] <;> omega

/-- Every buffer takes a role by its role. -/
theorem State.rolesIn_comp {s t : State} {f : Role → Role} (h : ∀ b, (t.buffers.get b).role = f (s.buffers.get b).role)
    (p : Role → Bool) : t.rolesIn p = s.rolesIn (p ∘ f) := by
  simp only [State.rolesIn, h, Function.comp]

/-- R91: the running roles are ACTIVE, OUTGOING and those that leave. -/
theorem State.rolesIn_running (s : State) :
    s.rolesIn Role.running = s.rolesIn (fun r => r == .active) + s.rolesIn (fun r => r == .outgoing) + s.rolesIn Role.leaving := by
  have one (r : Role) : r.running.toNat = (r == .active).toNat + (r == .outgoing).toNat + r.leaving.toNat := by
    cases r <;> rfl
  simp only [State.rolesIn_eq, one]
  omega

theorem State.rolesIn_pos_iff (s : State) (p : Role → Bool) : 0 < s.rolesIn p ↔ ∃ b, p (s.buffers.get b).role = true := by
  simp [State.rolesIn, bufferIds, List.countP_pos_iff]
  constructor
  · rintro (h | h | h)
    exacts [⟨_, h⟩, ⟨_, h⟩, ⟨_, h⟩]
  · rintro ⟨b, h⟩
    cases b
    exacts [.inl h, .inr (.inl h), .inr (.inr h)]

/-- The law of the roles looks at a buffer's role, whether it holds a context, and its transition codes at rest, and at the
engine's state and buffer. -/
theorem State.roles_congr {s t : State} (role : ∀ b, (t.buffers.get b).role = (s.buffers.get b).role)
    (holds : ∀ b, ((s.buffers.get b).role = .free ↔ (s.buffers.get b).context = none) →
      ((t.buffers.get b).context = none ↔ (s.buffers.get b).context = none))
    (codes : ∀ b, (s.buffers.get b).role.running = false → (s.buffers.get b).atRest → (t.buffers.get b).atRest)
    (state : t.engine.state = s.engine.state) (queue : t.engine.queue = s.engine.queue)
    (current : t.engine.current.map CurrentSwitch.buffer = s.engine.current.map CurrentSwitch.buffer)
    (h : s.rolesCoherent ∧ s.restingByQueue) : t.rolesCoherent ∧ t.restingByQueue := by
  obtain ⟨⟨count, free, rest, under, law, coming, out, leave⟩, byQueue⟩ := h
  have same (p : Role → Bool) : t.rolesIn p = s.rolesIn p := State.rolesIn_comp (f := id) role p
  refine ⟨⟨by simpa only [same] using count, fun b => ?_, fun b hb => ?_, ?_, fun cur hcur => ?_, ?_, ?_, ?_⟩, ?_⟩
  · rw [role, holds b (free b)]; exact free b
  · rw [role] at hb; exact codes b hb (rest b hb)
  · rw [state, under]
    constructor <;> intro e <;> simpa [e] using current
  · rw [hcur, Option.map_some] at current
    obtain ⟨c, hc, e⟩ := Option.map_eq_some_iff.mp current.symm
    rw [state, role, law c hc, e]
  · rw [state, same]; exact coming
  · rw [state, same]; exact out
  · rw [state, same]; exact leave
  · unfold State.restingByQueue; rw [state, queue]; exact byQueue

/-- A change of the buffers alone that leaves every role, and whether a buffer holds a context. -/
theorem State.buffers_keeps {s : State} {bs : PerBuffer Buffer} (role : ∀ b, (bs.get b).role = (s.buffers.get b).role)
    (holds : ∀ b, ((s.buffers.get b).role = .free ↔ (s.buffers.get b).context = none) →
      ((bs.get b).context = none ↔ (s.buffers.get b).context = none))
    (codes : ∀ b, (s.buffers.get b).role.running = false → (s.buffers.get b).atRest → (bs.get b).atRest) :
    s.Keeps { s with buffers := bs } where
  pending := rfl
  bounded := id
  builtIns := id
  roles := State.roles_congr role holds codes rfl rfl rfl
  tuner := id
  held := id
  sat := id
  links := id

/-- A change of one buffer that leaves its role, its codes and that it holds a context. -/
theorem State.setBuffer_keeps {s : State} {b : BufferId} {x : Buffer} (role : x.role = (s.buffers.get b).role)
    (holds : x.context = none ↔ (s.buffers.get b).context = none) (tOut : x.tOut = (s.buffers.get b).tOut)
    (tIn : x.tIn = (s.buffers.get b).tIn) : s.Keeps (s.setBuffer b x) := by
  refine State.buffers_keeps (fun k => ?_) (fun k _ => ?_) (fun k _ => ?_) <;> by_cases h : b = k
  · subst h; simpa using role
  · rw [PerBuffer.get_set_ne _ _ h]
  · subst h; simpa using holds
  · rw [PerBuffer.get_set_ne _ _ h]
  · subst h; simp [Buffer.atRest, tOut, tIn]
  · rw [PerBuffer.get_set_ne _ _ h]; exact id

theorem State.setContext_keeps {s : State} {b : BufferId} (c : Context) (h : (s.buffers.get b).context ≠ none) :
    s.Keeps (s.setContext b c) := State.setBuffer_keeps rfl (by simp [h]) rfl rfl

/-! ## The curve table -/

/-- R42: a change of the curves that leaves every name and list. -/
theorem State.curves_keeps (s : State) {cs : List CurveEntry}
    (h : cs.map (fun e => (e.name, e.points)) = s.curves.map (fun e => (e.name, e.points))) :
    s.Keeps { s with curves := cs } where
  pending := rfl
  bounded := id
  builtIns b := by
    obtain ⟨size, first⟩ := b
    refine ⟨by simpa [size] using congrArg List.length h, ?_⟩
    rw [← first, List.map_take, List.map_take, h]
  roles := id
  tuner := id
  held := id
  sat := id
  links := id

theorem moveRefs_names (cs : List CurveEntry) (up : Bool) (c : Context) :
    (moveRefs cs up c).map (fun e => (e.name, e.points)) = cs.map (fun e => (e.name, e.points)) := by
  rw [moveRefs, List.map_map]
  exact List.ext_getElem? fun n => by simp [Option.map_map, List.getElem?_zipIdx]; rfl

theorem applyMove_names (cs : List CurveEntry) (m : Option (Nat × Nat)) :
    (applyMove cs m).map (fun e => (e.name, e.points)) = cs.map (fun e => (e.name, e.points)) := by
  cases m with
  | none => rfl
  | some p =>
    rw [applyMove, moveRef, List.map_map]
    exact List.ext_getElem? fun n => by simp [Option.map_map, List.getElem?_zipIdx]; rfl

end Sys2Proof.Machine
end

section
/-! PROOFS. Requests that end, scenes, loads and the head test keep the invariants. -/
namespace Sys2Proof.Machine

/-! ## Buffers by role -/

theorem State.mem_withRole {s : State} {r : Role} {b : BufferId} : b ∈ s.withRole r ↔ (s.buffers.get b).role = r := by
  have all : b ∈ bufferIds := by cases b <;> decide
  simp [State.withRole, all]

theorem State.role_of_withRole {s : State} {r : Role} {b : BufferId} {rest : List BufferId} (h : s.withRole r = b :: rest) :
    (s.buffers.get b).role = r := State.mem_withRole.mp (h ▸ List.mem_cons_self)

theorem State.withRole_eq_nil {s : State} {r : Role} : s.withRole r = [] ↔ s.rolesIn (fun x => x == r) = 0 := by
  simp only [State.withRole, State.rolesIn, List.filter_eq_nil_iff, List.countP_eq_zero]

theorem State.active_eq_some {s : State} {b : BufferId} {c : Context} (h : s.active = some (b, c)) :
    (s.buffers.get b).role = .active ∧ (s.buffers.get b).context = some c := by
  unfold State.active at h
  split at h
  · cases h
  · next a rest e =>
    obtain ⟨c', hc, hp⟩ := Option.map_eq_some_iff.mp h
    obtain ⟨rfl, rfl⟩ := Prod.mk.inj hp
    exact ⟨State.role_of_withRole e, hc⟩

/-! ## Requests that end -/

theorem State.failRequest_keeps (s : State) (r : SwitchRequest) (x : SwitchStatus) : s.Keeps (s.failRequest r x) := by
  unfold State.failRequest
  dsimp only
  split
  · exact State.post_keeps _ _ _ (by simp [NoticeBody.kind])
  · exact (State.post_keeps _ _ _ (by simp [NoticeBody.kind])).trans (State.post_keeps _ _ _ (by simp [NoticeBody.kind]))

theorem State.doneRequest_keeps (s : State) (r : SwitchRequest) (scene : Option Nat) (x : SwitchStatus) (b : BufferId) (n : Nat)
    (c : Context) : s.Keeps (s.doneRequest r scene x b n c) := by
  unfold State.doneRequest
  dsimp only
  split
  · exact State.post_keeps _ _ _ (by simp [NoticeBody.kind])
  · exact (State.post_keeps _ _ _ (by simp [NoticeBody.kind])).trans (State.post_keeps _ _ _ (by simp [NoticeBody.kind]))

theorem State.failAll_keeps (s : State) (rs : List SwitchRequest) (x : SwitchStatus) : s.Keeps (s.failAll rs x) :=
  State.Keeps.foldl (fun s r => s.failRequest_keeps r x) rs s

theorem State.supersedeMerged_keeps (s : State) (r : SwitchRequest) : s.Keeps (s.supersedeMerged r) := by
  unfold State.supersedeMerged
  split
  · exact .refl s
  · exact State.post_keeps _ _ _ (by simp [NoticeBody.kind])

/-! ## Scenes -/

theorem State.countOn_keeps (s : State) (l : Link) (f : MapCounts → MapCounts) : s.Keeps (s.countOn l f) :=
  ⟨rfl, id, id, id, id, id, id, id⟩

theorem State.countUnapplied_keeps (s : State) (l : Link) : s.Keeps (s.countUnapplied l) := s.countOn_keeps l _

theorem State.countClamped_keeps (s : State) (l : Link) : s.Keeps (s.countClamped l) := s.countOn_keeps l _

theorem State.denyTarget_keeps (s : State) (k : MapKey) (n : Nat) (t : Target) (c : Bool) : s.Keeps (s.denyTarget k n t c) :=
  (State.countOn_keeps s _ _).trans (State.post_keeps _ _ _ (by simp [NoticeBody.kind]))

theorem State.writeActive_keeps {s : State} {b : BufferId} {c : Context} (h : s.active = some (b, c)) (p : Nat) (x : Slot)
    (i : Nat) (v : Int) : s.Keeps (s.writeActive b c p x i v).1 := by
  unfold State.writeActive
  dsimp only
  split
  · exact .refl s
  · exact (State.setContext_keeps _ (by simp [(State.active_eq_some h).2])).trans
      (State.curves_keeps _ (applyMove_names _ _))

theorem State.runParam_keeps (s : State) (l : Link) (n i : Nat) (lo hi : Int) (p : Nat) :
    s.Keeps (s.runParam l n i lo hi p).1 := by
  unfold State.runParam
  split
  · exact s.countUnapplied_keeps l
  · next b c active =>
    split
    · exact s.countUnapplied_keeps l
    · split
      · exact s.countUnapplied_keeps l
      · dsimp only
        split
        · exact s.countUnapplied_keeps l
        · have written := State.writeActive_keeps active n (by assumption) i (paramValue lo hi p)
          split
          · exact written.trans (State.countClamped_keeps _ _)
          · exact written

theorem CatchUpRun.target_keeps (r : CatchUpRun) (k : MapKey) (p : Nat) (it : Target × Nat) :
    r.state.Keeps (r.target k p it).state := by
  unfold CatchUpRun.target
  split
  · split
    · exact State.runParam_keeps _ _ _ _ _ _ _
    · exact State.denyTarget_keeps _ _ _ _ _
  · exact .refl _

theorem CatchUpRun.foldl_keeps {α : Type} {f : CatchUpRun → α → CatchUpRun} (h : ∀ (r : CatchUpRun) (x : α), r.state.Keeps (f r x).state)
    (xs : List α) (r : CatchUpRun) : r.state.Keeps (xs.foldl f r).state := by
  induction xs generalizing r with
  | nil => exact .refl _
  | cons x xs ih => exact (h r x).trans (ih _)

theorem CatchUpRun.entry_keeps (r : CatchUpRun) (e : MapEntry) : r.state.Keeps (r.entry e).state := by
  unfold CatchUpRun.entry
  split
  · exact .refl _
  · split
    · exact .refl _
    · exact CatchUpRun.foldl_keeps (fun r it => r.target_keeps _ _ it) _ r

theorem CatchUpRun.link_keeps (o : List MapEntry) (r : CatchUpRun) (l : Link) :
    r.state.Keeps (CatchUpRun.link o r l).state := by
  unfold CatchUpRun.link
  split
  · exact .refl _
  · exact CatchUpRun.foldl_keeps CatchUpRun.entry_keeps _ r

theorem OverrideRun.write_names (running : Bool) (r : OverrideRun) (o : Override) :
    (r.write running o).curves.map (fun e => (e.name, e.points)) = r.curves.map (fun e => (e.name, e.points)) := by
  unfold OverrideRun.write
  split
  · rfl
  · exact applyMove_names _ _

theorem OverrideRun.writes_names (running : Bool) (os : List Override) (r : OverrideRun) :
    (os.foldl (OverrideRun.write running) r).curves.map (fun e => (e.name, e.points)) =
      r.curves.map (fun e => (e.name, e.points)) := by
  induction os generalizing r with
  | nil => rfl
  | cons o os ih => rw [List.foldl_cons, ih, OverrideRun.write_names]

/-- R88 to R90: a scene applied to a context that a buffer holds. -/
theorem State.applyScene_keeps {s : State} {b : BufferId} (c : Context) (n : Nat) (rec : SceneRecord)
    (h : (s.buffers.get b).context ≠ none) : s.Keeps (s.applyScene b c n rec) := by
  unfold State.applyScene
  extract_lets o held s1 r
  have start : s.Keeps s1 :=
    (State.setContext_keeps _ h).trans (State.curves_keeps _ (OverrideRun.writes_names true rec.overrides _))
  have caught : s.Keeps r.state := start.trans (CatchUpRun.foldl_keeps
    (CatchUpRun.link_keeps c.overlay) [Link.a, Link.b] { state := s1, clamped := o.clamped, notMade := o.notMade })
  split
  · exact caught
  · next e =>
    exact (caught.trans (State.setContext_keeps _ (by simp [e]))).trans (.trans
      (State.post_keeps _ _ _ (by simp [slotStateOf, NoticeBody.kind])) (State.post_keeps _ _ _ (by simp [NoticeBody.kind])))

theorem State.sceneChange_keeps {s : State} (r : SwitchRequest) {b : BufferId} (c : Context) (n : Nat)
    (h : (s.buffers.get b).context ≠ none) : s.Keeps (s.sceneChange r b c n) :=
  ((State.applyScene_keeps c _ _ h).trans (State.editHistory_keeps _ _)).trans (State.doneRequest_keeps _ _ _ _ _ _ _)

theorem State.failStart_keeps (s : State) (r : SwitchRequest) (x : SwitchStatus) : s.Keeps (s.failStart r x) :=
  (State.editHistory_keeps _ _).trans (State.failRequest_keeps _ _ _)

theorem State.active_context {s : State} {b : BufferId} {c : Context} (h : s.active = some (b, c)) :
    (s.buffers.get b).context ≠ none := by simp [(State.active_eq_some h).2]

theorem State.takeScene_keeps (s : State) (r : SwitchRequest) : s.Keeps (s.takeScene r) := by
  unfold State.takeScene
  dsimp only
  refine (State.pushHistory_keeps s (r.record s.frameCounter (some s.frameCounter))).trans ?_
  split
  · exact State.failStart_keeps _ r .badState
  · next active => exact State.sceneChange_keeps _ _ _ (State.active_context active)

/-! ## Loads -/

/-- R52, R91: a FREE buffer becomes LOADING, and the engine, which rests, LOADING with it. -/
theorem State.loading_keeps {s : State} {b : BufferId} (c : Context) (cs : List CurveEntry) (cur : CurrentSwitch)
    (names : cs.map (fun e => (e.name, e.points)) = s.curves.map (fun e => (e.name, e.points)))
    (free : (s.buffers.get b).role = .free) (resting : s.engine.state.resting = true) (place : cur.buffer = b) :
    s.Keeps (State.setEngine { s.setBuffer b (Buffer.load c) with curves := cs }
      { s.engine with state := .loading, current := some cur }) where
  pending := rfl
  bounded := id
  builtIns := (State.curves_keeps s names).builtIns
  roles := by
    rintro ⟨⟨⟨active, coming, leaving, running⟩, holds, rest, under, law, pend, out, leave⟩, byQueue⟩
    generalize ht : State.setEngine { s.setBuffer b (Buffer.load c) with curves := cs }
      { s.engine with state := .loading, current := some cur } = t
    have set : t.buffers = s.buffers.set b (Buffer.load c) := by rw [← ht]; rfl
    have engine : t.engine = { s.engine with state := .loading, current := some cur } := by rw [← ht]; rfl
    have count := State.rolesIn_set set
    rw [free, show (Buffer.load c).role = .loading from rfl] at count
    have idle : s.engine.state.pendingSwitch = false := by
      rcases (EngineState.resting_iff _).mp resting with e | e <;> rw [e] <;> rfl
    have none : s.rolesIn Role.coming = 0 := pend idle
    have quiet : s.rolesIn (fun r => r == .outgoing) = 0 := out (by
      rcases (EngineState.resting_iff _).mp resting with e | e <;> rw [e] <;> decide)
    have here : t.buffers.get b = Buffer.load c := by rw [set, PerBuffer.get_set]
    have there (k : BufferId) (h : b ≠ k) : t.buffers.get k = s.buffers.get k := by rw [set, PerBuffer.get_set_ne _ _ h]
    refine ⟨⟨⟨?_, ?_, ?_, ?_⟩, fun k => ?_, fun k => ?_, ?_, ?_, ?_, ?_, ?_⟩, ?_⟩
    · have : t.rolesIn (fun r => r == .active) = s.rolesIn (fun r => r == .active) := count (fun r => r == .active)
      omega
    · have : t.rolesIn Role.coming = s.rolesIn Role.coming + 1 := count Role.coming
      omega
    · have : t.rolesIn Role.leaving = s.rolesIn Role.leaving := count Role.leaving
      omega
    · have : t.rolesIn Role.running = s.rolesIn Role.running := count Role.running
      omega
    · by_cases h : b = k
      · subst h; rw [here]; simp [Buffer.load]
      · rw [there k h]; exact holds k
    · by_cases h : b = k
      · subst h; rw [here]; exact fun _ => ⟨rfl, rfl⟩
      · rw [there k h]; exact rest k
    · simp [engine, EngineState.resting]
    · intro x hx
      rw [engine] at hx ⊢
      obtain rfl := Option.some.inj hx
      rw [place, here]
      rfl
    · simp [engine, EngineState.pendingSwitch]
    · have : t.rolesIn (fun r => r == .outgoing) = s.rolesIn (fun r => r == .outgoing) :=
        count (fun r => r == .outgoing)
      exact fun _ => this.trans quiet
    · simp [engine]
    · simp [State.restingByQueue, engine]
  tuner := id
  held := id
  sat := id
  links := id

theorem State.startLoad_keeps {s : State} (r : SwitchRequest) (n : Nat) (p : Preset) (h : s.engine.state.resting = true) :
    s.Keeps (s.startLoad r n p) := by
  unfold State.startLoad
  split
  · exact State.failStart_keeps _ _ _
  · next b rest e =>
    have free := State.role_of_withRole e
    dsimp only
    split
    · exact State.loading_keeps _ _ _ (moveRefs_names _ _ _) free h rfl
    · refine .trans ?_ (State.failStart_keeps _ _ _)
      refine (State.curves_keeps s ((moveRefs_names _ false (p.load s.loops s.selected n)).trans
        (moveRefs_names s.curves true (p.load s.loops s.selected n)))).trans ?_
      have same : (State.freeBuffer { s.setBuffer b (Buffer.load (p.load s.loops s.selected n)) with
            curves := moveRefs s.curves true (p.load s.loops s.selected n) } b) =
          { s with
            curves := moveRefs (moveRefs s.curves true (p.load s.loops s.selected n)) false (p.load s.loops s.selected n),
            buffers := s.buffers.set b Buffer.free } := by
        simp [State.freeBuffer, State.setBuffer, Buffer.load]
      rw [same]
      refine State.buffers_keeps (fun k => ?_) (fun k => ?_) (fun k _ => ?_) <;> by_cases hk : b = k
      · subst hk; simpa [Buffer.free] using free.symm
      · rw [PerBuffer.get_set_ne _ _ hk]
      · subst hk; intro held; simpa [Buffer.free] using held.mp free
      · rw [PerBuffer.get_set_ne _ _ hk]; exact fun _ => Iff.rfl
      · subst hk; rw [PerBuffer.get_set]; exact fun _ => ⟨rfl, rfl⟩
      · rw [PerBuffer.get_set_ne _ _ hk]; exact id

theorem State.startPreset_keeps {s : State} (r : SwitchRequest) (n : Nat) (h : s.engine.state.resting = true) :
    s.Keeps (s.startPreset r n) := by
  unfold State.startPreset
  dsimp only
  refine ((State.recordStart_keeps s).trans
    (State.pushHistory_keeps _ (r.record s.recordStart.frameCounter none))).trans ?_
  split
  · next b c e =>
    have held : ((s.recordStart.pushHistory (r.record s.recordStart.frameCounter none)).buffers.get b).context ≠ none := by
      unfold State.alreadyActive at e
      split at e
      · cases e
      · next a =>
        split at e
        · obtain ⟨rfl, rfl⟩ := Prod.mk.inj (Option.some.inj e)
          exact State.active_context a
        · cases e
    split
    · exact State.sceneChange_keeps _ _ _ held
    · exact (State.editHistory_keeps _ _).trans (State.doneRequest_keeps _ _ _ _ _ _ _)
  · split
    · exact State.failStart_keeps _ _ _
    · exact State.startLoad_keeps _ _ _ h

/-! ## The head test -/

theorem Engine.mayTake_resting {e : Engine} {r : SwitchRequest} (h : e.mayTake r = true) : e.state.resting = true := by
  cases k : e.state.resting
  · rw [Engine.mayTake_busy k] at h; cases h
  · rfl

theorem State.takeHead_keeps {s : State} {r : SwitchRequest} {rest : List SwitchRequest} (hq : s.engine.queue = r :: rest)
    (h : s.engine.state.resting = true) : s.Keeps (s.takeHead r rest) := by
  unfold State.takeHead
  dsimp only
  refine (State.setQueue_keeps (s := s) (q := rest) (by rw [hq, List.length_cons]; omega)).trans ?_
  split
  · exact State.startPreset_keeps _ _ ((Engine.settle_resting _).trans h)
  · exact State.takeScene_keeps _ _

theorem State.headTestN_keeps (n : Nat) (s : State) : s.Keeps (State.headTestN n s) := by
  induction n generalizing s with
  | zero => exact .refl s
  | succ n ih =>
    unfold State.headTestN
    split
    · exact .refl s
    · next r rest hq =>
      split
      · next may => exact (State.takeHead_keeps hq (Engine.mayTake_resting may)).trans (ih _)
      · exact .refl s

/-- R105: the head test and all that it starts keep the invariants. -/
theorem State.headTest_keeps (s : State) : s.Keeps s.headTest := State.headTestN_keeps _ s

/-- R101, R105: a look at the conditions tests the head where a member leaves the set. -/
theorem State.syncTest_keeps_of {s t : State} (h : s.Keeps t.syncHoldOffs) : s.Keeps t.syncTest := by
  unfold State.syncTest
  split
  · exact h.trans (State.headTest_keeps _)
  · exact h

end Sys2Proof.Machine
end

section
/-! PROOFS. Merges, abandonment and requests that arrive keep the invariants; a posting does not look at the engine. -/
namespace Sys2Proof.Machine

/-! ## Postings and the engine -/

/-- A posting does not look at the engine. -/
theorem State.post_setEngine (s : State) (e : Engine) (body : NoticeBody) (tag : Byte) :
    (s.setEngine e).post body tag = (s.post body tag).setEngine e := by
  have control (s : State) : (s.setEngine e).postControl body tag = (s.postControl body tag).setEngine e := by
    unfold State.postControl
    change (if (s.destinations body.kind).control then _ else _) = _
    split <;> rfl
  have shown (s : State) (l : Link) : (s.setEngine e).renderOn body l = (s.renderOn body l).setEngine e := by
    have same (i : Identity) : render (s.setEngine e) l i body = render s l i body := by cases body <;> rfl
    unfold State.renderOn
    dsimp only
    rw [State.setEngine_pedals]
    cases (s.pedals.get l).identity with
    | none => rfl
    | some i =>
      dsimp only
      rw [same]
      change (if (s.destinations body.kind).pedal l then _ else _) = _
      split
      · cases render s l i body <;> rfl
      · rfl
  unfold State.post
  rw [control, shown, shown]

theorem State.failRequest_setEngine (s : State) (e : Engine) (r : SwitchRequest) (x : SwitchStatus) :
    (s.setEngine e).failRequest r x = (s.failRequest r x).setEngine e := by
  unfold State.failRequest
  dsimp only
  cases r.merged with
  | none => exact State.post_setEngine _ _ _ _
  | some m => dsimp only; rw [State.post_setEngine, State.post_setEngine]

theorem State.doneRequest_setEngine (s : State) (e : Engine) (r : SwitchRequest) (scene : Option Nat) (x : SwitchStatus)
    (b : BufferId) (n : Nat) (c : Context) :
    (s.setEngine e).doneRequest r scene x b n c = (s.doneRequest r scene x b n c).setEngine e := by
  unfold State.doneRequest
  dsimp only
  cases r.merged with
  | none => exact State.post_setEngine _ _ _ _
  | some m => dsimp only; rw [State.post_setEngine, State.post_setEngine]

theorem State.failAll_setEngine (s : State) (e : Engine) (rs : List SwitchRequest) (x : SwitchStatus) :
    (s.setEngine e).failAll rs x = (s.failAll rs x).setEngine e := by
  unfold State.failAll
  induction rs generalizing s with
  | nil => rfl
  | cons r rest ih => rw [List.foldl_cons, List.foldl_cons, State.failRequest_setEngine, ih]

@[simp] theorem State.failAll_engine (s : State) (rs : List SwitchRequest) (x : SwitchStatus) :
    (s.failAll rs x).engine = s.engine := by
  unfold State.failAll
  induction rs generalizing s with
  | nil => rfl
  | cons r rest ih => rw [List.foldl_cons, ih, State.failRequest_engine]

@[simp] theorem State.failAll_buffers (s : State) (rs : List SwitchRequest) (x : SwitchStatus) :
    (s.failAll rs x).buffers = s.buffers := by
  unfold State.failAll
  induction rs generalizing s with
  | nil => rfl
  | cons r rest ih => rw [List.foldl_cons, ih, State.failRequest_buffers]

/-- R93: the rest of the engine, and a change of the newest history record, may come in either order. -/
theorem State.editHistory_rest (s : State) (f : HistoryRecord → HistoryRecord) :
    (s.editHistory f).setEngine (s.editHistory f).engine.rest = (s.setEngine s.engine.rest).editHistory f := by
  have e : (s.setEngine s.engine.rest).engine.history = s.engine.history := rfl
  unfold State.editHistory
  rw [e]
  cases s.engine.history <;> rfl

/-! ## Merges and abandonment -/

theorem Engine.pending_eq_some {e : Engine} {cur : CurrentSwitch} :
    e.pending = some cur ↔ e.state.pendingSwitch = true ∧ e.current = some cur := by
  unfold Engine.pending
  split
  · next h => simp [h]
  · next h => simp [h]

/-- R100: the request of the switch under way changes, its buffer does not. -/
theorem State.setCurrent_keeps {s : State} {cur new : CurrentSwitch} (h : s.engine.current = some cur)
    (same : new.buffer = cur.buffer) : s.Keeps (s.setEngine { s.engine with current := some new }) where
  pending := rfl
  bounded := id
  builtIns := id
  roles := State.roles_congr (fun _ => rfl) (fun _ _ => Iff.rfl) (fun _ _ => id) rfl rfl (by simp [h, same])
  tuner := id
  held := id
  sat := id
  links := id

theorem State.editHistory_current (s : State) (f : HistoryRecord → HistoryRecord) :
    (s.editHistory f).engine.current = s.engine.current ∧ (s.editHistory f).engine.state = s.engine.state ∧
      (s.editHistory f).engine.queue = s.engine.queue := by
  unfold State.editHistory
  split <;> exact ⟨rfl, rfl, rfl⟩

@[simp] theorem State.supersedeMerged_engine (s : State) (r : SwitchRequest) : (s.supersedeMerged r).engine = s.engine := by
  unfold State.supersedeMerged
  split <;> simp

theorem State.mergePending_keeps {s : State} {cur : CurrentSwitch} (h : s.engine.current = some cur) (new : SwitchRequest) :
    s.Keeps (s.mergePending cur new) := by
  unfold State.mergePending
  refine ((State.supersedeMerged_keeps s cur.request).trans (State.editHistory_keeps _ _)).trans
    (State.setCurrent_keeps (cur := cur) ?_ rfl)
  rw [(State.editHistory_current _ _).1, State.supersedeMerged_engine, h]

theorem State.mergeQueued_keeps {s : State} {q : SwitchRequest} {rest : List SwitchRequest} (h : s.engine.queue = q :: rest)
    (new : SwitchRequest) : s.Keeps (s.mergeQueued q rest new) :=
  (State.supersedeMerged_keeps s q).trans (State.setQueue_keeps (by simp [h]))

/-- A count that no buffer adds to. -/
theorem State.rolesIn_le_add {s t : State} {p q r : Role → Bool}
    (h : ∀ b, (p (t.buffers.get b).role).toNat ≤ (q (s.buffers.get b).role).toNat + (r (s.buffers.get b).role).toNat) :
    t.rolesIn p ≤ s.rolesIn q + s.rolesIn r := by
  have h0 : (p t.buffers.b0.role).toNat ≤ (q s.buffers.b0.role).toNat + (r s.buffers.b0.role).toNat := h .b0
  have h1 : (p t.buffers.b1.role).toNat ≤ (q s.buffers.b1.role).toNat + (r s.buffers.b1.role).toNat := h .b1
  have h2 : (p t.buffers.b2.role).toNat ≤ (q s.buffers.b2.role).toNat + (r s.buffers.b2.role).toNat := h .b2
  simp only [State.rolesIn_eq]
  omega

theorem Engine.rest_byQueue (e : Engine) : e.rest.state = if e.queue.isEmpty then .idle else .waiting := rfl

theorem Engine.rest_resting (e : Engine) : e.rest.state.resting = true := by
  rw [Engine.rest_byQueue]; split <;> rfl

/-- R93: an engine at rest asks only that no buffer is LOADING, READY or OUTGOING. -/
theorem State.rest_coherent {s : State} (active : s.rolesIn (fun r => r == .active) ≤ 1)
    (coming : s.rolesIn Role.coming = 0) (leaving : s.rolesIn Role.leaving ≤ 1)
    (outgoing : s.rolesIn (fun r => r == .outgoing) = 0)
    (holds : ∀ b, (s.buffers.get b).role = .free ↔ (s.buffers.get b).context = none)
    (rest : ∀ b, (s.buffers.get b).role.running = false → (s.buffers.get b).atRest) :
    (s.setEngine s.engine.rest).rolesCoherent ∧ (s.setEngine s.engine.rest).restingByQueue := by
  have running := s.rolesIn_running
  have state : (s.setEngine s.engine.rest).engine.state = .idle ∨ (s.setEngine s.engine.rest).engine.state = .waiting :=
    (EngineState.resting_iff _).mp (Engine.rest_resting _)
  refine ⟨⟨⟨active, ?_, leaving, ?_⟩, holds, rest, ?_, ?_, fun _ => coming, fun _ => outgoing, ?_⟩, ?_⟩
  · exact (le_of_eq coming).trans (by decide)
  · exact (le_of_eq running).trans (by omega)
  · exact iff_of_true (Engine.rest_resting _) rfl
  · intro cur hcur; cases hcur
  · rcases state with e | e <;> rw [e] <;> simp
  · simp only [State.restingByQueue, State.setEngine_engine, Engine.rest_byQueue]
    change (_ → s.engine.queue = []) ∧ (_ → s.engine.queue ≠ [])
    cases s.engine.queue <;> simp

/-- R108: the buffer of the pending switch becomes FREE, and the engine rests. -/
theorem State.abandoned_keeps {s : State} {cur : CurrentSwitch} (h : s.rolesCoherent → s.engine.pending = some cur) :
    s.Keeps ((s.freeBuffer cur.buffer).setEngine s.engine.rest) where
  pending := rfl
  bounded := id
  builtIns b := by
    change State.builtInsKept { s with curves := (s.freeBuffer cur.buffer).curves }
    refine (State.curves_keeps s ?_).builtIns b
    unfold State.freeBuffer
    cases (s.buffers.get cur.buffer).context with
    | none => rfl
    | some c => exact moveRefs_names _ _ _
  roles := by
    rintro ⟨coherent, -⟩
    obtain ⟨pending, current⟩ := Engine.pending_eq_some.mp (h coherent)
    obtain ⟨⟨active, coming, leaving, running⟩, holds, rest, under, law, pend, out, leave⟩ := coherent
    have role : (s.buffers.get cur.buffer).role = .loading ∨ (s.buffers.get cur.buffer).role = .ready := by
      have := law cur current
      cases k : s.engine.state <;> simp [k, EngineState.pendingSwitch, EngineState.bufferRole] at pending this <;> simp [← this]
    have busy : s.engine.state ≠ .crossfading := by rintro e; rw [e] at pending; cases pending
    have set : (s.freeBuffer cur.buffer).buffers = s.buffers.set cur.buffer Buffer.free := rfl
    have count (p : Role → Bool) := State.rolesIn_set set p
    have others (p : Role → Bool) (hp : p .free = false) : (s.freeBuffer cur.buffer).rolesIn p ≤ s.rolesIn p := by
      have := count p
      rw [show Buffer.free.role = .free from rfl, hp] at this
      simp at this
      omega
    have freed : (s.freeBuffer cur.buffer).rolesIn Role.coming = 0 := by
      have := count Role.coming
      rw [show Buffer.free.role = .free from rfl, show (Role.coming (s.buffers.get cur.buffer).role) = true by
        rcases role with e | e <;> rw [e] <;> rfl] at this
      simp [show Role.coming .free = false from rfl] at this
      omega
    refine State.rest_coherent (s := s.freeBuffer cur.buffer) ((others _ rfl).trans active) freed ((others _ rfl).trans leaving)
      (Nat.le_zero.mp ((others _ rfl).trans (le_of_eq (out busy)))) (fun b => ?_) (fun b => ?_)
    · by_cases e : cur.buffer = b
      · subst e; rw [set, PerBuffer.get_set]; simp [Buffer.free]
      · rw [set, PerBuffer.get_set_ne _ _ e]; exact holds b
    · by_cases e : cur.buffer = b
      · subst e; rw [set, PerBuffer.get_set]; exact fun _ => ⟨rfl, rfl⟩
      · rw [set, PerBuffer.get_set_ne _ _ e]; exact rest b
  tuner := id
  held := id
  sat := id
  links := id

/-- R108: the engine may rest before the request of the pending switch fails. -/
theorem State.abandonPending_eq (s : State) (cur : CurrentSwitch) (x : SwitchStatus) :
    s.abandonPending cur x =
      (((s.freeBuffer cur.buffer).setEngine s.engine.rest).failRequest cur.request x).editHistory
        (fun h => { h with status := x, activation := none }) := by
  unfold State.abandonPending
  dsimp only
  rw [State.editHistory_rest, State.failRequest_engine, State.failRequest_setEngine]
  rfl

theorem State.abandonPending_keeps {s : State} {cur : CurrentSwitch} (h : s.rolesCoherent → s.engine.pending = some cur) (x : SwitchStatus) :
    s.Keeps (s.abandonPending cur x) := by
  rw [State.abandonPending_eq]
  exact ((State.abandoned_keeps h).trans (State.failRequest_keeps _ _ _)).trans (State.editHistory_keeps _ _)

/-! ## Requests that arrive -/

theorem State.enqueue_keeps {s : State} (r : SwitchRequest) (h : s.engine.queue.length < 4) : s.Keeps (s.enqueue r) :=
  (State.setQueue_keeps (fun _ => by simpa using h)).trans (State.headTest_keeps _)

theorem State.collapsePreset_keeps (s : State) (r : SwitchRequest) : s.Keeps (s.collapsePreset r) := by
  unfold State.collapsePreset
  extract_lets t
  have cleared : s.Keeps t := (State.failAll_keeps s _ _).trans (State.setQueue_keeps (by simp))
  have empty : t.engine.queue = [] := Engine.settle_queue _
  split
  · exact cleared.trans (State.enqueue_keeps r (by simp [empty]))
  · next cur pending =>
    split
    · exact cleared.trans (State.mergePending_keeps (Engine.pending_eq_some.mp pending).2 r)
    · split
      · exact cleared.trans (State.enqueue_keeps r (by simp [empty]))
      · refine (cleared.trans (State.abandonPending_keeps (fun _ => pending) _)).trans (State.enqueue_keeps r ?_)
        rw [State.abandonPending_eq, (State.editHistory_current _ _).2.2, State.failRequest_engine]
        change t.engine.queue.length < 4
        simp [empty]

/-- R93: of two queues put in place one after the other the second stays. -/
theorem State.setQueue_setQueue (s : State) (p q : List SwitchRequest) : (s.setQueue p).setQueue q = s.setQueue q := by
  unfold State.setQueue
  cases h : s.engine.state.resting
  · simp [State.setEngine, Engine.settle, h]
  · simp only [State.setEngine, Engine.settle, h, if_true]
    split <;> rfl

theorem State.collapseScene_keeps (s : State) (r : SwitchRequest) : s.Keeps (s.collapseScene r) := by
  unfold State.collapseScene
  split
  · next q rest hq =>
    split
    · exact State.mergeQueued_keeps hq r
    · split
      · next cur pending => exact State.mergePending_keeps (Engine.pending_eq_some.mp pending).2 r
      · rw [State.enqueue, State.setQueue_setQueue, State.setQueue_engine, Engine.settle_queue]
        exact ((State.failRequest_keeps s q _).trans (State.setQueue_keeps (by simp [hq]))).trans (State.headTest_keeps _)
  · next hq =>
    split
    · next cur pending => exact State.mergePending_keeps (Engine.pending_eq_some.mp pending).2 r
    · exact State.enqueue_keeps r (by simp [hq])

/-- R97 to R99: a request that arrives. -/
theorem State.arrive_keeps (s : State) (r : SwitchRequest) : s.Keeps (s.arrive r).1 := by
  unfold State.arrive
  split
  · split
    · next room => exact State.enqueue_keeps r room
    · exact .refl s
  · split
    · exact State.collapsePreset_keeps s r
    · exact State.collapseScene_keeps s r

theorem State.pedalRequest_keeps (s : State) (l : Link) (p n : Option Nat) (f : Bool) : s.Keeps (s.pedalRequest l p n f) := by
  unfold State.pedalRequest
  dsimp only
  split
  · exact State.arrive_keeps s _
  · exact State.failRequest_keeps s _ _

end Sys2Proof.Machine
end

section
/-! PROOFS. The Satellite unit: its capacity and coherence under each of its operations. -/
namespace Sys2Proof.Machine

/-! ## The Satellite unit -/

/-- R187, R191, R195: what `satelliteCoherent` says of the unit. -/
def Satellite.coherent (u : Satellite) : Prop :=
  u.activationCount = u.marked ∧ u.table.length = 15 ∧ (u.bypass = none → u.catchUp = []) ∧
  (u.bypass ≠ none → u.queue.all (fun f => f.origin == .raw) = true)

/-- What a change of the unit keeps: the capacity of its queue, and its coherence. -/
structure Satellite.Keeps (u v : Satellite) : Prop where
  bounded : u.queue.length ≤ 16 → v.queue.length ≤ 16
  coherent : u.coherent → v.coherent

theorem Satellite.Keeps.refl (u : Satellite) : u.Keeps u := ⟨id, id⟩

theorem Satellite.Keeps.trans {u v w : Satellite} (h : u.Keeps v) (k : v.Keeps w) : u.Keeps w :=
  ⟨k.bounded ∘ h.bounded, k.coherent ∘ h.coherent⟩

/-- A change of the unit, after which the engine looks at its condition (R191). -/
theorem State.sat_sync_keeps {s : State} {u : Satellite} (h : s.sat.Keeps u) :
    s.Keeps ({ s with sat := u } : State).syncHoldOffs := by
  refine State.syncHoldOffs_keeps rfl (fun b => ?_) id id id h.coherent id
  obtain ⟨notices, replies, hold, queue, history, rate, sat, map⟩ := b
  exact ⟨notices, replies, hold, queue, history, rate, h.bounded sat, map⟩

theorem State.withSat_keeps {s : State} {u : Satellite} (h : s.sat.Keeps u) : s.Keeps (s.withSat u) :=
  State.syncTest_keeps_of (State.sat_sync_keeps h)

/-- A change of the unit that leaves the activation count, so that the hold-off set stays current. -/
theorem State.sat_keeps {s : State} {u : Satellite} (h : s.sat.Keeps u) (same : u.activationCount = s.sat.activationCount) :
    s.Keeps { s with sat := u } where
  pending := rfl
  bounded b := by
    obtain ⟨notices, replies, hold, queue, history, rate, sat, map⟩ := b
    exact ⟨notices, replies, hold, queue, history, rate, h.bounded sat, map⟩
  builtIns := id
  roles := id
  tuner := id
  held b := by unfold State.holdOffsCurrent at *; rwa [same]
  sat := h.coherent
  links := id

/-- A change of the unit's counts, timers and settings alone. -/
theorem Satellite.keeps_of_same {u v : Satellite} (queue : v.queue = u.queue) (flight : v.inFlight = u.inFlight)
    (count : v.activationCount = u.activationCount) (table : v.table.length = u.table.length)
    (bypass : v.bypass = none ↔ u.bypass = none) (catchUp : v.catchUp = u.catchUp) : u.Keeps v := by
  refine ⟨fun h => by rwa [queue], fun h => ?_⟩
  unfold Satellite.coherent Satellite.marked at *
  rwa [queue, flight, count, table, catchUp, ne_eq, bypass]

/-! ### Frames placed in the queue -/

/-- R191: the mark of a list with one frame put in place. -/
theorem countP_set_mark {queue : List SatFrame} {n : Nat} {old : SatFrame} (h : queue[n]? = some old) (f : SatFrame) :
    (queue.set n f).countP (fun x => x.mark) + old.mark.toNat = queue.countP (fun x => x.mark) + f.mark.toNat := by
  induction queue generalizing n with
  | nil => simp at h
  | cons x xs ih =>
    cases n with
    | zero =>
      simp only [List.getElem?_cons_zero, Option.some.injEq] at h
      subst h
      cases hx : x.mark <;> cases hf : f.mark <;> simp [hx, hf]
    | succ n =>
      have := ih (n := n) (by simpa using h)
      simp only [List.set_cons_succ, List.countP_cons]
      omega

theorem newestFor_lt {queue : List SatFrame} {physical n : Nat} (h : newestFor queue physical = some n) : n < queue.length := by
  have := List.mem_of_find?_eq_some h
  simpa using this

/-- R191: placing a frame keeps the count equal to the marks held. -/
theorem Satellite.place_counted {u : Satellite} (h : u.activationCount = u.marked) (f : SatFrame) :
    (u.place f).activationCount = (u.place f).marked := by
  unfold Satellite.place
  split
  · simp only [Satellite.marked, List.countP_append] at *
    cases hf : f.mark <;> simp [hf] <;> omega
  · split
    · exact h
    · next n hn =>
      have lt := newestFor_lt hn
      have at' : u.queue[n]? = some u.queue[n] := List.getElem?_eq_getElem lt
      have moved := countP_set_mark at' f
      simp only [Satellite.marked, at'] at *
      omega

@[simp] theorem Satellite.place_table (u : Satellite) (f : SatFrame) : (u.place f).table = u.table := by
  rw [Satellite.place_only]
@[simp] theorem Satellite.place_bypass (u : Satellite) (f : SatFrame) : (u.place f).bypass = u.bypass := by
  rw [Satellite.place_only]
@[simp] theorem Satellite.place_catchUp (u : Satellite) (f : SatFrame) : (u.place f).catchUp = u.catchUp := by
  rw [Satellite.place_only]

/-- R190, R196: a frame is placed while no bypass runs. -/
theorem Satellite.place_keeps {u : Satellite} (off : u.bypass = none) (f : SatFrame) : u.Keeps (u.place f) := by
  refine ⟨fun h => Satellite.place_length h f, fun ⟨count, table, catchUp, raw⟩ => ⟨Satellite.place_counted count f, ?_, ?_, ?_⟩⟩
  · rwa [Satellite.place_table]
  · rwa [Satellite.place_bypass, Satellite.place_catchUp]
  · rw [Satellite.place_bypass]; exact fun on => absurd off on

theorem Satellite.countUnmapped_keeps (u : Satellite) (a : Nat) : u.Keeps (u.countUnmapped a) := by
  unfold Satellite.countUnmapped
  split
  · exact Satellite.keeps_of_same rfl rfl rfl rfl Iff.rfl rfl
  · exact .refl u

@[simp] theorem Satellite.countUnmapped_bypass (u : Satellite) (a : Nat) : (u.countUnmapped a).bypass = u.bypass := by
  unfold Satellite.countUnmapped; split <;> rfl

/-- R189, R196: a logical message handed to the unit. -/
theorem Satellite.hand_keeps (u : Satellite) (origin : SatOrigin) (mark : Bool) (m : SatMessage) :
    u.Keeps (u.hand origin mark m) ∧ (u.hand origin mark m).bypass = u.bypass := by
  unfold Satellite.hand
  dsimp only
  split
  · next b on =>
    refine ⟨(u.countUnmapped_keeps m.address).trans ⟨id, fun ⟨count, table, _, raw⟩ => ⟨count, table, ?_, raw⟩⟩, by simp⟩
    intro off
    simp [on] at off
  · next off =>
    suffices h : ∀ (as : List Nat) (v : Satellite), v.bypass = none →
        v.Keeps (as.foldl (fun v a => v.place (v.frameFor a m.payload origin mark)) v) ∧
          (as.foldl (fun v a => v.place (v.frameFor a m.payload origin mark)) v).bypass = none by
      have := h (u.targets m.address) (u.countUnmapped m.address) (by simpa using off)
      exact ⟨(u.countUnmapped_keeps m.address).trans this.1, this.2.trans off.symm⟩
    intro as
    induction as with
    | nil => exact fun v hv => ⟨.refl v, hv⟩
    | cons a as ih =>
      intro v hv
      have placed := Satellite.place_keeps hv (v.frameFor a m.payload origin mark)
      obtain ⟨kept, off⟩ := ih (v.place (v.frameFor a m.payload origin mark)) (by simpa using hv)
      exact ⟨placed.trans kept, off⟩

theorem Satellite.giveUpMarks_keeps (u : Satellite) : u.Keeps u.giveUpMarks := by
  refine ⟨fun h => by simpa [Satellite.giveUpMarks] using h, fun ⟨count, table, catchUp, raw⟩ => ⟨?_, table, catchUp, fun on => ?_⟩⟩
  · simp only [Satellite.giveUpMarks, Satellite.marked, List.countP_map]
    cases u.inFlight <;> simp [SatFrame.unmarked, Function.comp_def]
  · have := raw on
    simp only [Satellite.giveUpMarks, List.all_map, Function.comp_def, SatFrame.unmarked] at *
    exact this

/-- R191: an activation gives up the marks held and hands over its messages. -/
theorem Satellite.activate_keeps (u : Satellite) (messages : List SatMessage) : u.Keeps (u.activate messages) := by
  unfold Satellite.activate
  refine .trans (v := { u.giveUpMarks with activation := some (match u.activation with | none => 0 | some n => n + 1) })
    (u.giveUpMarks_keeps.trans (Satellite.keeps_of_same rfl rfl rfl rfl Iff.rfl rfl)) ?_
  generalize ({ u.giveUpMarks with activation := some (match u.activation with | none => 0 | some n => n + 1) } : Satellite) = v
  induction messages generalizing v with
  | nil => exact .refl v
  | cons m ms ih => exact (v.hand_keeps .activation true m).1.trans (ih _)

/-! ### Frames that leave -/

theorem Satellite.marked_of_flight {u : Satellite} {x : InFlight} (h : u.inFlight = some x) :
    u.marked = u.queue.countP (fun f => f.mark) + x.frame.mark.toNat := by simp [Satellite.marked, h]

theorem Satellite.finish_keeps (u : Satellite) : u.Keeps u.finish := by
  unfold Satellite.finish
  split
  · exact .refl u
  · next x flight =>
    refine ⟨id, fun ⟨count, table, catchUp, raw⟩ => ⟨?_, table, catchUp, raw⟩⟩
    rw [Satellite.marked_of_flight flight] at count
    simp only [Satellite.marked]
    omega

theorem Satellite.start_keeps (u : Satellite) : u.Keeps u.start ∧ u.start.activationCount = u.activationCount := by
  unfold Satellite.start
  split
  · next may =>
    split
    · exact ⟨.refl u, rfl⟩
    · next f rest queue =>
      have empty : u.inFlight = none := by
        simp only [Satellite.mayStart, Bool.and_eq_true, Option.isNone_iff_eq_none] at may
        exact may.1.2
      refine ⟨⟨fun h => by simp [queue] at h; dsimp only; omega, fun ⟨count, table, catchUp, raw⟩ =>
        ⟨?_, table, catchUp, fun on => ?_⟩⟩, rfl⟩
      · simp only [Satellite.marked, empty, queue, List.countP_cons] at count ⊢
        rw [count]
        cases f.mark <;> simp
      · have := raw on
        simp only [queue, List.all_cons, Bool.and_eq_true] at this
        exact this.2
  · exact ⟨.refl u, rfl⟩

/-- The frame in flight waits on, or takes other bytes. -/
theorem Satellite.setFlight_keeps {u : Satellite} {x y : InFlight} (h : u.inFlight = some x) (same : y.frame = x.frame) :
    u.Keeps { u with inFlight := some y } := by
  refine ⟨id, fun ⟨count, table, catchUp, raw⟩ => ⟨?_, table, catchUp, raw⟩⟩
  rw [Satellite.marked_of_flight h] at count
  simpa [Satellite.marked, same] using count

theorem Satellite.sent_keeps (u : Satellite) : u.Keeps u.sent := by
  unfold Satellite.sent
  split
  · exact Satellite.keeps_of_same rfl rfl rfl rfl Iff.rfl rfl
  · split
    · next flight =>
      split
      · exact Satellite.setFlight_keeps flight rfl
      · exact u.finish_keeps
    · exact .refl u

theorem Satellite.ack_keeps (u : Satellite) (a : Nat) : u.Keeps (u.ack a) := by
  unfold Satellite.ack
  split
  · split
    · exact u.finish_keeps
    · exact Satellite.keeps_of_same rfl rfl rfl rfl Iff.rfl rfl
  · exact Satellite.keeps_of_same rfl rfl rfl rfl Iff.rfl rfl

theorem Satellite.framing_keeps (u : Satellite) : u.Keeps u.framing := Satellite.keeps_of_same rfl rfl rfl rfl Iff.rfl rfl

/-! ### Bypass -/

/-- R195: a bypass takes the frames that are not RAW, with their marks, out of the queue. -/
theorem Satellite.bypassOn_keeps (u : Satellite) (timeout : Option Nat) : u.Keeps (u.bypassOn timeout) := by
  refine ⟨fun h => (List.length_filter_le _ _).trans h, fun ⟨count, table, _, _⟩ => ⟨?_, table, fun off => (Option.some_ne_none _ off).elim,
    fun _ => ?_⟩⟩
  · have split : u.queue.countP (fun f => f.mark) =
        (u.queue.filter (fun f => f.origin == .raw)).countP (fun f => f.mark) +
          (u.queue.filter (fun f => f.origin != .raw)).countP (fun f => f.mark) := by
      generalize u.queue = q
      induction q with
      | nil => rfl
      | cons f rest ih =>
        cases h : f.origin == .raw
        · simp [h, bne, ih, List.countP_cons]; omega
        · simp [h, bne, ih, List.countP_cons]; omega
    simp only [Satellite.bypassOn, Satellite.marked] at *
    omega
  · simp [Satellite.bypassOn]

theorem Satellite.bypassTimer_keeps {u : Satellite} (on : u.bypass ≠ none) (timeout : Option Nat) :
    u.Keeps (u.bypassTimer timeout) := Satellite.keeps_of_same rfl rfl rfl rfl (by simp [Satellite.bypassTimer, on]) rfl

theorem Satellite.restartTimer_keeps (u : Satellite) :
    u.Keeps u.restartTimer ∧ u.restartTimer.activationCount = u.activationCount := by
  unfold Satellite.restartTimer
  split
  · exact ⟨.refl u, rfl⟩
  · next on => exact ⟨Satellite.keeps_of_same rfl rfl rfl rfl (by simp [on]) rfl, rfl⟩

/-- R197: a replay keeps the capacity, the marks and the table; the bypass that runs ends with it. -/
theorem Satellite.replay_keeps (u : Satellite) (e : CatchUp) :
    (u.queue.length ≤ 16 → (u.replay e).queue.length ≤ 16) ∧
    (u.activationCount = u.marked → (u.replay e).activationCount = (u.replay e).marked) ∧ (u.replay e).table = u.table := by
  unfold Satellite.replay
  split
  · exact ⟨id, id, rfl⟩
  · exact ⟨fun h => Satellite.place_length h _, fun h => Satellite.place_counted h _, Satellite.place_table _ _⟩

theorem Satellite.bypassEnd_keeps (u : Satellite) : u.Keeps u.bypassEnd := by
  unfold Satellite.bypassEnd
  split
  · exact .refl u
  · have replayed : ∀ (es : List CatchUp) (v : Satellite),
        (v.queue.length ≤ 16 → (es.foldl Satellite.replay v).queue.length ≤ 16) ∧
        (v.activationCount = v.marked → (es.foldl Satellite.replay v).activationCount = (es.foldl Satellite.replay v).marked) ∧
        (es.foldl Satellite.replay v).table = v.table := by
      intro es
      induction es with
      | nil => exact fun v => ⟨id, id, rfl⟩
      | cons e es ih =>
        intro v
        obtain ⟨bound, count, table⟩ := v.replay_keeps e
        obtain ⟨bound', count', table'⟩ := ih (v.replay e)
        exact ⟨bound' ∘ bound, count' ∘ count, table'.trans table⟩
    obtain ⟨bound, count, table⟩ := replayed u.catchUp u
    exact ⟨bound, fun ⟨h, t, _, _⟩ => ⟨count h, (congrArg List.length table).trans t, fun _ => rfl, fun on => absurd rfl on⟩⟩

/-- R194: a RAW frame joins a queue that has room. -/
theorem Satellite.appendRaw_keeps {u : Satellite} {f : SatFrame} (raw : f.origin = .raw) (unmarked : f.mark = false)
    (room : u.queue.length < 16) : u.Keeps { u with queue := u.queue ++ [f] } := by
  refine ⟨fun _ => by simpa using room, fun ⟨count, table, catchUp, all⟩ => ⟨?_, table, catchUp, fun on => ?_⟩⟩
  · simpa [Satellite.marked, unmarked] using count
  · simpa [raw] using all on

theorem Satellite.write_keeps (u : Satellite) (w : Option AddressWrite) (timeout : Option Nat) : u.Keeps (u.write w timeout) :=
  Satellite.keeps_of_same rfl rfl rfl (by cases w <;> simp [Satellite.write, writeEntry]) Iff.rfl rfl

theorem Satellite.tick_keeps (u : Satellite) : u.Keeps u.tick := by
  refine ⟨id, fun ⟨count, table, catchUp, raw⟩ => ⟨?_, table, catchUp, raw⟩⟩
  simp only [Satellite.tick, Satellite.marked] at *
  rw [count]
  cases u.inFlight <;> rfl

theorem Satellite.settle_keeps (u : Satellite) : u.Keeps u.settle :=
  Satellite.keeps_of_same rfl rfl rfl rfl (by simp [Satellite.settle]) rfl

end Sys2Proof.Machine
end

section
/-! PROOFS. The steps of the roles on the way to the crossfade. -/
namespace Sys2Proof.Machine

/-! ## The way to the crossfade -/

/-- R91, R110: a buffer that leaves the running roles, or moves between those that leave, keeps the law. -/
theorem State.setRole_roles {s t : State} {b : BufferId} {x : Buffer} (set : t.buffers = s.buffers.set b x)
    (engine : t.engine = s.engine) (from' : (s.buffers.get b).role = .outgoing ∨ (s.buffers.get b).role.leaving = true)
    (into : x.role = .free ∨ (x.role.leaving = true ∧ (s.buffers.get b).role.leaving = true))
    (holds : x.role = .free ↔ x.context = none) (atRest : x.role.running = false → x.atRest)
    (h : s.rolesCoherent ∧ s.restingByQueue) : t.rolesCoherent ∧ t.restingByQueue := by
  obtain ⟨⟨⟨active, coming, leaving, running⟩, held, rest, under, law, pend, out, leave⟩, byQueue⟩ := h
  have none (p : Role → Bool) (hp : p = (fun r => r == .active) ∨ p = Role.coming ∨ p = Role.leaving ∨ p = Role.running ∨
      p = (fun r => r == .outgoing)) : t.rolesIn p ≤ s.rolesIn p := by
    have count := State.rolesIn_set set p
    suffices (p x.role).toNat ≤ (p (s.buffers.get b).role).toNat by omega
    revert from' into
    generalize (s.buffers.get b).role = r
    generalize x.role = q
    intro from' into
    rcases hp with rfl | rfl | rfl | rfl | rfl <;> revert from' into <;> cases r <;> cases q <;> decide
  have other : ∀ cur, s.engine.current = some cur → cur.buffer ≠ b := by
    rintro cur hcur rfl
    have := law cur hcur
    revert from' this
    generalize (s.buffers.get cur.buffer).role = r
    cases s.engine.state <;> cases r <;> simp [EngineState.bufferRole, Role.leaving]
  refine ⟨⟨⟨(none _ (by simp)).trans active, (none _ (by simp)).trans coming, (none _ (by simp)).trans leaving,
    (none _ (by simp)).trans running⟩, fun k => ?_, fun k => ?_, by rwa [engine], fun cur hcur => ?_, fun e => ?_, fun e => ?_,
    fun e => ?_⟩, ?_⟩
  · by_cases hk : b = k
    · subst hk; rw [set, PerBuffer.get_set]; exact holds
    · rw [set, PerBuffer.get_set_ne _ _ hk]; exact held k
  · by_cases hk : b = k
    · subst hk; rw [set, PerBuffer.get_set]; exact atRest
    · rw [set, PerBuffer.get_set_ne _ _ hk]; exact rest k
  · rw [engine] at hcur ⊢
    rw [set, PerBuffer.get_set_ne _ _ (other cur hcur).symm]
    exact law cur hcur
  · rw [engine] at e
    exact Nat.le_zero.mp ((none _ (by simp)).trans (le_of_eq (pend e)))
  · rw [engine] at e
    exact Nat.le_zero.mp ((none (fun r => r == .outgoing) (by simp)).trans (le_of_eq (out e)))
  · rw [engine] at e
    exact Nat.le_zero.mp ((none _ (by simp)).trans (le_of_eq (leave e)))
  · unfold State.restingByQueue; rwa [engine]

theorem State.freeBuffer_names (s : State) (b : BufferId) :
    (s.freeBuffer b).curves.map (fun e => (e.name, e.points)) = s.curves.map (fun e => (e.name, e.points)) := by
  unfold State.freeBuffer
  cases (s.buffers.get b).context with
  | none => rfl
  | some c => exact moveRefs_names _ _ _

/-- R91: a buffer that is OUTGOING, SPILL or CUTTING becomes FREE. -/
theorem State.freeBuffer_keeps {s : State} {b : BufferId}
    (h : (s.buffers.get b).role = .outgoing ∨ (s.buffers.get b).role.leaving = true) : s.Keeps (s.freeBuffer b) where
  pending := rfl
  bounded := id
  builtIns := (State.curves_keeps s (s.freeBuffer_names b)).builtIns
  roles := State.setRole_roles rfl rfl h (.inl rfl) (iff_of_true rfl rfl) (fun _ => ⟨rfl, rfl⟩)
  tuner := id
  held := id
  sat := id
  links := id

/-- R110, R115: a SPILL buffer becomes CUTTING. -/
theorem State.startCut_keeps {s : State} {b : BufferId} (h : (s.buffers.get b).role = .spill) : s.Keeps (s.startCut b) where
  pending := rfl
  bounded := id
  builtIns := id
  roles k := by
    have held := k.1.2.1 b
    refine State.setRole_roles rfl rfl (.inr (by rw [h]; rfl)) (.inr ⟨rfl, by rw [h]; rfl⟩) ?_ (by simp [Role.running]) k
    rw [h] at held
    simpa using held
  tuner := id
  held := id
  sat := id
  links := id

/-- R93: the pending switch moves on: from one state in which its buffer has a role to another. -/
theorem State.setState_keeps {s : State} {e : EngineState} (law : e.bufferRole = s.engine.state.bufferRole)
    (pending : s.engine.state.pendingSwitch = true) (pending' : e.pendingSwitch = true) :
    s.Keeps (s.setEngine { s.engine with state := e }) where
  pending := rfl
  bounded := id
  builtIns := id
  roles := by
    rintro ⟨⟨count, holds, rest, under, role, -, out, -⟩, -⟩
    have busy (x : EngineState) (h : x.pendingSwitch = true) : x.resting = false ∧ x ≠ .crossfading := by
      cases x <;> simp_all [EngineState.pendingSwitch, EngineState.resting]
    obtain ⟨resting, fading⟩ := busy _ pending
    obtain ⟨resting', fading'⟩ := busy _ pending'
    refine ⟨⟨count, holds, rest, ?_, ?_, ?_, fun _ => out fading, fun k => absurd k fading'⟩, ?_⟩
    · simpa [State.setEngine_engine, resting'] using by simpa [resting] using under
    · simpa [State.setEngine_engine, law] using role
    · simp [State.setEngine_engine, pending']
    · constructor <;> intro k <;> simp only [State.setEngine_engine] at k <;> rw [k] at resting' <;> cases resting'
  tuner := id
  held := id
  sat := id
  links := id

/-- R107: the buffer of the load becomes READY; the engine is then as good as ARMED. -/
theorem State.loaded_keeps {s : State} {cur : CurrentSwitch} (state : s.engine.state = .loading)
    (current : s.engine.current = some cur) :
    s.Keeps ((s.setBuffer cur.buffer { s.buffers.get cur.buffer with role := .ready }).setEngine
      { s.engine with state := .armed }) where
  pending := rfl
  bounded := id
  builtIns := id
  roles := by
    rintro ⟨⟨⟨active, coming, leaving, running⟩, holds, rest, under, law, pend, out, leave⟩, -⟩
    have role : (s.buffers.get cur.buffer).role = .loading := by
      have := law cur current
      rw [state] at this
      exact (Option.some.inj this).symm
    generalize ht : (s.setBuffer cur.buffer { s.buffers.get cur.buffer with role := .ready }).setEngine
      { s.engine with state := .armed } = t
    have set : t.buffers = s.buffers.set cur.buffer { s.buffers.get cur.buffer with role := .ready } := by rw [← ht]; rfl
    have engine : t.engine = { s.engine with state := .armed } := by rw [← ht]; rfl
    have same (p : Role → Bool) (hp : p .loading = p .ready) : t.rolesIn p = s.rolesIn p := by
      have := State.rolesIn_set set p
      rw [role, hp] at this
      exact Nat.add_right_cancel this
    refine ⟨⟨⟨?_, ?_, ?_, ?_⟩, fun k => ?_, fun k => ?_, ?_, fun c hc => ?_, ?_, ?_, ?_⟩, ?_⟩
    · rwa [same _ rfl]
    · rwa [same _ rfl]
    · rwa [same _ rfl]
    · rwa [same _ rfl]
    · by_cases hk : cur.buffer = k
      · subst hk
        have := holds cur.buffer
        rw [role] at this
        simpa [set] using this
      · rw [set, PerBuffer.get_set_ne _ _ hk]; exact holds k
    · by_cases hk : cur.buffer = k
      · subst hk
        rw [set, PerBuffer.get_set]
        exact fun _ => rest cur.buffer (by rw [role]; rfl)
      · rw [set, PerBuffer.get_set_ne _ _ hk]; exact rest k
    · simp [engine, EngineState.resting, current]
    · rw [engine] at hc ⊢
      rw [current] at hc
      obtain rfl := Option.some.inj hc
      simp [set, EngineState.bufferRole]
    · simp [engine, EngineState.pendingSwitch]
    · rw [same _ rfl]; exact fun _ => out (by rw [state]; decide)
    · simp [engine]
    · simp [State.restingByQueue, engine]
  tuner := id
  held := id
  sat := id
  links := id

/-- R111: the role of a buffer as the crossfade starts. -/
def Role.swapped (r : Role) : Role := if r = .active then .outgoing else r

/-- R91, R93, R111: the roles change and the engine is CROSSFADING, when no buffer is left that is SPILL or CUTTING. -/
theorem State.swap_roles {s : State} {cur new : CurrentSwitch} (c : Context) (e : Engine)
    (current : s.engine.current = some cur) (law : s.engine.state.bufferRole = some .ready)
    (none : s.rolesIn Role.leaving = 0) (state : e.state = .crossfading) (current' : e.current = some new)
    (same : new.buffer = cur.buffer) (h : s.rolesCoherent ∧ s.restingByQueue) :
    ((s.swapRoles cur.buffer c).setEngine e).rolesCoherent ∧ ((s.swapRoles cur.buffer c).setEngine e).restingByQueue := by
  obtain ⟨⟨⟨active, coming, leaving, running⟩, holds, rest, under, role, pend, out, leave⟩, -⟩ := h
  have ready : (s.buffers.get cur.buffer).role = .ready := by
    have := role cur current
    rw [law] at this
    exact (Option.some.inj this).symm
  have quiet : s.rolesIn (fun r => r == .outgoing) = 0 := out (by rintro e; rw [e] at law; cases law)
  have total := s.rolesIn_running
  generalize ht : (s.swapRoles cur.buffer c).setEngine e = t
  have engine : t.engine = e := by rw [← ht]; rfl
  -- first every ACTIVE buffer becomes OUTGOING, then the new one ACTIVE
  let old : State := { s with
    buffers := s.buffers.map (fun (x : Buffer) => if x.role = .active then { x with role := .outgoing } else x) }
  have oldRole (k : BufferId) : (old.buffers.get k).role = Role.swapped (s.buffers.get k).role := by
    simp only [old, PerBuffer.get_map, Role.swapped]; split <;> rfl
  have set : ∃ x, t.buffers = old.buffers.set cur.buffer x ∧ x.role = .active ∧ x.context ≠ Option.none := by
    rw [← ht]; exact ⟨_, rfl, rfl, by simp⟩
  obtain ⟨x, set, xRole, xHolds⟩ := set
  have count (p : Role → Bool) : t.rolesIn p + (p .ready).toNat = s.rolesIn (p ∘ Role.swapped) + (p .active).toNat := by
    have := State.rolesIn_set set p
    rw [oldRole, ready, xRole, State.rolesIn_comp oldRole] at this
    exact this
  have counted (p q : Role → Bool) (hp : p ∘ Role.swapped = q) (hr : p .ready = false) :
      t.rolesIn p = s.rolesIn q + (p .active).toNat := by
    have := count p
    rw [hp, hr] at this
    exact this
  have nActive : t.rolesIn (fun r => r == .active) = 1 := by
    rw [counted _ (fun _ => false) (by funext r; cases r <;> rfl) rfl]
    simp [State.rolesIn]
  have nComing : t.rolesIn Role.coming + 1 = s.rolesIn Role.coming := by
    have := count Role.coming
    rwa [show Role.coming ∘ Role.swapped = Role.coming by funext r; cases r <;> rfl] at this
  have nLeaving : t.rolesIn Role.leaving = 0 := by
    rw [counted _ Role.leaving (by funext r; cases r <;> rfl) rfl, none]; rfl
  have nRunning : t.rolesIn Role.running = s.rolesIn Role.running + 1 :=
    counted _ Role.running (by funext r; cases r <;> rfl) rfl
  have here : t.buffers.get cur.buffer = x := by rw [set, PerBuffer.get_set]
  have there (k : BufferId) (hk : cur.buffer ≠ k) : t.buffers.get k = old.buffers.get k := by
    rw [set, PerBuffer.get_set_ne _ _ hk]
  have oldContext (k : BufferId) : (old.buffers.get k).context = (s.buffers.get k).context := by
    simp only [old, PerBuffer.get_map]; split <;> rfl
  refine ⟨⟨⟨le_of_eq nActive, by omega, by omega, by omega⟩, fun k => ?_, fun k => ?_, ?_, fun d hd => ?_, fun _ => by omega, ?_,
    fun _ => nLeaving⟩, ?_⟩
  · by_cases hk : cur.buffer = k
    · subst hk; rw [here, xRole]; simp [xHolds]
    · rw [there k hk, oldRole, oldContext, ← holds k]
      cases (s.buffers.get k).role <;> simp [Role.swapped]
  · by_cases hk : cur.buffer = k
    · subst hk; rw [here, xRole]; intro r; cases r
    · rw [there k hk]
      simp only [old, PerBuffer.get_map]
      split
      · intro r; cases r
      · exact rest k
  · rw [engine, state, current']; simp [EngineState.resting]
  · rw [engine, current'] at hd
    obtain rfl := Option.some.inj hd
    rw [engine, state, same, here, xRole]
    rfl
  · rw [engine, state]; exact fun k => absurd rfl k
  · simp [State.restingByQueue, engine, state]

end Sys2Proof.Machine
end

section
/-! PROOFS. The activation and what leads to it keep the invariants. -/
namespace Sys2Proof.Machine

/-! ## The activation -/

/-- R111: the roles change and the engine is CROSSFADING, in a state in which no buffer is SPILL or CUTTING. -/
theorem State.swap_keeps {s₀ s : State} {cur new : CurrentSwitch} (c : Context) (n : Nat) (k : s₀.Keeps s)
    (none : s₀.rolesCoherent → s.rolesIn Role.leaving = 0) (current : s.engine.current = some cur)
    (law : s.engine.state.bufferRole = some .ready) (same : new.buffer = cur.buffer) :
    s₀.Keeps ((s.swapRoles cur.buffer c).setEngine
      { s.engine with state := .crossfading, current := some new, fadeFrame := 0, fadeLength := n }) where
  pending := k.pending
  bounded := k.bounded
  builtIns := k.builtIns
  roles h := State.swap_roles c _ current law (none h.1) rfl rfl same (k.roles h)
  tuner := k.tuner
  held := k.held
  sat := k.sat
  links := k.links

theorem State.changeTempo_keeps (s : State) (t : Nat) (x : TempoSource) : s.Keeps (s.changeTempo t x) :=
  ⟨rfl, id, id, id, id, id, id, id⟩

theorem State.presetTempo_keeps (s : State) (t : Option Nat) : s.Keeps (s.presetTempo t) := by
  unfold State.presetTempo
  split
  · exact .refl s
  · split
    · exact .refl s
    · exact s.changeTempo_keeps _ _

theorem State.forceOverlay_keeps (s : State) (b : BufferId) (c : Context) : s.Keeps (s.forceOverlay b c) :=
  ⟨rfl, id, id, id, id, id, id, id⟩

/-- R111: an activation keeps the invariants where no buffer is SPILL or CUTTING. -/
theorem State.activate_keeps_of {s₀ s : State} {cur : CurrentSwitch} (k : s₀.Keeps s)
    (none : s₀.rolesCoherent → s.rolesIn Role.leaving = 0) (current : s.engine.current = some cur)
    (law : s.engine.state.bufferRole = some .ready) : s₀.Keeps (s.activate cur) := by
  unfold State.activate
  split
  · exact k
  · next c0 _ =>
    extract_lets s1 ch e s2 s3
    have swapped : s₀.Keeps s2 := State.swap_keeps c0 _ k none current law rfl
    have edited : s₀.Keeps s3 := swapped.trans (State.editHistory_keeps _ _)
    split
    · exact edited
    · next c hc =>
      extract_lets s4 s5 s6
      have applied : s₀.Keeps s4 := edited.trans (State.applyScene_keeps c _ _ (by simp [hc]))
      have activated : s₀.Keeps s5 := applied.trans (State.sat_sync_keeps (Satellite.activate_keeps _ _))
      exact (activated.trans ((State.presetTempo_keeps _ _).trans (State.forceOverlay_keeps _ _ _))).trans
        (State.post_keeps _ _ _ (by simp [NoticeBody.kind]))

theorem State.rolesIn_leaving (s : State) :
    s.rolesIn Role.leaving = s.rolesIn (fun r => r == .spill) + s.rolesIn (fun r => r == .cutting) := by
  have one (r : Role) : r.leaving.toNat = (r == .spill).toNat + (r == .cutting).toNat := by cases r <;> rfl
  simp only [State.rolesIn_eq, one]
  omega

theorem State.enterCutting_keeps {s : State} (law : s.engine.state.bufferRole = some .ready) : s.Keeps s.enterCutting := by
  refine State.setState_keeps (by rw [law]; rfl) ?_ rfl
  revert law
  cases s.engine.state <;> simp [EngineState.bufferRole, EngineState.pendingSwitch]

/-- R110: the engine proceeds with a READY context. -/
theorem State.proceed_keeps_of {s₀ s : State} {cur : CurrentSwitch} (k : s₀.Keeps s) (current : s.engine.current = some cur)
    (law : s.engine.state.bufferRole = some .ready) : s₀.Keeps (s.proceed cur) := by
  unfold State.proceed
  split
  · next b rest spill =>
    exact (k.trans (State.startCut_keeps (State.role_of_withRole spill))).trans (State.enterCutting_keeps law)
  · next spill =>
    split
    · next cutting =>
      refine State.activate_keeps_of k (fun _ => ?_) current law
      rw [State.rolesIn_leaving, State.withRole_eq_nil.mp spill, State.withRole_eq_nil.mp (List.isEmpty_iff.mp cutting)]
    · exact k.trans (State.enterCutting_keeps law)

/-- Of two engines put in place one after the other the second stays, and an activation or a cut gives the engine its state. -/
theorem State.proceed_setState {s : State} {cur : CurrentSwitch} (x : EngineState)
    (held : (s.buffers.get cur.buffer).context ≠ none) :
    (s.setEngine { s.engine with state := x }).proceed cur = s.proceed cur := by
  unfold State.proceed
  have roles (r : Role) : (s.setEngine { s.engine with state := x }).withRole r = s.withRole r := rfl
  rw [roles, roles]
  split
  · rfl
  · split
    · unfold State.activate
      rw [State.setEngine_buffers]
      split
      · next e => exact absurd e held
      · rfl
    · rfl

/-- R107: the load completes. -/
theorem State.loadDone_keeps {s : State} {cur : CurrentSwitch} (c : Context) (state : s.engine.state = .loading)
    (current : s.engine.current = some cur) (held : (s.buffers.get cur.buffer).context ≠ none) : s.Keeps (s.loadDone cur c) := by
  have loaded := State.loaded_keeps state current
  unfold State.loadDone
  extract_lets x t
  split
  · rw [← State.proceed_setState (s := t) .armed (by simpa [t, x] using held)]
    exact State.proceed_keeps_of loaded current rfl
  · exact loaded

/-- R109: a beat reaches the engine. -/
theorem State.engineBeat_keeps (s : State) (bar : Bool) : s.Keeps (s.engineBeat bar) := by
  unfold State.engineBeat
  split
  · next cur state current =>
    split
    · split
      · exact .refl s
      · exact State.proceed_keeps_of (.refl s) current (by rw [state]; rfl)
    · exact .refl s
  · exact .refl s

/-- R110: a buffer that leaves is freed, and the crossfade that waited for it starts. -/
theorem State.resume_keeps {s : State} {b : BufferId} (h : (s.buffers.get b).role.leaving = true) :
    s.Keeps (s.freeBuffer b).resumeCutting := by
  have freed : s.Keeps (s.freeBuffer b) := State.freeBuffer_keeps (.inr h)
  unfold State.resumeCutting
  split
  · next cur state current =>
    refine State.activate_keeps_of freed (fun coherent => ?_) current (by rw [state]; rfl)
    have count := State.rolesIn_set (s := s) (t := s.freeBuffer b) rfl Role.leaving
    have atMost := coherent.1.2.2.1
    rw [h, show Role.leaving Buffer.free.role = false from rfl, Bool.toNat_true, Bool.toNat_false] at count
    omega
  · exact freed

end Sys2Proof.Machine
end

section
/-! PROOFS. The completion of a crossfade keeps the invariants. -/
namespace Sys2Proof.Machine

/-! ## The completion of a crossfade -/

/-- A change of the buffers, and of the counts of the curves, that leaves all else. -/
def State.BuffersOnly (s t : State) : Prop :=
  ∃ bs cs, t = { s with buffers := bs, curves := cs } ∧
    cs.map (fun (e : CurveEntry) => (e.name, e.points)) = s.curves.map (fun e => (e.name, e.points))

theorem State.BuffersOnly.refl (s : State) : s.BuffersOnly s := ⟨_, _, rfl, rfl⟩

theorem State.BuffersOnly.trans {s t u : State} (h : s.BuffersOnly t) (k : t.BuffersOnly u) : s.BuffersOnly u := by
  obtain ⟨bs, cs, rfl, names⟩ := h
  obtain ⟨bs', cs', rfl, names'⟩ := k
  exact ⟨bs', cs', rfl, names'.trans names⟩

theorem State.BuffersOnly.foldl {f : State → BufferId → State} (h : ∀ (s : State) b, s.BuffersOnly (f s b)) (xs : List BufferId)
    (s : State) : s.BuffersOnly (xs.foldl f s) := by
  induction xs generalizing s with
  | nil => exact .refl s
  | cons x xs ih => exact (h s x).trans (ih _)

/-- A change of the buffers that leaves the engine at rest keeps the invariants where it keeps the law of the roles. -/
theorem State.BuffersOnly.rest_keeps {s t : State} (h : s.BuffersOnly t)
    (roles : s.rolesCoherent ∧ s.restingByQueue → (t.setEngine t.engine.rest).rolesCoherent ∧
      (t.setEngine t.engine.rest).restingByQueue) : s.Keeps (t.setEngine t.engine.rest) := by
  obtain ⟨bs, cs, rfl, names⟩ := h
  exact ⟨rfl, id, (State.curves_keeps s names).builtIns, roles, id, id, id, id⟩

theorem State.freeBuffer_only (s : State) (b : BufferId) : s.BuffersOnly (s.freeBuffer b) :=
  ⟨_, _, rfl, s.freeBuffer_names b⟩

theorem State.endOutgoing_only (s : State) (b : BufferId) : s.BuffersOnly (s.endOutgoing b) := by
  unfold State.endOutgoing
  split
  · exact s.freeBuffer_only b
  · split
    · exact ⟨_, _, rfl, rfl⟩
    · exact s.freeBuffer_only b

/-- R113: an OUTGOING buffer becomes SPILL with its context, or FREE. -/
theorem State.endOutgoing_set (s : State) (b : BufferId) : ∃ x : Buffer,
    (s.endOutgoing b).buffers = s.buffers.set b x ∧
    ((x.role = .spill ∧ x.context ≠ none) ∨ (x.role = .free ∧ x.context = none ∧ x.atRest)) := by
  have freed : ∃ x : Buffer, (s.freeBuffer b).buffers = s.buffers.set b x ∧
      ((x.role = .spill ∧ x.context ≠ none) ∨ (x.role = .free ∧ x.context = none ∧ x.atRest)) :=
    ⟨_, rfl, .inr ⟨rfl, rfl, rfl, rfl⟩⟩
  unfold State.endOutgoing
  split
  · exact freed
  · next c hc =>
    split
    · exact ⟨_, rfl, .inl ⟨rfl, by simp [hc]⟩⟩
    · exact freed

/-- R93: while a crossfade runs there is at most one OUTGOING buffer. -/
theorem State.outgoing_le_one {s : State} {cur : CurrentSwitch} (h : s.rolesCoherent) (state : s.engine.state = .crossfading)
    (current : s.engine.current = some cur) : s.rolesIn (fun r => r == .outgoing) ≤ 1 := by
  obtain ⟨⟨-, -, -, running⟩, -, -, -, law, -⟩ := h
  have role := law cur current
  rw [state] at role
  have some' : 0 < s.rolesIn (fun r => r == .active) := (State.rolesIn_pos_iff _ _).mpr
    ⟨cur.buffer, by simp [← Option.some.inj role]⟩
  have := s.rolesIn_running
  omega

theorem State.withRole_length (s : State) (r : Role) : (s.withRole r).length = s.rolesIn (fun x => x == r) := by
  simp only [State.withRole, State.rolesIn, List.countP_eq_length_filter]

/-- R113: the OUTGOING buffer spills or is freed, and the engine rests. -/
theorem State.faded_keeps {s : State} {cur : CurrentSwitch} (state : s.engine.state = .crossfading)
    (current : s.engine.current = some cur) :
    s.Keeps (((s.withRole .outgoing).foldl State.endOutgoing s).setEngine
      ((s.withRole .outgoing).foldl State.endOutgoing s).engine.rest) := by
  refine State.BuffersOnly.rest_keeps (.foldl State.endOutgoing_only _ _) fun ⟨coherent, _⟩ => ?_
  have one := State.outgoing_le_one coherent state current
  obtain ⟨⟨active, coming, leaving, running⟩, holds, rest, under, law, pend, out, leave⟩ := coherent
  have noneComing := pend (by rw [state]; rfl)
  have noneLeaving := leave state
  rw [← State.withRole_length] at one
  match e : s.withRole .outgoing with
  | [] => exact State.rest_coherent active noneComing ((le_of_eq noneLeaving).trans (by decide)) (State.withRole_eq_nil.mp e) holds rest
  | b :: c :: more => rw [e] at one; simp at one
  | [b] =>
    rw [List.foldl_cons, List.foldl_nil]
    have role : (s.buffers.get b).role = .outgoing := State.role_of_withRole e
    obtain ⟨x, set, ends⟩ := s.endOutgoing_set b
    have count := State.rolesIn_set set
    rw [role] at count
    have here : (s.endOutgoing b).buffers.get b = x := by rw [set, PerBuffer.get_set]
    have there (k : BufferId) (h : b ≠ k) : (s.endOutgoing b).buffers.get k = s.buffers.get k := by
      rw [set, PerBuffer.get_set_ne _ _ h]
    have single : s.rolesIn (fun r => r == .outgoing) = 1 := by rw [← State.withRole_length, e]; rfl
    have ended : x.role = .spill ∨ x.role = .free := ends.imp And.left And.left
    have nActive : (s.endOutgoing b).rolesIn (fun r => r == .active) = s.rolesIn (fun r => r == .active) := by
      have := count (fun r => r == .active)
      rcases ended with r | r <;> rw [r] at this <;> exact this
    have nComing : (s.endOutgoing b).rolesIn Role.coming = s.rolesIn Role.coming := by
      have := count Role.coming
      rcases ended with r | r <;> rw [r] at this <;> exact this
    have nLeaving : (s.endOutgoing b).rolesIn Role.leaving ≤ 1 := by
      have : (s.endOutgoing b).rolesIn Role.leaving = s.rolesIn Role.leaving + (Role.leaving x.role).toNat :=
        count Role.leaving
      have := Bool.toNat_le (Role.leaving x.role)
      omega
    have nOutgoing : (s.endOutgoing b).rolesIn (fun r => r == .outgoing) = 0 := by
      have moved := count (fun r => r == .outgoing)
      have : (s.endOutgoing b).rolesIn (fun r => r == .outgoing) + 1 = s.rolesIn (fun r => r == .outgoing) := by
        rcases ended with r | r <;> rw [r] at moved <;> exact moved
      omega
    refine State.rest_coherent (by omega) (by omega) nLeaving nOutgoing (fun k => ?_) (fun k => ?_)
    · by_cases h : b = k
      · subst h; rw [here]; rcases ends with ⟨r, c⟩ | ⟨r, c, -⟩ <;> simp [r, c]
      · rw [there k h]; exact holds k
    · by_cases h : b = k
      · subst h; rw [here]
        rcases ends with ⟨r, -⟩ | ⟨-, -, quiet⟩
        · rw [r]; intro k; cases k
        · exact fun _ => quiet
      · rw [there k h]; exact rest k

/-- R19: a source other than TUNER is free of the invariants. -/
theorem State.setMute_keeps (s : State) {m : MuteSource} (h : m ≠ .tuner) (v : Bool) (o : PerMain Bool) :
    s.Keeps (s.setMute m v o) where
  pending := rfl
  bounded := id
  builtIns := id
  roles := id
  tuner k := by
    obtain ⟨engaged, off, muted⟩ := k
    refine ⟨engaged, off, fun x => ?_⟩
    have same : ((s.setMute m v o).mains.get x).sources.tuner = (s.mains.get x).sources.tuner := by
      rw [State.setMute_mains, muteOutputs, PerMain.get_of]
      dsimp only
      split
      · cases m
        case tuner => exact absurd rfl h
        all_goals rfl
      · rfl
    rw [same]
    exact muted x
  held := id
  sat := id
  links := id

theorem State.endSwitch_keeps (s : State) (cur : CurrentSwitch) (x : SwitchStatus) : s.Keeps (s.endSwitch cur x) := by
  unfold State.endSwitch
  split
  · exact .refl s
  · exact (State.editHistory_keeps _ _).trans (State.doneRequest_keeps _ _ _ _ _ _ _)

/-- R113: the engine may rest before the request ends. -/
theorem State.endSwitch_rest (s : State) (cur : CurrentSwitch) (x : SwitchStatus) :
    (s.endSwitch cur x).setEngine (s.endSwitch cur x).engine.rest = (s.setEngine s.engine.rest).endSwitch cur x := by
  unfold State.endSwitch
  rw [State.setEngine_buffers]
  split
  · rfl
  · dsimp only
    rw [State.doneRequest_engine, ← State.doneRequest_setEngine, State.editHistory_rest]
    rfl

/-- R113: the crossfade completes. -/
theorem State.fadeDone_keeps {s : State} {cur : CurrentSwitch} (state : s.engine.state = .crossfading)
    (current : s.engine.current = some cur) : s.Keeps (s.fadeDone cur) := by
  unfold State.fadeDone State.restEngine
  extract_lets t u
  rw [State.endSwitch_rest]
  refine .trans ?_ ((State.endSwitch_keeps _ _ _).trans (State.headTest_keeps _))
  exact (State.faded_keeps state current).trans (.trans (State.setMute_keeps _ (m := .start) (by decide) false everyOutput)
    (State.setMute_keeps _ (m := .panic) (by decide) false everyOutput))

end Sys2Proof.Machine
end

section
/-! PROOFS. PANIC keeps the invariants. -/
namespace Sys2Proof.Machine

/-! ## PANIC -/

theorem State.foldl_freeBuffer_get (bs : List BufferId) (s : State) (k : BufferId) :
    (bs.foldl State.freeBuffer s).buffers.get k = if k ∈ bs then Buffer.free else s.buffers.get k := by
  induction bs generalizing s with
  | nil => simp
  | cons b bs ih =>
    rw [List.foldl_cons, ih, State.freeBuffer_buffers]
    by_cases h : b = k
    · subst h; simp
    · simp [PerBuffer.get_set_ne _ _ h, Ne.symm h]

/-- R117: the buffers of a role become FREE, and no other changes. -/
theorem State.freeRole_get (s : State) (r : Role) (k : BufferId) :
    (s.freeRole r).buffers.get k = if (s.buffers.get k).role = r then Buffer.free else s.buffers.get k := by
  simp [State.freeRole, State.foldl_freeBuffer_get, State.mem_withRole]

theorem State.freeRole_engine (s : State) (r : Role) : (s.freeRole r).engine = s.engine := by
  obtain ⟨bs, cs, e, -⟩ := State.BuffersOnly.foldl State.freeBuffer_only (s.withRole r) s
  rw [State.freeRole, e]

theorem State.foldl_freeBuffer_keeps {bs : List BufferId} (nodup : bs.Nodup) {s : State}
    (h : ∀ b ∈ bs, (s.buffers.get b).role = .outgoing ∨ (s.buffers.get b).role.leaving = true) :
    s.Keeps (bs.foldl State.freeBuffer s) := by
  induction bs generalizing s with
  | nil => exact .refl s
  | cons b bs ih =>
    obtain ⟨new, nodup⟩ := List.nodup_cons.mp nodup
    refine (State.freeBuffer_keeps (h b List.mem_cons_self)).trans (ih nodup fun k hk => ?_)
    rw [State.freeBuffer_buffers, PerBuffer.get_set_ne _ _ (by rintro rfl; exact new hk)]
    exact h k (List.mem_cons_of_mem _ hk)

theorem State.freeRole_keeps (s : State) {r : Role} (h : r = .outgoing ∨ r.leaving = true) : s.Keeps (s.freeRole r) := by
  refine State.foldl_freeBuffer_keeps (List.Nodup.filter _ (by decide)) fun b hb => ?_
  rw [State.mem_withRole.mp hb]
  exact h

/-- R117: with the buffers of a role gone, a role other than FREE that no buffer had is still had by none. -/
theorem State.freeRole_none (s : State) (r : Role) {p : Role → Bool} (h : s.rolesIn p = 0 ∨ p = (fun x => x == r))
    (free : p .free = false) : (s.freeRole r).rolesIn p = 0 := by
  by_contra some'
  obtain ⟨b, hb⟩ := (State.rolesIn_pos_iff _ _).mp (Nat.pos_of_ne_zero some')
  rw [State.freeRole_get] at hb
  split at hb
  · rw [show Buffer.free.role = .free from rfl, free] at hb
    cases hb
  · next other =>
    rcases h with none | rfl
    · have := (State.rolesIn_pos_iff s p).mpr ⟨b, hb⟩
      omega
    · exact other (by simpa using hb)

@[simp] theorem LoopUnit.abort_measuring (u : LoopUnit) : u.abort.measuring = none := by
  unfold LoopUnit.abort
  split
  · assumption
  · rfl

theorem State.abortMeasure_keeps (s : State) : s.Keeps s.abortMeasure := by
  unfold State.abortMeasure
  split
  · exact .refl s
  · exact .trans (t := ({ s with loops := s.loops.abort } : State).syncHoldOffs)
      (State.syncHoldOffs_keeps rfl id id id id id id) (State.post_keeps _ _ _ (by simp [NoticeBody.kind]))

/-- R69: an abort leaves the buffers, and of the engine all but the hold-off set. -/
theorem State.abortMeasure_only (s : State) : s.abortMeasure.buffers = s.buffers ∧
    ∃ h, s.abortMeasure.engine = { s.engine with holdOffs := h } := by
  unfold State.abortMeasure
  split
  · exact ⟨rfl, _, rfl⟩
  · dsimp only
    rw [State.post_buffers, State.post_engine]
    exact ⟨rfl, _, rfl⟩

/-- What PANIC leaves of a switch under way (R117): none, or a crossfade whose OUTGOING buffer is gone. -/
def State.switchOver (s : State) : Prop :=
  s.engine.current = none ∨ (s.engine.state = .crossfading ∧ s.rolesIn (fun r => r == .outgoing) = 0)

theorem State.endSwitch_only (s : State) (cur : CurrentSwitch) (x : SwitchStatus) :
    (s.endSwitch cur x).buffers = s.buffers ∧ ∃ h, (s.endSwitch cur x).engine = { s.engine with history := h } := by
  unfold State.endSwitch
  split
  · exact ⟨rfl, _, rfl⟩
  · dsimp only
    rw [State.doneRequest_buffers, State.doneRequest_engine]
    unfold State.editHistory
    split
    · exact ⟨rfl, _, rfl⟩
    · exact ⟨rfl, _, rfl⟩

theorem State.panicSwitch_over (s : State) :
    s.panicSwitch.switchOver ∧ s.panicSwitch.engine.queue = s.engine.queue := by
  unfold State.panicSwitch
  split
  · next none => exact ⟨.inl none, rfl⟩
  · next cur current =>
    split
    · next fading =>
      obtain ⟨buffers, h, engine⟩ := (s.freeRole .outgoing).endSwitch_only cur .panic
      refine ⟨.inr ⟨?_, ?_⟩, ?_⟩
      · rw [engine, State.freeRole_engine]; exact fading
      · exact Eq.trans (by simp only [State.rolesIn, buffers]) (s.freeRole_none .outgoing (.inr rfl) rfl)
      · rw [engine, State.freeRole_engine]
    · rw [State.abandonPending_eq]
      refine ⟨.inl ?_, ?_⟩
      · rw [(State.editHistory_current _ _).1, State.failRequest_engine]; rfl
      · rw [(State.editHistory_current _ _).2.2, State.failRequest_engine]; rfl

theorem State.panicSwitch_keeps (s : State) : s.Keeps s.panicSwitch := by
  unfold State.panicSwitch
  split
  · exact .refl s
  · next cur current =>
    split
    · exact (State.freeRole_keeps s (.inl rfl)).trans (State.endSwitch_keeps _ _ _)
    · next still =>
      refine State.abandonPending_keeps (fun coherent => Engine.pending_eq_some.mpr ⟨?_, current⟩) _
      obtain ⟨-, -, -, under, -⟩ := coherent
      rw [current] at under
      cases e : s.engine.state <;> simp_all [EngineState.pendingSwitch, EngineState.resting]

theorem State.switchOver.freeRole {s : State} (h : s.switchOver) (r : Role) : (s.freeRole r).switchOver := by
  unfold State.switchOver
  rw [State.freeRole_engine]
  exact h.imp_right fun ⟨fading, gone⟩ => ⟨fading, s.freeRole_none r (.inl gone) rfl⟩

/-- R117: with no switch under way any more, the engine comes to rest with an empty queue. -/
theorem State.switchOver.rest_keeps {s : State} (h : s.switchOver) (queue : s.engine.queue = []) :
    s.Keeps (s.setEngine { s.engine.rest with queue := [] }) := by
  have same : ({ s.engine.rest with queue := [] } : Engine) = s.engine.rest := by rw [← queue]; rfl
  rw [same]
  refine ⟨rfl, id, id, ?_, id, id, id, id⟩
  rintro ⟨⟨⟨active, coming, leaving, running⟩, holds, rest, under, law, pend, out, leave⟩, -⟩
  have quiet : s.engine.state.pendingSwitch = false ∧ s.rolesIn (fun r => r == .outgoing) = 0 := by
    rcases h with none | ⟨fading, none⟩
    · rcases (EngineState.resting_iff _).mp (under.mpr none) with e | e <;>
        exact ⟨by rw [e]; rfl, out (by rw [e]; decide)⟩
    · exact ⟨by rw [fading]; rfl, none⟩
  exact State.rest_coherent active (pend quiet.1) leaving quiet.2 holds rest

/-- R117: PANIC. -/
theorem State.panic_keeps (s : State) : s.Keeps s.panic := by
  unfold State.panic
  extract_lets s1 s2 s3
  have cleared : s.Keeps s2 := (State.setMute_keeps s (by decide) true everyOutput).trans
    ((State.failAll_keeps s1 s1.engine.queue .panic).trans (State.setQueue_keeps (by simp)))
  obtain ⟨ended, queue⟩ := s2.panicSwitch_over
  have freed : s.Keeps ((s2.panicSwitch.freeRole .spill).freeRole .cutting) :=
    ((cleared.trans s2.panicSwitch_keeps).trans (State.freeRole_keeps _ (.inr rfl))).trans (State.freeRole_keeps _ (.inr rfl))
  obtain ⟨buffers, hold, engine⟩ := ((s2.panicSwitch.freeRole .spill).freeRole .cutting).abortMeasure_only
  refine (freed.trans (State.abortMeasure_keeps _)).trans (State.switchOver.rest_keeps ?_ ?_)
  · have ended := (ended.freeRole .spill).freeRole .cutting
    unfold State.switchOver State.rolesIn at *
    rw [engine, buffers]
    exact ended
  · rw [engine]
    dsimp only
    rw [State.freeRole_engine, State.freeRole_engine, queue]
    exact Engine.settle_queue _

end Sys2Proof.Machine
end

section
/-! PROOFS. The Loop unit, the Tuner, the selection and the switch settings keep the invariants. -/
namespace Sys2Proof.Machine

/-! ## The Loop unit -/

/-- R62: a recomputation changes the contexts held, not which buffers hold one. -/
theorem State.recomputeLoop_keeps (s : State) (l : LoopId) : s.Keeps (s.recomputeLoop l) :=
  State.buffers_keeps (fun b => by rw [PerBuffer.get_map]; rfl)
    (fun b _ => by rw [PerBuffer.get_map, Buffer.recompute, Option.map_eq_none_iff])
    (fun b _ h => by rw [PerBuffer.get_map]; exact h)

theorem LoopUnit.set_measuring (u : LoopUnit) (l : LoopId) (r : LoopRecord) : (u.set l r).measuring = u.measuring := by
  cases l <;> rfl

theorem State.loops_keeps {s : State} {u : LoopUnit} (h : u.measuring.isSome = s.loops.measuring.isSome) :
    s.Keeps { s with loops := u } where
  pending := rfl
  bounded := id
  builtIns := id
  roles := id
  tuner := id
  held k := by
    unfold State.holdOffsCurrent at *
    rwa [show ({ s with loops := u } : State).loops = u from rfl, h]
  sat := id
  links := id

theorem State.setLoop_keeps (s : State) (l : LoopId) (r : LoopRecord) : s.Keeps (s.setLoop l r) := by
  have set : s.Keeps { s with loops := s.loops.set l r } := State.loops_keeps (by rw [LoopUnit.set_measuring])
  unfold State.setLoop
  dsimp only
  split
  · exact set
  · exact set.trans (State.recomputeLoop_keeps _ l)

/-- R68: a measurement completes. -/
theorem State.measureDone_keeps (s : State) (m : Measurement) : s.Keeps (s.measureDone m) := by
  unfold State.measureDone
  extract_lets old new src t
  have k := State.setLoop_keeps { s with loops := { s.loops with measuring := none } } m.loop new
  refine .trans (t := t.syncTest) (State.syncTest_keeps_of ?_) (State.post_keeps _ _ _ (by simp [NoticeBody.kind]))
  exact State.syncHoldOffs_keeps k.pending k.bounded k.builtIns k.roles k.tuner k.sat k.links

theorem State.measureEvent_keeps (s : State) : s.Keeps s.measureEvent := by
  unfold State.measureEvent
  split
  · exact .refl s
  · exact s.measureDone_keeps _

/-! ## The Tuner -/

/-- A change of the tuner that leaves whether it is OFF, its engage set and its policies. -/
theorem State.tuner_keeps {s : State} {t : Tuner} (state : t.state = .off ↔ s.tuner.state = .off)
    (engage : t.engage = s.tuner.engage) (policies : t.policies = s.tuner.policies)
    (last : s.tuner.state = .off → s.tuner.last = none → t.last = none) : s.Keeps { s with tuner := t } where
  pending := rfl
  bounded := id
  builtIns := id
  roles := id
  tuner k := by
    obtain ⟨engaged, off, muted⟩ := k
    refine ⟨by rw [state, engage]; exact engaged, fun e => ?_, fun o => ?_⟩
    · have e := state.mp e
      exact ⟨last e (off e).1, (off e).2⟩
    · simp only [ne_eq, state, policies]; exact muted o
  held k := by
    unfold State.holdOffsCurrent at *
    change (_ ↔ t.state ≠ .off ∧ _) ∧ _
    rwa [ne_eq, state]
  sat := id
  links := id

theorem State.postTunerState_keeps (s : State) : s.Keeps s.postTunerState :=
  State.post_keeps _ _ _ (by simp [NoticeBody.kind])

theorem EngageSet.isEmpty_eq {e : EngageSet} (h : e.isEmpty = true) : e = EngageSet.none := by
  obtain ⟨host, a, b⟩ := e
  cases host <;> cases a <;> cases b <;> simp_all [EngageSet.isEmpty, EngageSet.none]

theorem NoticeQueue.withdrawReadings_all (q : NoticeQueue) :
    q.withdrawReadings.queue.all (fun n => !n.isReading) = true := by
  rw [List.all_eq_true]
  intro n hn
  obtain ⟨-, h⟩ := List.mem_filter.mp hn
  obtain ⟨body, tag⟩ := n
  cases body <;> first | rfl | cases h

theorem NoticeQueue.withdrawReadings_length {q : NoticeQueue} (h : q.queue.length ≤ 32) :
    q.withdrawReadings.queue.length ≤ 32 := (List.length_filter_le _ _).trans h

theorem State.muteTuner_source (s : State) (v : Bool) (o : PerMain Bool) (x : MainOut) :
    ((s.setMute .tuner v o).mains.get x).sources.tuner = if o.get x then v else (s.mains.get x).sources.tuner := by
  rw [State.setMute_mains, muteOutputs, PerMain.get_of]
  dsimp only
  split <;> rfl

theorem Tuner.mutes_get (t : Tuner) (x : MainOut) : t.mutes.get x = (t.policies.get x == .mute) := by
  rw [Tuner.mutes, PerMain.get_map]

/-- R137: from OFF, the engage set becomes a set that is not empty, and the tuner engages. -/
theorem State.engageTuner_keeps {s : State} {e : EngageSet} (off : s.tuner.engage.isEmpty = true) (on : e.isEmpty = false) :
    s.Keeps (State.engageTuner { s with tuner := { s.tuner with engage := e } }) := by
  unfold State.engageTuner
  extract_lets src s1 s2
  refine .trans ?_ (State.postTunerState_keeps _)
  refine State.syncHoldOffs_keeps rfl id id id (fun ⟨engaged, _, muted⟩ => ?_) id id
  refine ⟨?_, ?_, fun o => ?_⟩
  · exact iff_of_false (fun k => nomatch k) (fun k => Bool.false_ne_true (on.symm.trans k))
  · exact fun k => nomatch k
  · have before : (s.mains.get o).sources.tuner = false := by
      simpa [engaged.mpr off] using muted o
    change (s1.mains.get o).sources.tuner = true ↔ TunerState.listening ≠ .off ∧ s.tuner.policies.get o = .mute
    rw [State.muteTuner_source]
    simp [Tuner.mutes_get, before, src]

/-- R138: the engage set becomes empty, and the tuner disengages. -/
theorem State.disengageTuner_keeps {s : State} {e : EngageSet} (off : e.isEmpty = true) :
    s.Keeps (State.disengageTuner { s with tuner := { s.tuner with engage := e } }) := by
  unfold State.disengageTuner
  extract_lets src s1 src' s2
  refine .trans ?_ (State.postTunerState_keeps _)
  refine State.syncTest_keeps_of (State.syncHoldOffs_keeps rfl (fun b => ?_) id id (fun _ => ?_) id id)
  · obtain ⟨notices, rest⟩ := b
    exact ⟨NoticeQueue.withdrawReadings_length notices, rest⟩
  · refine ⟨iff_of_true rfl off, fun _ => ⟨rfl, NoticeQueue.withdrawReadings_all _⟩, fun o => ?_⟩
    refine iff_of_false ?_ (fun k => k.1 rfl)
    change ¬ (s1.mains.get o).sources.tuner = true
    rw [State.muteTuner_source]
    cases o <;> simp [everyOutput, allMains, PerMain.get]

/-- R136 to R138: the engage set becomes another set. -/
theorem State.setEngage_keeps (s : State) (e : EngageSet) : s.Keeps (s.setEngage e) := by
  unfold State.setEngage
  extract_lets old src t
  split
  · exact .refl s
  · next new =>
    split
    · next off =>
      refine State.engageTuner_keeps off ?_
      by_contra empty
      exact new ((EngageSet.isEmpty_eq off).trans (EngageSet.isEmpty_eq (by simpa using empty)).symm)
    · next on =>
      split
      · next off => exact State.disengageTuner_keeps off
      · next still =>
        refine .trans (t := t) ⟨rfl, id, id, id, fun ⟨engaged, off, muted⟩ => ⟨?_, off, muted⟩, id, id, id⟩
          (State.postTunerState_keeps _)
        exact iff_of_false (fun k => on (engaged.mp k)) still

theorem State.tunerTarget_keeps (s : State) (l : Link) (a : TunerAction) : s.Keeps (s.tunerTarget l a) := by
  cases a <;> exact s.setEngage_keeps _

/-- R146: a change of input restarts an engaged tuner. -/
theorem State.tunerInput_keeps (s : State) : s.Keeps s.tunerInput := by
  have restarted (on : s.tuner.state ≠ .off) : s.Keeps (State.postTunerState
      { s with tuner := { s.tuner.cleared .listening with last := none }, notices := s.notices.withdrawReadings }) := by
    refine .trans (t := { s with tuner := { s.tuner.cleared .listening with last := none } })
      (State.tuner_keeps (by simp [Tuner.cleared, on]) rfl rfl (fun _ _ => rfl)) (.trans ?_ (State.postTunerState_keeps _))
    refine ⟨rfl, fun ⟨notices, rest⟩ => ⟨NoticeQueue.withdrawReadings_length notices, rest⟩, id, id,
      fun ⟨engaged, off, muted⟩ => ⟨engaged, fun e => ⟨(off e).1, NoticeQueue.withdrawReadings_all _⟩, muted⟩, id, id, id⟩
  unfold State.tunerInput
  split
  · exact .refl s
  · next on => exact restarted on

/-- R57, R59: the selection takes an input. -/
theorem State.selectInput_keeps (s : State) (i : Input) : s.Keeps (s.selectInput i) := by
  unfold State.selectInput
  split
  · exact .refl s
  · have followed : s.Keeps { s with buffers := s.buffers.map (Buffer.follow i) } :=
      State.buffers_keeps (fun b => by rw [PerBuffer.get_map]; unfold Buffer.follow; split <;> rfl)
        (fun b _ => by rw [PerBuffer.get_map]; unfold Buffer.follow; split <;> simp)
        (fun b _ h => by rw [PerBuffer.get_map]; unfold Buffer.follow; split <;> exact h)
    refine .trans ?_ (State.tunerInput_keeps _)
    exact followed.trans ⟨rfl, id, id, id, id, id, id, id⟩

/-! ### Estimates -/

theorem State.qualify_keeps {s : State} (r : Reading) (h : s.tuner.state = .listening) : s.Keeps (s.qualify r) := by
  unfold State.qualify
  extract_lets run src t
  split
  · have tracking : s.Keeps t := State.tuner_keeps (by simp [h]) rfl rfl (by simp [h])
    refine (tracking.trans (State.postTunerState_keeps _)).trans (State.post_keeps _ _ _ fun _ => ?_)
    rw [State.postTunerState, State.post_tuner]
    simp [t]
  · exact State.tuner_keeps Iff.rfl rfl rfl (fun _ h => h)

theorem State.listen_keeps {s : State} (r : Option Reading) (c : Nat) (h : s.tuner.state = .listening) :
    s.Keeps (s.listen r c) := by
  have emptied : s.Keeps { s with tuner := { s.tuner with run := [] } } := State.tuner_keeps Iff.rfl rfl rfl (fun _ h => h)
  unfold State.listen
  split
  · split
    · exact State.qualify_keeps _ h
    · exact emptied
  · exact emptied

theorem State.weaken_keeps {s : State} (c : Nat) (h : s.tuner.state = .tracking) : s.Keeps (s.weaken c) := by
  unfold State.weaken
  split
  · extract_lets src t
    have weak : s.Keeps t := State.tuner_keeps Iff.rfl rfl rfl (fun _ h => h)
    split
    · exact weak
    · exact weak.trans (State.post_keeps _ _ _ fun _ => by simp [t, src, h])
  · refine .trans ?_ (State.postTunerState_keeps _)
    exact State.tuner_keeps (by simp [h]) rfl rfl (by simp [h])

theorem State.track_keeps {s : State} (r : Option Reading) (c : Nat) (h : s.tuner.state = .tracking) :
    s.Keeps (s.track r c) := by
  unfold State.track
  split
  · next x =>
    split
    · exact .trans (t := { s with tuner := { s.tuner with weak := 0, last := some (x, .live) } })
        (State.tuner_keeps Iff.rfl rfl rfl (by simp [h])) (State.post_keeps _ _ _ fun _ => by simp [h])
    · exact State.weaken_keeps _ h
  · exact State.weaken_keeps _ h

/-- R140, R144, R145: an estimate that has fallen due acts. -/
theorem State.estimate_keeps (s : State) (f c : Nat) : s.Keeps (s.estimate f c) := by
  unfold State.estimate
  extract_lets reading src t
  have taken : s.Keeps t := State.tuner_keeps Iff.rfl rfl rfl (fun _ h => h)
  split
  · exact taken
  · next h => exact taken.trans (State.listen_keeps _ _ h)
  · next h => exact taken.trans (State.track_keeps _ _ h)

/-! ### Settings -/

theorem Tuner.retuned_only (t : Tuner) : ∃ run, t.retuned = { t with run := run } := by
  unfold Tuner.retuned
  split <;> exact ⟨_, rfl⟩

theorem State.retuned_keeps {s : State} {t : Tuner} (k : s.Keeps { s with tuner := t }) :
    s.Keeps { s with tuner := t.retuned } := by
  obtain ⟨run, e⟩ := t.retuned_only
  rw [e]
  exact k.trans (State.tuner_keeps Iff.rfl rfl rfl (fun _ h => h))

theorem State.setProfile_keeps (s : State) (i : Input) (p : Profile) : s.Keeps { s with tuner := s.tuner.setProfile i p } := by
  cases i <;> exact State.tuner_keeps Iff.rfl rfl rfl (fun _ h => h)

/-- R139: of the outputs, new policies change the mute sets, and there the TUNER source of an engaged tuner. -/
theorem State.applyPolicies_only (s : State) (p : PerMain MutePolicy) :
    ∃ mains, s.applyPolicies s.tuner.policies p = { s with mains := mains } ∧
      (s.tuner.state = .off → mains = s.mains) ∧
      (s.tuner.state ≠ .off → ∀ o, (mains.get o).sources.tuner =
        if s.tuner.policies.get o = p.get o then (s.mains.get o).sources.tuner else p.get o == .mute) := by
  unfold State.applyPolicies
  extract_lets changed
  split
  · next off => exact ⟨_, rfl, fun _ => rfl, fun on => absurd off on⟩
  · next on =>
    refine ⟨_, rfl, fun off => absurd off on, fun _ o => ?_⟩
    change ((State.setMute (s.setMute .tuner true (changed .mute)) .tuner false (changed .pass)).mains.get o).sources.tuner = _
    rw [State.muteTuner_source, State.muteTuner_source]
    simp only [changed, PerMain.get_of]
    cases s.tuner.policies.get o <;> cases p.get o <;> rfl

/-- R139, R151: new policies, with the TUNER sources of an engaged tuner. -/
theorem State.applyPolicies_keeps (s : State) (p : PerMain MutePolicy) (aref : Nat) :
    s.Keeps { s.applyPolicies s.tuner.policies p with tuner := { s.tuner with aref := aref, policies := p } } := by
  obtain ⟨mains, e, off, on⟩ := s.applyPolicies_only p
  rw [e]
  refine ⟨rfl, id, id, id, fun ⟨engaged, quiet, muted⟩ => ⟨engaged, quiet, fun o => ?_⟩, id, id, id⟩
  have before := muted o
  change (mains.get o).sources.tuner = true ↔ s.tuner.state ≠ .off ∧ p.get o = .mute
  by_cases state : s.tuner.state = .off
  · rw [off state, before]
    simp [state]
  · rw [on state]
    split
    · next same => rw [before, same]
    · simp [state]

theorem State.collapseQueue_keeps (s : State) : s.Keeps s.collapseQueue :=
  (State.failAll_keeps s _ _).trans (State.setQueue_keeps (fun h => by
    rw [State.failAll_engine] at h
    exact (List.length_drop ..).trans_le ((Nat.sub_le _ _).trans h)))

/-- R104: the settings are taken. -/
theorem State.takeSettings_keeps (s : State) (x : SwitchSettings) : s.Keeps (s.takeSettings x) := by
  unfold State.takeSettings
  extract_lets old src s1 s2
  have k : s1.Keeps s2.testRate := by
    refine .trans ?_ (State.testRate_keeps s2)
    by_cases h : old.mode = .sequence ∧ x.mode = .collapse
    · simp only [s2, if_pos h]; exact s1.collapseQueue_keeps
    · simp only [s2, if_neg h]; exact .refl s1
  refine .trans ?_ (State.headTest_keeps _)
  exact State.syncHoldOffs_keeps k.pending k.bounded k.builtIns k.roles k.tuner k.sat k.links

end Sys2Proof.Machine
end

section
/-! PROOFS. Map targets, dispatch, gestures and presence keep the invariants. -/
namespace Sys2Proof.Machine

/-! ## Map targets -/

theorem State.setSlotEnabled_keeps {s : State} {b : BufferId} {c : Context} (h : s.active = some (b, c)) (p : Nat) (x : Slot)
    (v : Bool) : s.Keeps (s.setSlotEnabled b c p x v) := by
  unfold State.setSlotEnabled
  split
  · exact .refl s
  · exact (State.setContext_keeps _ (State.active_context h)).trans
      (State.post_keeps _ _ _ (by simp [slotStateOf, NoticeBody.kind]))

theorem State.slotTarget_keeps (s : State) (l : Link) (n : Nat) (f : Bool → Bool) : s.Keeps (s.slotTarget l n f) := by
  unfold State.slotTarget
  split
  · exact s.countUnapplied_keeps l
  · next active =>
    split
    · exact s.countUnapplied_keeps l
    · exact State.setSlotEnabled_keeps active _ _ _

theorem State.takeTap_keeps (s : State) : s.Keeps s.takeTap := ⟨rfl, id, id, id, id, id, id, id⟩

theorem State.mapMessage_keeps (s : State) (a : Nat) (d : List Byte) : s.Keeps (s.mapMessage a d) :=
  State.withSat_keeps (Satellite.hand_keeps _ _ _ _).1

/-- R176 to R179: a map target. -/
theorem State.runTarget_keeps (s : State) (k : MapKey) (p : Nat) (t : Target) : s.Keeps (s.runTarget k p t) := by
  cases t with
  | preset n force => exact s.pedalRequest_keeps _ _ _ _
  | presetStep d =>
    simp only [State.runTarget]
    split
    · exact s.countUnapplied_keeps _
    · exact s.pedalRequest_keeps _ _ _ _
  | scene n => exact s.pedalRequest_keeps _ _ _ _
  | sceneStep d =>
    simp only [State.runTarget]
    split
    · exact s.countUnapplied_keeps _
    · exact s.pedalRequest_keeps _ _ _ _
  | slotToggle n => exact s.slotTarget_keeps _ _ _
  | slotSet n e => exact s.slotTarget_keeps _ _ (fun _ => e)
  | param n i lo hi => exact s.runParam_keeps _ _ _ _ _ _
  | guitar c => exact s.selectInput_keeps _
  | tuner a => exact s.tunerTarget_keeps _ _
  | tap => exact s.takeTap_keeps
  | satMessage a d => exact s.mapMessage_keeps _ _
  | hostNotice v => exact s.post_keeps _ _ (by simp [NoticeBody.kind])
  | panic => exact s.panic_keeps

theorem State.dispatch_keeps (s : State) (e : MapEntry) (p : Nat) : s.Keeps (s.dispatch e p) := by
  refine State.Keeps.foldl (fun s it => ?_) _ s
  unfold State.dispatchTarget
  split
  · exact s.runTarget_keeps _ _ _
  · exact s.denyTarget_keeps _ _ _ _

theorem State.fire_keeps (s : State) (es : List MapEntry) (n : Nat) (g : Gesture) : s.Keeps (s.fire es n g) := by
  unfold State.fire
  split
  · exact .refl s
  · exact s.dispatch_keeps _ _

/-! ## Pedal links -/

theorem State.setLink_keeps {s : State} {l : Link} {p : PedalLink} (h : (s.pedals.get l).coherent → p.coherent) :
    s.Keeps (s.setLink l p) where
  pending := rfl
  bounded := id
  builtIns := id
  roles := id
  tuner := id
  held := id
  sat := id
  links k l' := by
    by_cases e : l = l'
    · subst e
      rw [State.setLink_pedals, PerLink.get_set]
      exact h (k l)
    · rw [State.setLink_pedals, PerLink.get_set_ne _ _ e]
      exact k l'

theorem State.onLink_keeps {s : State} {l : Link} {f : PedalLink → PedalLink}
    (h : (s.pedals.get l).coherent → (f (s.pedals.get l)).coherent) : s.Keeps (s.onLink l f) := State.setLink_keeps h

/-- A change of a link that leaves what its coherence speaks of. -/
theorem State.lineOnly_keeps {s : State} {l : Link} {f : PedalLink → PedalLink}
    (switches : (f (s.pedals.get l)).switches = (s.pedals.get l).switches)
    (positions : (f (s.pedals.get l)).positions = (s.pedals.get l).positions)
    (identity : (f (s.pedals.get l)).identity = (s.pedals.get l).identity)
    (display : (f (s.pedals.get l)).display = (s.pedals.get l).display) : s.Keeps (s.onLink l f) := by
  refine State.onLink_keeps fun h => ?_
  unfold PedalLink.coherent PedalLink.quietIfAbsent at *
  rwa [switches, positions, identity, display]

theorem State.hear_keeps (s : State) (l : Link) : s.Keeps (s.onLink l PedalLink.hear) :=
  State.lineOnly_keeps rfl rfl rfl rfl

theorem State.reject_keeps (s : State) (l : Link) : s.Keeps (s.onLink l PedalLink.reject) :=
  State.lineOnly_keeps rfl rfl rfl rfl

/-- The link is PRESENT where it is coherent. -/
def PedalLink.shown (p : PedalLink) : Prop := p.coherent → p.identity ≠ none

/-- R156: on a PRESENT link the record of a switch is free. -/
theorem PedalLink.coherent_setSwitch {p : PedalLink} (present : p.shown) (n : Nat) (r : SwitchRecord) (h : p.coherent) :
    (p.setSwitch n r).coherent := by
  have on := present h
  obtain ⟨switches, positions, -, keys⟩ := h
  exact ⟨(List.length_set ..).trans switches, positions, fun absent => absurd absent on, keys⟩

theorem State.setSwitch_keeps {s : State} {l : Link} (present : (s.pedals.get l).shown) (n : Nat) (r : SwitchRecord) :
    s.Keeps (s.setSwitch l n r) := State.onLink_keeps (PedalLink.coherent_setSwitch present n r)

/-- R156: a switch that is not UP is on a PRESENT link. -/
theorem PedalLink.shown_of_switch {p : PedalLink} {n : Nat} (h : (p.switch n).state ≠ .up) : p.shown := by
  intro coherent absent
  obtain ⟨-, -, quiet, -⟩ := coherent
  refine h ?_
  unfold PedalLink.switch
  rw [List.getD_eq_getElem?_getD]
  cases e : p.switches[n]? with
  | none => rfl
  | some r => exact (quiet absent).2 r (List.mem_of_getElem? e) |>.1

theorem State.enterDown_keeps {s : State} {l : Link} (present : (s.pedals.get l).shown) (n : Nat) :
    s.Keeps (s.enterDown l n) := by
  unfold State.enterDown
  dsimp only
  split
  · exact State.setSwitch_keeps present _ _
  · split
    · exact State.setSwitch_keeps present _ _
    · exact (State.setSwitch_keeps present _ _).trans (State.fire_keeps _ _ _ _)

theorem PedalLink.identity_of_lines {s t : State} (h : t.lines = s.lines) (l : Link) :
    (t.pedals.get l).identity = (s.pedals.get l).identity := by
  have ha := congrArg PedalLink.identity (congrArg Prod.fst h)
  have hb := congrArg PedalLink.identity (congrArg Prod.snd h)
  cases l
  · exact ha
  · exact hb

theorem State.fire_lines (s : State) (es : List MapEntry) (n : Nat) (g : Gesture) : (s.fire es n g).lines = s.lines := by
  unfold State.fire
  split
  · rfl
  · exact s.dispatch_lines _ _

theorem State.setSwitch_identity (s : State) (l : Link) (n : Nat) (r : SwitchRecord) :
    ((s.setSwitch l n r).pedals.get l).identity = (s.pedals.get l).identity := by
  rw [State.setSwitch, State.onLink, State.setLink_pedals, PerLink.get_set]
  rfl

/-- R160, R161: the gestures of a switch leave the link's identity. -/
theorem State.enterDown_identity (s : State) (l : Link) (n : Nat) :
    ((s.enterDown l n).pedals.get l).identity = (s.pedals.get l).identity := by
  unfold State.enterDown
  dsimp only
  split
  · exact s.setSwitch_identity _ _ _
  · split
    · exact s.setSwitch_identity _ _ _
    · rw [PedalLink.identity_of_lines (State.fire_lines _ _ _ _), State.setSwitch_identity]

theorem State.releaseRow_keeps {s : State} {l : Link} (present : (s.pedals.get l).shown) (n : Nat) :
    s.Keeps (s.releaseRow l n) := by
  have fired (r : SwitchRecord) (es : List MapEntry) (g : Gesture) : s.Keeps ((s.setSwitch l n r).fire es n g) :=
    (State.setSwitch_keeps present n r).trans (State.fire_keeps _ _ _ _)
  unfold State.releaseRow
  dsimp only
  split
  · split
    · split
      · exact fired _ _ _
      · exact (fired _ _ _).trans (State.fire_keeps _ _ _ _)
    · exact fired _ _ _
  · exact fired _ _ _
  · exact fired _ _ _
  · exact State.setSwitch_keeps present _ _
  · exact State.setSwitch_keeps present _ _

theorem PedalLink.shown_of_identity {p : PedalLink} {i : Identity} (h : p.identity = some i) : p.shown :=
  fun _ absent => by rw [h] at absent; cases absent

/-- R164: an up frame on a PRESENT link. -/
theorem State.takeUp_keeps {s : State} {l : Link} {i : Identity} (h : (s.pedals.get l).identity = some i) (n : Nat) :
    s.Keeps (s.takeUp l n) := by
  have present := PedalLink.shown_of_identity h
  unfold State.takeUp
  dsimp only
  split
  · split
    · exact (State.enterDown_keeps present n).trans
        (State.releaseRow_keeps (PedalLink.shown_of_identity ((s.enterDown_identity l n).trans h)) n)
    · exact State.releaseRow_keeps present n
  · exact .refl s

theorem State.fireCombo_keeps {s : State} {l : Link} {i : Identity} (h : (s.pedals.get l).identity = some i) (n t : Nat)
    (es : List MapEntry) : s.Keeps (s.fireCombo l n t es) := by
  unfold State.fireCombo
  extract_lets u
  have set : s.Keeps u := State.onLink_keeps fun k =>
    PedalLink.coherent_setSwitch (p := (s.pedals.get l).setSwitch n _) (PedalLink.shown_of_identity (i := i) h) _ _
      (PedalLink.coherent_setSwitch (PedalLink.shown_of_identity h) _ _ k)
  split
  · exact set
  · exact set.trans (State.dispatch_keeps _ _ _)

/-- R162: a down event on a PRESENT link. -/
theorem State.downFromUp_keeps {s : State} {l : Link} {i : Identity} (h : (s.pedals.get l).identity = some i) (n : Nat) :
    s.Keeps (s.downFromUp l n) := by
  unfold State.downFromUp
  extract_lets snap t
  have stamped : s.Keeps t := State.onLink_keeps (PedalLink.coherent_setSwitch (PedalLink.shown_of_identity h) _ _)
  have h' : (t.pedals.get l).identity = some i := by
    simpa [t, State.onLink, PedalLink.stamp, PedalLink.setSwitch] using h
  have present := PedalLink.shown_of_identity h'
  split
  · exact stamped.trans (State.fireCombo_keeps h' _ _ _)
  · split
    · exact stamped.trans (State.onLink_keeps (PedalLink.coherent_setSwitch present _ _))
    · exact stamped.trans (State.enterDown_keeps present n)

theorem State.takeDown_keeps {s : State} {l : Link} {i : Identity} (h : (s.pedals.get l).identity = some i) (n : Nat) :
    s.Keeps (s.takeDown l n) := by
  unfold State.takeDown
  dsimp only
  split
  · exact .refl s
  · split
    · exact (State.setSwitch_keeps (PedalLink.shown_of_identity h) _ _).trans (State.fire_keeps _ _ _ _)
    · exact State.downFromUp_keeps h n

/-- R154, R158: a SWITCH frame. -/
theorem State.takeSwitch_keeps (s : State) (l : Link) (n : Byte) (d : Bool) : s.Keeps (s.takeSwitch l n d) := by
  unfold State.takeSwitch
  dsimp only
  refine (s.hear_keeps l).trans ?_
  split
  · exact State.reject_keeps _ l
  · next h =>
    split
    · exact State.reject_keeps _ l
    · split
      · exact State.takeDown_keeps h _
      · exact State.takeUp_keeps h _

/-- R157: an EXPR frame. -/
theorem State.takeExpr_keeps (s : State) (l : Link) (n : Byte) (v : BitVec 16) : s.Keeps (s.takeExpr l n v) := by
  unfold State.takeExpr
  dsimp only
  refine (s.hear_keeps l).trans ?_
  split
  · exact State.reject_keeps _ l
  · split
    · exact State.reject_keeps _ l
    · split
      · exact .refl _
      · refine .trans (State.onLink_keeps fun h => ?_) (State.Keeps.foldl (fun t e => t.dispatch_keeps e _) _ _)
        obtain ⟨switches, positions, quiet, keys⟩ := h
        exact ⟨switches, (List.length_set ..).trans positions, quiet, keys⟩

/-! ### Presence -/

theorem PedalLink.switches_up {rs : List SwitchRecord} : ∀ r ∈ rs.map SwitchRecord.up,
    r.state = .up ∧ r.isDown = false ∧ r.snapshot = none ∧ r.hold = none ∧ r.window = none := by
  intro r hr
  obtain ⟨x, -, rfl⟩ := List.mem_map.mp hr
  exact ⟨rfl, rfl, rfl, rfl, rfl⟩

/-- R156: a link becomes ABSENT. -/
theorem State.linkLost_keeps (s : State) (l : Link) (i : Identity) (x : LinkCause) : s.Keeps (s.linkLost l i x) := by
  unfold State.linkLost
  dsimp only
  refine .trans (.trans (State.onLink_keeps fun h => ?_) (State.setEngage_keeps _ _))
    (State.post_keeps _ _ _ (by simp [NoticeBody.kind]))
  obtain ⟨switches, positions, -, -⟩ := h
  exact ⟨(List.length_map ..).trans switches, positions, fun _ => ⟨rfl, PedalLink.switches_up⟩, List.nodup_nil⟩

theorem PedalLink.coherent_placeAll {p : PedalLink} (h : p.coherent) (ms : List DisplayMsg) : (p.placeAll ms).coherent := by
  unfold PedalLink.placeAll
  induction ms generalizing p with
  | nil => exact h
  | cons m ms ih => exact ih (PedalLink.coherent_place h m)

/-- R155: a link becomes PRESENT. -/
theorem State.linkFound_keeps (s : State) (l : Link) (i : Identity) : s.Keeps (s.linkFound l i) := by
  unfold State.linkFound
  dsimp only
  refine .trans (.trans (State.onLink_keeps fun h => ?_) (State.post_keeps _ _ _ (by simp [NoticeBody.kind])))
    (State.onLink_keeps fun h => PedalLink.coherent_placeAll h _)
  obtain ⟨switches, positions, -, keys⟩ := h
  refine ⟨(List.length_map ..).trans switches, ?_, fun absent => (Option.some_ne_none _ absent).elim, keys⟩
  simpa [keepPositions] using positions

/-- R155: an IDENT frame. -/
theorem State.takeIdent_keeps (s : State) (l : Link) (a b c : Byte) : s.Keeps (s.takeIdent l a b c) := by
  unfold State.takeIdent
  dsimp only
  refine (s.hear_keeps l).trans ?_
  split
  · exact State.reject_keeps _ l
  · split
    · exact State.linkFound_keeps _ _ _
    · split
      · exact .refl _
      · exact (State.linkLost_keeps _ _ _ _).trans (State.linkFound_keeps _ _ _)

theorem State.pedalBad_keeps (s : State) (l : Link) (x : PedalFault) : s.Keeps (s.onLink l (fun p => p.badFrame x)) := by
  cases x with
  | framing => exact State.lineOnly_keeps rfl rfl rfl rfl
  | unknownForm => exact State.lineOnly_keeps rfl rfl rfl rfl
  | noPresence =>
    by_cases h : (s.pedals.get l).identity.isNone = true <;>
      refine State.lineOnly_keeps ?_ ?_ ?_ ?_ <;> simp only [PedalLink.badFrame, h] <;> rfl

/-- R166: the head message leaves the queue. -/
theorem State.displayStart_keeps (s : State) (l : Link) : s.Keeps (s.onLink l PedalLink.displayStart) := by
  refine State.onLink_keeps fun h => ?_
  unfold PedalLink.displayStart
  split
  · next m rest _ e =>
    obtain ⟨switches, positions, quiet, keys⟩ := h
    rw [e, List.map_cons, List.nodup_cons] at keys
    refine ⟨switches, positions, fun absent => ?_, keys.2⟩
    have none := (quiet absent).1
    rw [e] at none
    cases none
  · exact h

theorem State.displayEnd_keeps (s : State) (l : Link) : s.Keeps (s.onLink l PedalLink.displayEnd) :=
  State.lineOnly_keeps rfl rfl rfl rfl

/-! ### Waits -/

theorem State.comboExpiry_keeps {s : State} {l : Link} {n : Nat} (due : (s.switchAt l n).windowDue .comboWait = true) :
    s.Keeps (s.comboExpiry l n) := by
  refine State.enterDown_keeps (PedalLink.shown_of_switch (n := n) fun up => ?_) n
  simp [SwitchRecord.windowDue, State.switchAt, up] at due

theorem State.holdExpiry_keeps {s : State} {l : Link} {n : Nat} (due : (s.switchAt l n).holdDue = true) :
    s.Keeps (s.holdExpiry l n) := by
  refine (State.setSwitch_keeps (PedalLink.shown_of_switch (n := n) fun up => ?_) _ _).trans (State.fire_keeps _ _ _ _)
  simp [SwitchRecord.holdDue, State.switchAt, up] at due

theorem State.doubleExpiry_keeps {s : State} {l : Link} {n : Nat} (due : (s.switchAt l n).windowDue .doubleWait = true) :
    s.Keeps (s.doubleExpiry l n) := by
  refine (State.setSwitch_keeps (PedalLink.shown_of_switch (n := n) fun up => ?_) _ _).trans (State.fire_keeps _ _ _ _)
  simp [SwitchRecord.windowDue, State.switchAt, up] at due

theorem PedalLink.coherent_tick {p : PedalLink} (h : p.coherent) : p.tick.coherent := by
  obtain ⟨switches, positions, quiet, keys⟩ := h
  refine ⟨(List.length_map ..).trans switches, positions, fun absent => ⟨(quiet absent).1, fun r hr => ?_⟩, keys⟩
  obtain ⟨x, hx, rfl⟩ := List.mem_map.mp hr
  obtain ⟨up, notDown, snapshot, hold, window⟩ := (quiet absent).2 x hx
  exact ⟨up, notDown, snapshot, by simp [SwitchRecord.tick, hold], by simp [SwitchRecord.tick, window]⟩

end Sys2Proof.Machine
end

section
/-! PROOFS. Every request taken keeps the invariants and the replies that wait. -/
namespace Sys2Proof.Machine

/-! ## Requests taken -/

/-- What a request taken keeps: the invariants, and the replies that wait. -/
structure State.Serves (s t : State) : Prop where
  keeps : s.Keeps t
  replies : t.control.replies = s.control.replies

theorem State.Serves.refl (s : State) : s.Serves s := ⟨.refl s, rfl⟩

theorem State.control_of_base {s t : State} (h : s.base = t.base) : s.control = t.control := by
  obtain ⟨-, -, -, -, -, -, -, -, -, -, -, -, -, -, -, control, -⟩ := (State.base_eq_iff s t).mp h
  exact control

theorem State.Serves.of_base {s t : State} (keeps : s.Keeps t) (h : t.base = s.base) : s.Serves t :=
  ⟨keeps, congrArg ControlLink.replies (State.control_of_base h)⟩

/-! ### Operations that go through a posting or a head test leave the control link -/

theorem State.syncTest_control (s : State) : s.syncTest.control = s.control :=
  State.control_of_base s.syncTest_base

theorem State.setEngage_control (s : State) (e : EngageSet) : (s.setEngage e).control = s.control := by
  unfold State.setEngage
  extract_lets old src t
  split
  · rfl
  · split
    · exact State.post_control _ _ _
    · split
      · exact (State.post_control _ _ _).trans (State.syncTest_control _)
      · exact State.post_control _ _ _

theorem State.selectInput_control (s : State) (i : Input) : (s.selectInput i).control = s.control := by
  unfold State.selectInput
  split
  · rfl
  · unfold State.tunerInput
    split
    · rfl
    · exact State.post_control _ _ _

theorem State.setSlotEnabled_control (s : State) (b : BufferId) (c : Context) (p : Nat) (x : Slot) (v : Bool) :
    (s.setSlotEnabled b c p x v).control = s.control := by
  unfold State.setSlotEnabled
  split
  · rfl
  · exact State.post_control _ _ _

theorem State.withSat_control (s : State) (u : Satellite) : (s.withSat u).control = s.control :=
  State.syncTest_control _

theorem State.freeRole_control (s : State) (r : Role) : (s.freeRole r).control = s.control := by
  obtain ⟨bs, cs, e, -⟩ := State.BuffersOnly.foldl State.freeBuffer_only (s.withRole r) s
  rw [State.freeRole, e]

theorem State.panicSwitch_control (s : State) : s.panicSwitch.control = s.control := by
  unfold State.panicSwitch
  split
  · rfl
  · split
    · exact (State.control_of_base (State.endSwitch_base _ _ _)).trans (State.freeRole_control _ _)
    · exact State.control_of_base (State.abandonPending_base _ _ _)

theorem State.abortMeasure_control (s : State) : s.abortMeasure.control = s.control := by
  unfold State.abortMeasure
  split
  · rfl
  · exact State.post_control _ _ _

theorem State.panic_control (s : State) : s.panic.control = s.control := by
  unfold State.panic
  extract_lets s1 s2 s3
  calc s3.control = ((s2.panicSwitch.freeRole .spill).freeRole .cutting).control := State.abortMeasure_control _
    _ = s2.panicSwitch.control := (State.freeRole_control _ _).trans (State.freeRole_control _ _)
    _ = s2.control := State.panicSwitch_control _
    _ = (s1.failAll s1.engine.queue .panic).control := rfl
    _ = s1.control := State.control_of_base (State.failAll_base _ _ _)

theorem State.collapseQueue_base (s : State) : s.collapseQueue.base = s.base := State.failAll_base s _ _

theorem State.takeSettings_base (s : State) (x : SwitchSettings) : (s.takeSettings x).base = s.base := by
  unfold State.takeSettings
  extract_lets old src s1 s2
  refine (State.headTest_base _).trans ?_
  change s2.base = s.base
  by_cases h : old.mode = .sequence ∧ x.mode = .collapse
  · simp only [s2, if_pos h]; exact s1.collapseQueue_base
  · simp only [s2, if_neg h]; rfl

/-! ### The requests -/

theorem reqMute_serves (x o : Nat) (s : State) : s.Serves (reqMute x o s).1 := by
  unfold reqMute
  split
  · next src outs source _ =>
    refine ⟨State.setMute_keeps s ?_ _ _, rfl⟩
    rintro rfl
    unfold muteSourceOf at source
    split at source <;> cases source
  · exact .refl s

theorem reqUnmute_serves (x o : Nat) (s : State) : s.Serves (reqUnmute x o s).1 := by
  unfold reqUnmute
  split
  · next src outs source _ =>
    refine ⟨State.setMute_keeps s ?_ _ _, rfl⟩
    rintro rfl
    unfold muteSourceOf at source
    split at source <;> cases source
  · exact .refl s

theorem clearPeaks_keeps (s : State) : s.Keeps (clearPeaks s) := ⟨rfl, id, id, id, id, id, id, id⟩

theorem clearClips_serves (s : State) : s.Serves (clearClips s) := by
  unfold clearClips
  extract_lets t
  have cleared : s.Keeps t := ⟨rfl, id, id, id, id, id, id, id⟩
  split
  · exact ⟨cleared, rfl⟩
  · next b c active => exact ⟨cleared.trans (State.setContext_keeps _ (State.active_context active)), rfl⟩

theorem reqMeters_serves (x : Nat) (s : State) : s.Serves (reqMeters x s).1 := by
  unfold reqMeters
  split
  · exact .refl s
  · unfold answer
    dsimp only
    split
    · have cleared := clearClips_serves (clearPeaks s)
      exact ⟨(clearPeaks_keeps s).trans cleared.keeps, cleared.replies⟩
    · exact ⟨clearPeaks_keeps s, rfl⟩

/-- R42: an entry beyond the built-in curves is written. -/
theorem State.setCurve_keeps (s : State) {n : Nat} (h : ¬ n ≤ 3) (name : List Byte) (points : List (Int × Int)) :
    s.Keeps (s.setCurve n name points) where
  pending := rfl
  bounded := id
  builtIns k := by
    obtain ⟨size, first⟩ := k
    refine ⟨(List.length_set ..).trans size, ?_⟩
    rw [← first, State.setCurve_curves, List.take_set_of_le (by omega)]
  roles := id
  tuner := id
  held := id
  sat := id
  links := id

theorem reqCurveWrite_serves (n : Nat) (name : List Byte) (points : List (Int × Int)) (s : State) :
    s.Serves (reqCurveWrite n name points s).1 := by
  unfold reqCurveWrite
  split_ifs with _ _ built
  case neg => exact ⟨s.setCurve_keeps built name points, rfl⟩
  all_goals exact .refl s

theorem reqCurveErase_serves (n : Nat) (s : State) : s.Serves (reqCurveErase n s).1 := by
  unfold reqCurveErase
  split_ifs with _ built
  case neg => exact ⟨s.setCurve_keeps built [] [], rfl⟩
  all_goals exact .refl s

theorem reqCurveRead_serves (n : Nat) (s : State) : s.Serves (reqCurveRead n s).1 := by
  unfold reqCurveRead
  split_ifs <;> exact .refl s

theorem reqParamSet_serves (p i : Nat) (v : Int) (s : State) : s.Serves (reqParamSet p i v s).1 := by
  unfold reqParamSet
  split
  · exact .refl s
  · next b c active =>
    split
    · exact .refl s
    · next slot _ =>
      dsimp only
      split_ifs
      case neg => exact .of_base (State.writeActive_keeps active p slot i v) (State.writeActive_base ..)
      all_goals exact .refl s

theorem reqSlotSet_serves (p e : Nat) (s : State) : s.Serves (reqSlotSet p e s).1 := by
  unfold reqSlotSet
  split
  · exact .refl s
  · next b c active =>
    split
    · exact ⟨State.setSlotEnabled_keeps active _ _ _, congrArg _ (State.setSlotEnabled_control ..)⟩
    · exact .refl s

theorem reqInputSelect_serves (i : Nat) (s : State) : s.Serves (reqInputSelect i s).1 := by
  unfold reqInputSelect
  split
  · exact .refl s
  · exact ⟨s.selectInput_keeps _, congrArg _ (s.selectInput_control _)⟩

theorem reqLoopMeasure_serves (tag : Byte) (l : Nat) (s : State) : s.Serves (reqLoopMeasure tag l s).1 := by
  unfold reqLoopMeasure
  split
  · exact .refl s
  · split
    · exact .refl s
    · exact ⟨State.syncHoldOffs_keeps rfl id id id id id id, rfl⟩

theorem State.setLoop_control (s : State) (l : LoopId) (r : LoopRecord) : (s.setLoop l r).control = s.control := by
  unfold State.setLoop
  dsimp only
  split <;> rfl

theorem reqLoopSet_serves (l : Nat) (v : Option Nat) (s : State) : s.Serves (reqLoopSet l v s).1 := by
  unfold reqLoopSet
  split
  · exact .refl s
  · split
    · exact .refl s
    · exact ⟨s.setLoop_keeps _ _, congrArg _ (s.setLoop_control _ _)⟩

theorem reqLoopRead_serves (l : Nat) (s : State) : s.Serves (reqLoopRead l s).1 := by
  unfold reqLoopRead
  split <;> exact .refl s

/-! ### The library -/

theorem State.staging_serves (s : State) (x : Option Staging) : s.Serves { s with staging := x } :=
  ⟨⟨rfl, id, id, id, id, id, id, id⟩, rfl⟩

theorem State.setLocation_serves (s : State) (n : Nat) (p : Option Preset) : s.Serves (s.setLocation n p) :=
  ⟨⟨rfl, id, id, id, id, id, id, id⟩, rfl⟩

theorem reqPresetBegin_serves (n : Nat) (h : HeaderFields) (s : State) : s.Serves (reqPresetBegin n h s).1 := by
  unfold reqPresetBegin
  split
  · exact .refl s
  · split
    · exact .refl s
    · exact s.staging_serves _

theorem reqPresetSlot_serves (f : SlotFields) (p : Option Nat) (s : State) : s.Serves (reqPresetSlot f p s).1 := by
  unfold reqPresetSlot
  split
  · exact .refl s
  · dsimp only
    split_ifs
    case neg =>
      split
      · exact .refl s
      · exact s.staging_serves _
    all_goals exact .refl s

theorem reqPresetScene_serves (f : SceneFields) (p : Option Nat) (s : State) : s.Serves (reqPresetScene f p s).1 := by
  unfold reqPresetScene
  split
  · exact .refl s
  · dsimp only
    split_ifs
    case neg =>
      split
      · exact .refl s
      · exact s.staging_serves _
    all_goals exact .refl s

theorem reqPresetMap_serves (k : RawKey) (ts : List RawTarget) (s : State) : s.Serves (reqPresetMap k ts s).1 := by
  unfold reqPresetMap
  split
  · exact .refl s
  · split
    · exact .refl s
    · split_ifs
      · exact s.staging_serves _
      · exact .refl s
      · exact s.staging_serves _

theorem reqPresetSatmsg_serves (a : Nat) (d : List Byte) (s : State) : s.Serves (reqPresetSatmsg a d s).1 := by
  unfold reqPresetSatmsg
  split
  · exact .refl s
  · split_ifs
    · exact .refl s
    · exact .refl s
    · exact s.staging_serves _

theorem reqPresetEnd_serves (s : State) : s.Serves (reqPresetEnd s).1 := by
  unfold reqPresetEnd
  split
  · exact .refl s
  · split
    · exact .refl s
    · exact ⟨⟨rfl, id, id, id, id, id, id, id⟩, rfl⟩

theorem reqPresetRead_serves (n p : Nat) (s : State) : s.Serves (reqPresetRead n p s).1 := by
  unfold reqPresetRead
  split
  · exact .refl s
  · split
    · exact .refl s
    · split <;> exact .refl s

theorem reqPresetErase_serves (n : Nat) (s : State) : s.Serves (reqPresetErase n s).1 := by
  unfold reqPresetErase
  split_ifs
  · exact .refl s
  · exact .refl s
  · exact s.setLocation_serves _ _

theorem reqPresetCopy_serves (n m : Nat) (s : State) : s.Serves (reqPresetCopy n m s).1 := by
  unfold reqPresetCopy
  split
  · exact .refl s
  · split
    · exact .refl s
    · unfold answer
      dsimp only
      split
      · exact .refl s
      · exact s.setLocation_serves _ _

/-! ### The engine and the clock -/

theorem State.arrive_serves (s : State) (r : SwitchRequest) : s.Serves (acceptedOr (s.arrive r)).1 := by
  unfold acceptedOr
  split <;> exact .of_base (s.arrive_keeps r) (s.arrive_base r)

theorem reqSwitch_serves (tag : Byte) (p n : Option Nat) (f : Nat) (s : State) : s.Serves (reqSwitch tag p n f s).1 := by
  unfold reqSwitch
  split
  · exact .refl s
  · split
    · exact .refl s
    · exact s.arrive_serves _

theorem reqScene_serves (tag : Byte) (n : Nat) (s : State) : s.Serves (reqScene tag n s).1 := by
  unfold reqScene
  split
  · exact .refl s
  · exact s.arrive_serves _

theorem reqHold_serves (v : Nat) (s : State) : s.Serves (reqHold v s).1 := by
  unfold reqHold
  split
  · exact .refl s
  · exact .of_base (State.setHoldOffs_keeps rfl rfl rfl) rfl
  · unfold answer
    dsimp only
    split
    · refine .of_base (.trans ?_ (State.headTest_keeps _)) (State.headTest_base _)
      exact State.setHoldOffs_keeps rfl rfl rfl
    · exact .refl s

theorem reqSwitchSetup_serves (m w1 k w2 t h : Nat) (s : State) : s.Serves (reqSwitchSetup m w1 k w2 t h s).1 := by
  unfold reqSwitchSetup
  split
  · exact .refl s
  · exact .of_base (s.takeSettings_keeps _) (s.takeSettings_base _)

theorem reqHistory_serves (n : Nat) (s : State) : s.Serves (reqHistory n s).1 := by
  unfold reqHistory
  dsimp only
  split_ifs <;> exact .refl s

theorem State.tempo_serves (s : State) (t : Tempo) : s.Serves { s with tempo := t } :=
  ⟨⟨rfl, id, id, id, id, id, id, id⟩, rfl⟩

theorem reqTempoLock_serves (v : Nat) (s : State) : s.Serves (reqTempoLock v s).1 := by
  unfold reqTempoLock
  split
  · exact .refl s
  · exact s.tempo_serves _

/-! ### The Tuner -/

theorem reqTuner_serves (a : Nat) (s : State) : s.Serves (reqTuner a s).1 := by
  unfold reqTuner
  split
  · exact .refl s
  · exact ⟨s.setEngage_keeps _, congrArg _ (s.setEngage_control _)⟩

theorem reqTunerProfile_serves (p : Nat) (t : Option Int) (o : List (Option Int)) (s : State) :
    s.Serves (reqTunerProfile p t o s).1 := by
  unfold reqTunerProfile
  split
  · exact .refl s
  · next i v _ _ =>
    refine ⟨?_, rfl⟩
    unfold answer
    dsimp only
    split
    · exact State.retuned_keeps (s.setProfile_keeps i _)
    · exact s.setProfile_keeps i _
  · exact .refl s

theorem reqTunerSetup_serves (a : Nat) (p : PerMain Nat) (s : State) : s.Serves (reqTunerSetup a p s).1 := by
  unfold reqTunerSetup
  split
  · exact .refl s
  · next q _ =>
    have taken := s.applyPolicies_keeps q (clampNat 4300 4500 a)
    have control : (s.applyPolicies s.tuner.policies q).control = s.control := by
      obtain ⟨mains, e, -⟩ := s.applyPolicies_only q
      rw [e]
    refine ⟨?_, congrArg _ control⟩
    unfold answer
    dsimp only
    split
    · exact taken
    · refine taken.trans ?_
      obtain ⟨run, e⟩ := Tuner.retuned_only { s.tuner with aref := clampNat 4300 4500 a, policies := q }
      rw [e]
      exact State.tuner_keeps Iff.rfl rfl rfl (fun _ h => h)

/-! ### Pedals, map and satellite -/

theorem reqGestureTiming_serves (l : Nat) (c h d : Option Nat) (s : State) : s.Serves (reqGestureTiming l c h d s).1 := by
  unfold reqGestureTiming
  split
  · exact .refl s
  · exact ⟨State.setLink_keeps id, rfl⟩
  · exact .refl s

theorem reqPedalStatus_serves (l f c : Nat) (s : State) : s.Serves (reqPedalStatus l f c s).1 := by
  unfold reqPedalStatus
  split
  · split
    · exact .refl s
    · unfold answer
      dsimp only
      split
      · exact ⟨State.onLink_keeps id, rfl⟩
      · exact .refl s
  · exact .refl s

/-- R172: a table within its capacity is put in place. -/
theorem State.setEntries_serves {s : State} {es : List MapEntry} (h : s.map.entries.length ≤ 96 → es.length ≤ 96) :
    s.Serves (s.setEntries es) := by
  refine ⟨⟨rfl, fun b => ?_, id, id, id, id, id, id⟩, rfl⟩
  obtain ⟨notices, replies, hold, queue, history, rate, sat, map⟩ := b
  exact ⟨notices, replies, hold, queue, history, rate, sat, h map⟩

theorem reqMapWrite_serves (k : RawKey) (ts : List RawTarget) (s : State) : s.Serves (reqMapWrite k ts s).1 := by
  unfold reqMapWrite
  split
  · exact .refl s
  · split
    · exact .refl s
    · split
      · exact State.setEntries_serves (by simp [replaceEntry])
      · split
        · exact .refl s
        · next room =>
          have : s.map.entries.length < 96 := Nat.lt_of_not_le room
          exact State.setEntries_serves (fun _ => by simpa using this)

theorem reqMapErase_serves (e : EntrySelector) (s : State) : s.Serves (reqMapErase e s).1 := by
  unfold reqMapErase
  split
  · exact .refl s
  · exact .refl s
  · exact .refl s
  · exact State.setEntries_serves (List.length_eraseIdx_le _ _).trans

theorem readTable_state (s : State) (es : List MapEntry) (e : EntrySelector) (tail : List Wire) :
    (readTable s es e tail).1 = s := by
  unfold readTable
  split <;> rfl

theorem mapReading_state (n : Nat) (e : EntrySelector) (s : State) : (mapReading n e s).1 = s := by
  unfold mapReading
  split_ifs
  · rfl
  · exact readTable_state _ _ _ _
  · split
    · rfl
    · exact readTable_state _ _ _ _

theorem reqMapRead_serves (n : Nat) (e : EntrySelector) (s : State) : s.Serves (reqMapRead n e s).1 := by
  unfold reqMapRead answer
  dsimp only
  rw [mapReading_state]
  exact .refl s

theorem reqPermit_serves (l : Nat) (m : Option Nat) (s : State) : s.Serves (reqPermit l m s).1 := by
  unfold reqPermit
  split
  · exact .refl s
  · split
    · exact .refl s
    · split
      · exact .refl s
      · exact ⟨⟨rfl, id, id, id, id, id, id, id⟩, rfl⟩

theorem reqSatAddr_serves (w : Option AddressWrite) (t : Option Nat) (s : State) : s.Serves (reqSatAddr w t s).1 := by
  unfold reqSatAddr
  split
  · exact ⟨State.sat_keeps (Satellite.write_keeps _ _ _) rfl, rfl⟩
  · exact .refl s

theorem reqSatSend_serves (tag : Byte) (p a : Nat) (d : List Byte) (s : State) : s.Serves (reqSatSend tag p a d s).1 := by
  obtain ⟨restarted, count⟩ := s.sat.restartTimer_keeps
  unfold reqSatSend
  split
  · exact .refl s
  · dsimp only
    split_ifs with _ full
    · exact .refl s
    · exact ⟨State.sat_keeps restarted count, rfl⟩
    · refine ⟨State.sat_keeps (restarted.trans ?_) count, rfl⟩
      exact Satellite.appendRaw_keeps rfl rfl (Nat.lt_of_not_le full)

theorem reqSatBypass_serves (v : Nat) (t : Option Nat) (s : State) : s.Serves (reqSatBypass v t s).1 := by
  unfold reqSatBypass
  split
  · exact .refl s
  · exact ⟨State.withSat_keeps s.sat.bypassEnd_keeps, congrArg _ (s.withSat_control _)⟩
  · split
    · exact .refl s
    · split
      · next on => exact ⟨State.sat_keeps (Satellite.bypassTimer_keeps (by simp [on]) t) rfl, rfl⟩
      · exact ⟨State.withSat_keeps (Satellite.bypassOn_keeps _ _), congrArg _ (s.withSat_control _)⟩

theorem reqSatStatus_serves (c : Nat) (s : State) : s.Serves (reqSatStatus c s).1 := by
  unfold reqSatStatus
  split
  · exact .refl s
  · unfold answer
    dsimp only
    split
    · exact ⟨State.sat_keeps (Satellite.keeps_of_same rfl rfl rfl rfl Iff.rfl rfl) rfl, rfl⟩
    · exact .refl s

/-! ### The control link -/

theorem reqStatus_serves (n : Nat) (s : State) : s.Serves (reqStatus n s).1 := by
  unfold reqStatus
  split <;> exact .refl s

theorem reqNoticeRoute_serves (k : Nat) (d : Option Nat) (s : State) : s.Serves (reqNoticeRoute k d s).1 := by
  unfold reqNoticeRoute
  split
  · exact .refl s
  · split
    · exact .refl s
    · split
      · exact .refl s
      · split
        · exact .refl s
        · split
          · exact ⟨⟨rfl, id, id, id, id, id, id, id⟩, rfl⟩
          · exact .refl s

theorem reqReset_serves (s : State) : s.Serves (reqReset s).1 := by
  refine ⟨⟨rfl, fun b => ?_, id, id, id, id, id, id⟩, rfl⟩
  obtain ⟨notices, replies, hold, rest⟩ := b
  exact ⟨notices, replies, Nat.zero_le _, rest⟩

/-- R200: every request taken. -/
theorem perform_serves (tag : Byte) (r : Request) (s : State) : s.Serves (perform tag r s).1 := by
  cases r with
  | mute x o => exact reqMute_serves x o s
  | unmute x o => exact reqUnmute_serves x o s
  | meters c => exact reqMeters_serves c s
  | curveWrite n name points => exact reqCurveWrite_serves n name points s
  | curveRead n => exact reqCurveRead_serves n s
  | curveErase n => exact reqCurveErase_serves n s
  | paramSet p i v => exact reqParamSet_serves p i v s
  | slotSet p e => exact reqSlotSet_serves p e s
  | inputSelect i => exact reqInputSelect_serves i s
  | loopMeasure l => exact reqLoopMeasure_serves tag l s
  | loopSet l v => exact reqLoopSet_serves l v s
  | loopRead l => exact reqLoopRead_serves l s
  | presetBegin n h => exact reqPresetBegin_serves n h s
  | presetSlot f p => exact reqPresetSlot_serves f p s
  | presetScene f p => exact reqPresetScene_serves f p s
  | presetMap k ts => exact reqPresetMap_serves k ts s
  | presetSatmsg a d => exact reqPresetSatmsg_serves a d s
  | presetEnd => exact reqPresetEnd_serves s
  | presetRead n p => exact reqPresetRead_serves n p s
  | presetErase n => exact reqPresetErase_serves n s
  | presetCopy n m => exact reqPresetCopy_serves n m s
  | switch p n f => exact reqSwitch_serves tag p n f s
  | scene n => exact reqScene_serves tag n s
  | hold v => exact reqHold_serves v s
  | switchSetup m w1 k w2 t h => exact reqSwitchSetup_serves m w1 k w2 t h s
  | panic => exact ⟨s.panic_keeps, congrArg _ s.panic_control⟩
  | history n => exact reqHistory_serves n s
  | tempoSet t => exact s.tempo_serves _
  | tap => exact s.tempo_serves _
  | tempoLock v => exact reqTempoLock_serves v s
  | tuner a => exact reqTuner_serves a s
  | tunerProfile p t o => exact reqTunerProfile_serves p t o s
  | tunerSetup a p => exact reqTunerSetup_serves a p s
  | gestureTiming l c h d => exact reqGestureTiming_serves l c h d s
  | pedalStatus l f c => exact reqPedalStatus_serves l f c s
  | mapWrite k ts => exact reqMapWrite_serves k ts s
  | mapErase e => exact reqMapErase_serves e s
  | mapRead n e => exact reqMapRead_serves n e s
  | permit l m => exact reqPermit_serves l m s
  | satAddr w t => exact reqSatAddr_serves w t s
  | satSend p a d => exact reqSatSend_serves tag p a d s
  | satBypass v t => exact reqSatBypass_serves v t s
  | satStatus c => exact reqSatStatus_serves c s
  | ident => exact .refl s
  | status n => exact reqStatus_serves n s
  | reset => exact reqReset_serves s
  | noticeRoute k d => exact reqNoticeRoute_serves k d s

end Sys2Proof.Machine
end

section
/-! PROOFS. The control link and the resets keep the invariants. -/
namespace Sys2Proof.Machine

/-! ## The control link -/

/-- R200: a request taken where there is room for its reply. -/
theorem takeFrame_keeps_of (f : ControlFrame) {s₀ s : State} (k : s₀.Keeps s)
    (room : s₀.queuesBounded → s.control.replies.length < 8) : s₀.Keeps (takeFrame f s) := by
  have replied {t : State} (h : s.Serves t) (tag kind : Byte) (a : Answer) : s₀.Keeps (t.reply tag kind a) := by
    have served := k.trans h.keeps
    refine ⟨served.pending, fun b => ?_, served.builtIns, served.roles, served.tuner, served.held, served.sat, served.links⟩
    obtain ⟨notices, -, hold, rest⟩ := served.bounded b
    refine ⟨notices, ?_, hold, rest⟩
    change (t.control.replies ++ [_]).length ≤ 8
    rw [h.replies, List.length_append, List.length_singleton]
    exact room b
  unfold takeFrame
  split
  · exact replied (perform_serves _ _ _) _ _ _
  · exact replied (.refl s) _ _ _
  · exact replied (.refl s) _ _ _

/-- A change of the control link that keeps the capacities of its two queues. -/
theorem State.control_keeps {s : State} {c : ControlLink} (replies : s.control.replies.length ≤ 8 → c.replies.length ≤ 8)
    (hold : s.control.hold.length ≤ 2 → c.hold.length ≤ 2) : s.Keeps { s with control := c } := by
  refine ⟨rfl, fun b => ?_, id, id, id, id, id, id⟩
  obtain ⟨notices, r, h, rest⟩ := b
  exact ⟨notices, replies r, hold h, rest⟩

theorem State.holdFrame_keeps (s : State) (f : ControlFrame) : s.Keeps { s with control := s.control.holdFrame f } := by
  unfold ControlLink.holdFrame
  split
  · next room =>
    have : s.control.hold.length < 2 := room
    exact State.control_keeps id (fun _ => by simpa using this)
  · exact State.control_keeps id id

theorem receive_keeps (f : ControlFrame) (s : State) : s.Keeps (receive f s) := by
  unfold receive
  split
  · split
    · next room => exact takeFrame_keeps_of f (.refl s) (fun _ => room)
    · exact s.holdFrame_keeps f
  · exact .refl s

theorem State.badFrame_keeps (s : State) : s.Keeps { s with control := s.control.badFrame } := by
  unfold ControlLink.badFrame
  split <;> exact State.control_keeps id id

/-- R200: a held frame is taken as a reply leaves. -/
theorem takeHeld_keeps_of {s₀ s : State} (k : s₀.Keeps s) (room : s₀.queuesBounded → s.control.replies.length < 8) :
    s₀.Keeps (takeHeld s) := by
  unfold takeHeld
  split
  · exact k
  · next f rest held =>
    refine takeFrame_keeps_of f (s := { s with control := { s.control with hold := rest } }) (k.trans ?_) room
    exact State.control_keeps id (fun h => by rw [held, List.length_cons] at h; exact Nat.le_of_succ_le h)

theorem NoticeQueue.depart_length {q : NoticeQueue} (h : q.queue.length ≤ 32) (routed : Bool) (frame : Nat) :
    (q.depart routed frame).queue.length ≤ 32 := by
  unfold NoticeQueue.depart
  split
  · exact h
  · next n rest e =>
    rw [e, List.length_cons] at h
    split
    · exact Nat.le_of_succ_le h
    · split
      · simpa using h
      · exact Nat.le_of_succ_le h
    · exact Nat.le_of_succ_le h

theorem NoticeQueue.depart_readings {q : NoticeQueue} (h : q.queue.all (fun m => !m.isReading) = true) (routed : Bool)
    (frame : Nat) : (q.depart routed frame).queue.all (fun m => !m.isReading) = true := by
  unfold NoticeQueue.depart
  split
  · exact h
  · next n rest e =>
    rw [e, List.all_cons, Bool.and_eq_true] at h
    split
    · exact h.2
    · split
      · rw [List.all_append, h.2]; rfl
      · exact h.2
    · exact h.2

/-- R203: the head notice departs. -/
theorem State.depart_keeps (s : State) (routed : Bool) (frame : Nat) :
    s.Keeps { s with notices := s.notices.depart routed frame } := by
  refine ⟨rfl, fun b => ?_, id, id, fun k => ?_, id, id, id⟩
  · obtain ⟨notices, rest⟩ := b
    exact ⟨NoticeQueue.depart_length notices _ _, rest⟩
  · obtain ⟨engaged, off, muted⟩ := k
    exact ⟨engaged, fun e => ⟨(off e).1, NoticeQueue.depart_readings (off e).2 _ _⟩, muted⟩

/-- R201: CONTROL_TX_START. -/
theorem txStart_keeps (s : State) : s.Keeps (txStart s) := by
  unfold txStart
  split
  · exact .refl s
  · next r rest _ replies =>
    unfold sendReply
    have room : s.queuesBounded → rest.length < 8 := by
      rintro ⟨-, h, -⟩
      rw [replies, List.length_cons] at h
      exact h
    refine takeHeld_keeps_of ⟨rfl, fun b => ?_, id, id, id, id, id, id⟩ room
    obtain ⟨notices, -, hold, others⟩ := id b
    exact ⟨notices, Nat.le_of_lt (room b), hold, others⟩
  · unfold sendNotice
    exact (s.depart_keeps _ _).trans (State.control_keeps id id)
  · exact .refl s

/-! ## Resets -/

theorem LoopUnit.softReset_measuring (u : LoopUnit) : u.softReset.measuring = none := u.abort_measuring

/-- R15, R91: a part whose buffers are all FREE, with an engine IDLE, is coherent. -/
theorem State.fresh_roles {s : State} (buffers : s.buffers = State.reset.buffers) (state : s.engine.state = .idle)
    (current : s.engine.current = none) (queue : s.engine.queue = []) : s.rolesCoherent ∧ s.restingByQueue := by
  have none (p : Role → Bool) (h : p .free = false) : s.rolesIn p = 0 := by
    rw [State.rolesIn_eq, buffers]
    change (p .free).toNat + (p .free).toNat + (p .free).toNat = 0
    rw [h]
    rfl
  have free (b : BufferId) : s.buffers.get b = Buffer.free := by rw [buffers]; cases b <;> rfl
  refine ⟨⟨⟨?_, ?_, ?_, ?_⟩, fun b => ?_, fun b _ => ?_, ?_, fun cur h => ?_, fun _ => none _ rfl, fun _ => none _ rfl,
    fun _ => none _ rfl⟩, fun _ => queue, fun h => ?_⟩
  · exact (le_of_eq (none _ rfl)).trans (by decide)
  · exact (le_of_eq (none _ rfl)).trans (by decide)
  · exact (le_of_eq (none _ rfl)).trans (by decide)
  · exact (le_of_eq (none _ rfl)).trans (by decide)
  · rw [free]; exact iff_of_true rfl rfl
  · rw [free]; exact ⟨rfl, rfl⟩
  · rw [state, current]; exact iff_of_true rfl rfl
  · rw [current] at h; cases h
  · rw [state] at h; cases h

/-- R135: a tuner that is OFF, with nothing muted for it and no reading queued, is coherent. -/
theorem State.fresh_tuner {s : State} (state : s.tuner.state = .off) (engage : s.tuner.engage = EngageSet.none)
    (last : s.tuner.last = none) (queue : s.notices.queue.all (fun n => !n.isReading) = true)
    (mains : s.mains = State.reset.mains) : s.tunerCoherent := by
  refine ⟨iff_of_true state (by rw [engage]; rfl), fun _ => ⟨last, queue⟩, fun o => ?_⟩
  rw [state, mains]
  refine iff_of_false ?_ (fun h => h.1 rfl)
  cases o <;> exact Bool.false_ne_true

theorem PedalLink.reset_coherent (c h d : Nat) : (PedalLink.reset c h d).coherent :=
  ⟨List.length_replicate, List.length_replicate,
    fun _ => ⟨rfl, fun r hr => by rw [List.eq_of_mem_replicate hr]; exact ⟨rfl, rfl, rfl, rfl, rfl⟩⟩, List.nodup_nil⟩

theorem State.reset_links : State.reset.linksCoherent := fun l => by
  cases l <;> exact PedalLink.reset_coherent 40 600 250

theorem State.reset_builtIns : State.reset.builtInsKept := ⟨rfl, rfl⟩

theorem State.reset_held : State.reset.holdOffsCurrent :=
  ⟨iff_of_false Bool.false_ne_true (fun h => h.1 rfl), iff_of_false Bool.false_ne_true (fun h => absurd h.1 (by decide)),
    iff_of_false Bool.false_ne_true Bool.false_ne_true⟩

theorem State.reset_sat : State.reset.satelliteCoherent := ⟨rfl, rfl, fun _ => rfl, fun h => absurd rfl h⟩

theorem State.reset_bounded : State.reset.queuesBounded := by
  refine ⟨?_, ?_, ?_, ?_, ?_, ?_, ?_, ?_⟩ <;> decide

theorem curvesSoftReset_names (cs : List CurveEntry) :
    (curvesSoftReset cs).map (fun e => (e.name, e.points)) = cs.map (fun e => (e.name, e.points)) := by
  rw [curvesSoftReset, List.map_map]
  rfl

/-- R208: the soft reset. -/
theorem softReset_keeps (s : State) : s.Keeps (softReset s) where
  pending := rfl
  bounded b := by
    obtain ⟨-, -, -, -, -, -, -, map⟩ := b
    exact ⟨Nat.le_of_ble_eq_true rfl, Nat.zero_le _, Nat.zero_le _, Nat.zero_le _, Nat.zero_le _, Nat.zero_le _,
      Nat.zero_le _, map⟩
  builtIns := (State.curves_keeps s (curvesSoftReset_names s.curves)).builtIns
  roles _ := State.fresh_roles rfl rfl rfl rfl
  tuner _ := State.fresh_tuner rfl rfl rfl rfl rfl
  held _ := by
    refine ⟨iff_of_false Bool.false_ne_true (fun h => h.1 rfl),
      iff_of_false Bool.false_ne_true (fun h => Nat.lt_irrefl 0 h.1), iff_of_false Bool.false_ne_true ?_⟩
    change ¬ s.loops.softReset.measuring.isSome = true
    rw [LoopUnit.softReset_measuring]
    exact Bool.false_ne_true
  sat k := by
    obtain ⟨-, table, -, -⟩ := k
    exact ⟨rfl, table, fun _ => rfl, fun h => absurd rfl h⟩
  links _ l := by
    cases l
    · exact PedalLink.reset_coherent s.pedals.a.comboMs s.pedals.a.holdMs s.pedals.a.doubleMs
    · exact PedalLink.reset_coherent s.pedals.b.comboMs s.pedals.b.holdMs s.pedals.b.doubleMs

theorem initComplete_keeps (s : State) : s.Keeps (initComplete s) where
  pending := rfl
  bounded _ := State.reset_bounded
  builtIns _ := State.reset_builtIns
  roles _ := State.fresh_roles rfl rfl rfl rfl
  tuner _ := State.fresh_tuner rfl rfl rfl rfl rfl
  held _ := State.reset_held
  sat _ := State.reset_sat
  links _ := State.reset_links

theorem powerOnReset_keeps (s : State) : s.Keeps (powerOnReset s) where
  pending := rfl
  bounded _ := by
    obtain ⟨-, rest⟩ := State.reset_bounded
    exact ⟨Nat.zero_le _, rest⟩
  builtIns _ := State.reset_builtIns
  roles _ := State.fresh_roles rfl rfl rfl rfl
  tuner _ := State.fresh_tuner rfl rfl rfl rfl rfl
  held _ := State.reset_held
  sat _ := State.reset_sat
  links _ := State.reset_links

/-- R201: CONTROL_TX_END. -/
theorem txEnd_keeps (s : State) : s.Keeps (txEnd s) := by
  unfold txEnd
  split
  · exact .refl s
  · split
    · exact softReset_keeps s
    · exact State.control_keeps id id

end Sys2Proof.Machine
end

section
/-! PROOFS. The end of a frame and the frame keep the invariants. -/
namespace Sys2Proof.Machine

/-! ## The end of a frame -/

theorem State.meters_keeps (s : State) (m : PerOut Meter) : s.Keeps { s with meters := m } :=
  ⟨rfl, id, id, id, id, id, id, id⟩

/-- R19: a change of the mute stages that leaves the mute sets. -/
theorem State.mains_keeps {s : State} {m : PerMain MuteStage} (h : ∀ o, (m.get o).sources = (s.mains.get o).sources) :
    s.Keeps { s with mains := m } := by
  refine ⟨rfl, id, id, id, fun k => ?_, id, id, id⟩
  obtain ⟨engaged, off, muted⟩ := k
  exact ⟨engaged, off, fun o => by rw [← muted o]; exact iff_of_eq (by rw [h o])⟩

theorem State.postClip_keeps (s : State) (o : Out) : s.Keeps (s.postClip o) := by
  unfold State.postClip
  dsimp only
  split
  · exact (s.post_keeps _ _ (by simp [NoticeBody.kind])).trans (State.meters_keeps _ _)
  · exact .refl s

/-- A change of every buffer that leaves the roles, the codes and which buffers hold a context. -/
theorem State.mapBuffers_keeps (s : State) {f : Buffer → Buffer} (role : ∀ x, (f x).role = x.role)
    (holds : ∀ x, (f x).context = none ↔ x.context = none)
    (codes : ∀ x : Buffer, x.role.running = false → x.atRest → (f x).atRest) :
    s.Keeps { s with buffers := s.buffers.map f } :=
  State.buffers_keeps (fun b => by rw [PerBuffer.get_map, role]) (fun b _ => by rw [PerBuffer.get_map, holds])
    (fun b => by rw [PerBuffer.get_map]; exact codes _)

theorem State.settleOutputs_keeps (s : State) : s.Keeps s.settleOutputs := by
  have buffers : s.Keeps { s with buffers := s.buffers.map (fun b => { b with context := b.context.map Context.settle }) } :=
    s.mapBuffers_keeps (fun _ => rfl) (fun _ => by simp) (fun _ _ h => h)
  refine .trans (.trans buffers (.trans (State.meters_keeps _ (s.meters.map Meter.settle))
    (State.mains_keeps (m := s.mains.map MuteStage.settle) fun o => ?_))) (State.Keeps.foldl State.postClip_keeps _ _)
  rw [PerMain.get_map]
  rfl

theorem Buffer.settle_only (x : Buffer) : ∃ n q p, x.settle = { x with spillFrames := n, quietCount := q, rowPeak := p } := by
  unfold Buffer.settle
  split <;> exact ⟨_, _, _, rfl⟩

theorem Tuner.collect_keeps (s : State) : s.Keeps { s with tuner := s.tuner.collect } := by
  unfold Tuner.collect
  split
  · exact .refl s
  · exact State.tuner_keeps Iff.rfl rfl rfl (fun _ h => h)

/-- A change of both links that leaves them coherent. -/
theorem State.pedals_keeps {s : State} {f : PedalLink → PedalLink} (h : ∀ p : PedalLink, p.coherent → (f p).coherent) :
    s.Keeps { s with pedals := { a := f s.pedals.a, b := f s.pedals.b } } :=
  ⟨rfl, id, id, id, id, id, id, fun k l => by
    cases l
    · exact h _ (k .a)
    · exact h _ (k .b)⟩

/-- R5: what every block counts as a frame ends. -/
theorem State.settleFrame_keeps (s : State) : s.Keeps s.settleFrame := by
  refine .trans ?_ (State.settleOutputs_keeps _)
  have buffers : s.Keeps { s with buffers := s.buffers.map Buffer.settle } :=
    s.mapBuffers_keeps (fun x => by obtain ⟨n, q, p, e⟩ := x.settle_only; rw [e])
      (fun x => by obtain ⟨n, q, p, e⟩ := x.settle_only; rw [e])
      (fun x _ h => by obtain ⟨n, q, p, e⟩ := x.settle_only; rw [e]; exact h)
  refine buffers.trans (.trans (State.loops_keeps (u := s.loops.settle) (Option.isSome_map ..))
    (.trans (Tuner.collect_keeps _) (.trans (State.pedals_keeps (f := PedalLink.settle) fun p h => h)
      (State.sat_keeps (u := s.sat.settle) (Satellite.settle_keeps _) rfl))))

theorem State.endFrame_keeps (s : State) : s.Keeps s.endFrame := by
  unfold State.endFrame
  split
  · exact s.settleFrame_keeps.trans ⟨rfl, id, id, id, id, id, id, id⟩
  · exact .refl s

/-! ### The events due at it -/

theorem State.ifDue_keeps {s : State} {due : State → Bool} {event : State → State} (h : due s = true → s.Keeps (event s)) :
    s.Keeps (s.ifDue due event) := by
  unfold State.ifDue
  split
  · next d => exact h d
  · exact .refl s

theorem State.rateExpiry_keeps (s : State) : s.Keeps s.rateExpiry := by
  refine .trans ?_ (State.headTest_keeps _)
  exact State.setHoldOffs_keeps rfl rfl rfl

theorem State.beatEvent_keeps (s : State) : s.Keeps s.beatEvent := by
  unfold State.beatEvent
  extract_lets t u
  have beat : s.Keeps t := ⟨rfl, id, id, id, id, id, id, id⟩
  exact (beat.trans (State.engineBeat_keeps _ _)).trans (State.post_keeps _ _ _ (by simp [NoticeBody.kind]))

theorem State.loadEvent_keeps {s : State} (due : s.loadDue = true) : s.Keeps s.loadEvent := by
  unfold State.loadDue at due
  unfold State.loadEvent
  split at due
  · next cur state current =>
    rw [current]
    dsimp only
    split
    · exact .refl s
    · next c held => exact State.loadDone_keeps c state current (by simp [held])
  · cases due

/-- A buffer of a filtered list of a role has that role. -/
theorem State.role_of_filter {s : State} {r : Role} {p : BufferId → Bool} {b : BufferId} {rest : List BufferId}
    (h : (s.withRole r).filter p = b :: rest) : (s.buffers.get b).role = r :=
  State.mem_withRole.mp (List.mem_of_mem_filter (h ▸ List.mem_cons_self))

theorem State.cutEvent_keeps (s : State) : s.Keeps s.cutEvent := by
  unfold State.cutEvent
  split
  · exact .refl s
  · next e => exact State.resume_keeps (by rw [State.role_of_filter e]; rfl)

theorem State.quietEvent_keeps (s : State) : s.Keeps s.quietEvent := by
  unfold State.quietEvent
  split
  · exact .refl s
  · next e => exact State.resume_keeps (by rw [State.role_of_filter e]; rfl)

theorem State.limitEvent_keeps (s : State) : s.Keeps s.limitEvent := by
  unfold State.limitEvent
  split
  · exact .refl s
  · next e => exact State.startCut_keeps (State.role_of_filter e)

theorem State.fadeEvent_keeps {s : State} (due : s.fadeDue = true) : s.Keeps s.fadeEvent := by
  unfold State.fadeEvent
  split
  · exact .refl s
  · next cur current =>
    refine State.fadeDone_keeps ?_ current
    simp only [State.fadeDue, Bool.and_eq_true, beq_iff_eq] at due
    exact due.1.1

theorem State.satTimeout_keeps (s : State) : s.Keeps s.satTimeout := by
  unfold State.satTimeout
  split
  · exact .refl s
  · refine .trans ?_ (State.post_keeps _ _ _ (by simp [NoticeBody.kind]))
    exact State.withSat_keeps (s.sat.finish_keeps.trans (Satellite.keeps_of_same rfl rfl rfl rfl Iff.rfl rfl))

theorem State.silenceEvent_keeps (s : State) (l : Link) : s.Keeps (s.silenceEvent l) := by
  unfold State.silenceEvent
  split
  · exact .refl s
  · exact s.linkLost_keeps _ _ _

theorem State.bypassEvent_keeps (s : State) : s.Keeps s.bypassEvent := State.withSat_keeps s.sat.bypassEnd_keeps

theorem State.switchEvents_keeps (l : Link) (s : State) (n : Nat) : s.Keeps (State.switchEvents l s n) :=
  ((State.ifDue_keeps State.comboExpiry_keeps).trans (State.ifDue_keeps State.holdExpiry_keeps)).trans
    (State.ifDue_keeps State.doubleExpiry_keeps)

theorem State.flushLink_keeps (s : State) (l : Link) : s.Keeps (s.flushLink l) := by
  unfold State.flushLink
  exact (State.ifDue_keeps fun _ => s.silenceEvent_keeps l).trans (State.Keeps.foldl (State.switchEvents_keeps l) _ _)

theorem State.flushEngine_keeps (s : State) : s.Keeps s.flushEngine := by
  unfold State.flushEngine
  refine .trans (.trans (.trans (.trans (.trans (.trans (.trans (State.ifDue_keeps fun _ => State.rateExpiry_keeps _)
    (State.ifDue_keeps fun _ => State.measureEvent_keeps _)) (State.ifDue_keeps fun _ => State.beatEvent_keeps _))
    (State.ifDue_keeps State.loadEvent_keeps)) (State.ifDue_keeps fun _ => State.cutEvent_keeps _))
    (State.ifDue_keeps State.fadeEvent_keeps)) (State.ifDue_keeps fun _ => State.quietEvent_keeps _))
    (State.ifDue_keeps fun _ => State.limitEvent_keeps _)

/-- The rest of a frame's end. -/
theorem State.flush_keeps (s : State) : s.Keeps s.flush := by
  unfold State.flush
  refine .trans (.trans ?_ (State.ifDue_keeps fun _ => State.satTimeout_keeps _))
    (State.ifDue_keeps fun _ => State.bypassEvent_keeps _)
  exact (((s.endFrame_keeps.trans (State.flushLink_keeps _ _)).trans (State.flushLink_keeps _ _)).trans
    (State.flushEngine_keeps _)).trans (State.ifDue_keeps fun _ => State.estimate_keeps _ _ _)

theorem State.closeFrame_keeps (s : State) : s.Keeps s.closeFrame := by
  unfold State.closeFrame
  split
  · have ticked (t : State) : t.Keeps { t with
        pedals := { a := t.pedals.a.tick, b := t.pedals.b.tick }, sat := t.sat.tick } :=
      (State.pedals_keeps fun _ => PedalLink.coherent_tick).trans
        (State.sat_keeps (u := t.sat.tick) (Satellite.tick_keeps _) rfl)
    have flushed := s.flush_keeps
    generalize s.flush = t at flushed ⊢
    exact (flushed.trans (ticked t)).trans ⟨rfl, id, id, id, id, id, id, id⟩
  · exact .refl s

theorem State.late_keeps (s : State) : s.Keeps s.late := by
  unfold State.late
  split
  · exact s.closeFrame_keeps.trans ⟨rfl, id, id, id, id, id, id, id⟩
  · exact .refl s

theorem State.atFrameEnd_keeps {s : State} {due : State → Bool} {event : State → State}
    (h : ∀ t : State, due t = true → t.Keeps (event t)) : s.Keeps (s.atFrameEnd due event) := by
  unfold State.atFrameEnd
  split
  · next d =>
    rw [Bool.and_eq_true] at d
    exact s.endFrame_keeps.trans (h _ d.2)
  · exact .refl s

/-! ## The frame -/

theorem Buffer.tick_only (x : Buffer) : ∃ n m, x.tick = { x with loadLeft := n, cutFrames := m } := by
  unfold Buffer.tick
  split <;> exact ⟨_, _, rfl⟩

theorem Engine.tick_only (e : Engine) : ∃ n, e.tick = { e with fadeFrame := n } := by
  unfold Engine.tick
  split <;> exact ⟨_, rfl⟩

theorem Buffer.takeCodes_role (e : Engine) (x : Buffer) : (x.takeCodes e).role = x.role ∧ (x.takeCodes e).context = x.context := by
  unfold Buffer.takeCodes
  split <;> exact ⟨rfl, rfl⟩

/-- R15, R92: outside the running roles the codes a buffer takes are those of rest. -/
theorem Buffer.takeCodes_rest {e : Engine} {x : Buffer} (idle : x.role.running = false) (h : x.atRest) :
    (x.takeCodes e).atRest := by
  unfold Buffer.takeCodes
  split
  · exact h
  · obtain ⟨tOut, tIn⟩ := h
    have codes (p t k n i : Nat) (pol : SpillPolicy) (f : Bool) : roleCodes x.role pol f t k n i = (0, 192) := by
      revert idle
      cases x.role <;> simp [Role.running, roleCodes]
    refine ⟨?_, ?_⟩
    · dsimp only
      rw [codes 0, tOut]
    · dsimp only
      rw [codes 0, tIn]

theorem Buffer.beginContext_only (i : Input) (x : Buffer) :
    ∃ c, x.beginContext i = { x with context := c } ∧ (c = none ↔ x.context = none) := by
  unfold Buffer.beginContext
  split
  · exact ⟨_, rfl, by simp⟩
  · exact ⟨_, rfl, Iff.rfl⟩

/-- R5: the codes and counts as a frame begins. -/
theorem State.prepareFrame_keeps (s : State) : s.Keeps s.prepareFrame := by
  unfold State.prepareFrame
  obtain ⟨n, ticked⟩ := s.engine.tick_only
  have buffers : s.Keeps { s with
      buffers := s.buffers.map (fun (x : Buffer) => ((x.tick.takeCodes s.engine.tick).beginContext s.selected)) } := by
    refine s.mapBuffers_keeps (fun x => ?_) (fun x => ?_) (fun x idle h => ?_) <;>
      obtain ⟨c, e, none⟩ := Buffer.beginContext_only s.selected (x.tick.takeCodes s.engine.tick) <;>
      obtain ⟨n, m, t⟩ := x.tick_only <;> rw [e]
    · rw [(Buffer.takeCodes_role _ _).1, t]
    · rw [none, (Buffer.takeCodes_role _ _).2, t]
    · exact Buffer.takeCodes_rest (x := x.tick) (by rw [t]; exact idle) (by rw [t]; exact h)
  dsimp only
  rw [ticked] at buffers ⊢
  refine buffers.trans (.trans (State.setEngine_keeps (e := { s.engine with
      fadeFrame := n, holdOffs := { s.engine.holdOffs with
        rate := s.engine.holdOffs.rate || ({ s.engine with fadeFrame := n } : Engine).rateBroken s.frameCounter } })
    rfl rfl rfl id id rfl rfl rfl rfl) (State.mains_keeps (m := s.mains.map MuteStage.begin) fun o => ?_))
  rw [PerMain.get_map]
  rfl

theorem Buffer.run_none {env : ContextEnv} {x : Buffer} (h : x.role.running = false) : x.run env = none := by
  simp [Buffer.run, h]

theorem Buffer.afterRun_role (x : Buffer) (r : Option ContextRun) : (x.afterRun r).role = x.role := by cases r <;> rfl

theorem Buffer.afterRun_context (env : ContextEnv) (x : Buffer) : (x.afterRun (x.run env)).context = none ↔ x.context = none := by
  cases h : x.run env with
  | none => rfl
  | some r =>
    have held : x.context ≠ none := by
      rintro e
      simp [Buffer.run, e] at h
    exact iff_of_false (by simp [Buffer.afterRun]) held

theorem Buffer.passCodes_rest {x : Buffer} (h : x.atRest) : x.passCodes.atRest := by
  obtain ⟨tOut, tIn⟩ := h
  constructor
  · rw [Buffer.passCodes, tOut]; rfl
  · rw [Buffer.passCodes, tIn]
    change (⟨192, gainFactor 192⟩ : Gain) = ⟨192, 1048576⟩
    rw [show gainFactor 192 = 1048576 by decide]

theorem Tuner.feed_keeps (s : State) (i : Input) (input : FrameInput) :
    s.Keeps { s with tuner := s.tuner.feed i input } := by
  unfold Tuner.feed
  split
  · exact .refl s
  · exact State.tuner_keeps Iff.rfl rfl rfl (fun _ h => h)

/-- R5: the frame is computed. -/
theorem State.computeFrame_keeps (s : State) (input : FrameInput) : s.Keeps (s.computeFrame input) := by
  unfold State.computeFrame
  extract_lets env runs
  have buffers : s.Keeps { s with
      buffers := s.buffers.map (fun (x : Buffer) => (x.afterRun (x.run env)).passCodes) } := by
    refine s.mapBuffers_keeps (fun x => Buffer.afterRun_role x _) (fun x => Buffer.afterRun_context env x)
      (fun x idle h => Buffer.passCodes_rest ?_)
    rw [Buffer.run_none idle]
    exact h
  refine buffers.trans (.trans (State.meters_keeps _ (PerOut.of fun o => (s.meters.get o).frame (outputBlock s runs o)))
    (.trans (State.mains_keeps (m := s.mains.map MuteStage.passed) fun o => ?_)
      (.trans (State.loops_keeps (u := s.loops.feed input) (Option.isSome_map ..)) (Tuner.feed_keeps _ s.selected input))))
  rw [PerMain.get_map]
  rfl

theorem State.runFrame_keeps (s : State) (input : FrameInput) : s.Keeps (s.runFrame input) :=
  ((s.closeFrame_keeps.trans (State.prepareFrame_keeps _)).trans (State.computeFrame_keeps _ _)).trans
    ⟨rfl, id, id, id, id, id, id, id⟩

end Sys2Proof.Machine
end

section
/-! PROOFS. Every command keeps the invariants: the statements of the step, of the power-on values and of what every command keeps. -/
namespace Sys2Proof.Machine

/-! ## The commands -/

theorem State.ifRunning_keeps {s : State} {f : State → State} (h : s.Keeps (f s)) : s.Keeps (s.ifRunning f) := by
  unfold State.ifRunning
  split
  · exact h
  · exact .refl s

theorem State.inFrame_keeps (s : State) {f : State → State} (h : ∀ t : State, t.Keeps (f t)) : s.Keeps (s.inFrame f) :=
  State.ifRunning_keeps (s.late_keeps.trans (h _))

theorem State.arrival_keeps (s : State) (tag : Byte) (r : Request) : s.Keeps (s.arrival tag r) :=
  s.inFrame_keeps (receive_keeps _)

theorem State.atFrameEnd_running_keeps (s : State) {due : State → Bool} {event : State → State}
    (h : ∀ t : State, due t = true → t.Keeps (event t)) : s.Keeps (s.ifRunning (fun s => s.atFrameEnd due event)) :=
  State.ifRunning_keeps (State.atFrameEnd_keeps h)

theorem State.takeAck_keeps (s : State) (a : Byte) : s.Keeps (s.takeAck a) := by
  unfold State.takeAck
  split
  · exact State.sat_keeps s.sat.framing_keeps rfl
  · exact State.withSat_keeps (s.sat.ack_keeps _)

theorem State.takeData_keeps (s : State) (a : Byte) (d : List Byte) : s.Keeps (s.takeData a d) := by
  unfold State.takeData
  split
  · exact State.sat_keeps s.sat.framing_keeps rfl
  · exact s.post_keeps _ _ (by simp [NoticeBody.kind])

theorem controlFrame_keeps (bytes : List Byte) (s : State) :
    s.Keeps (match parseFrame bytes with
      | some f => receive f s
      | none => { s with control := s.control.badFrame }) := by
  split
  · exact receive_keeps _ s
  · exact s.badFrame_keeps

/-- Every command ends in a next state that keeps what is said in `State.Keeps`: a host request arrives as its frame, an
event of a frame's end acts after the counts of the frame, and any other command acts within a frame. -/
theorem exec_keeps (i : Instr) (s : State) : ∃ t, exec i s = .next t ∧ s.Keeps t := by
  cases i with
  | frame input => exact ⟨_, rfl, State.ifRunning_keeps (s.runFrame_keeps input)⟩
  | controlFrameReceived bytes => exact ⟨_, rfl, s.inFrame_keeps (controlFrame_keeps bytes)⟩
  | controlBadFrame => exact ⟨_, rfl, s.inFrame_keeps State.badFrame_keeps⟩
  | controlByteGapTimeout => exact ⟨_, rfl, s.inFrame_keeps State.badFrame_keeps⟩
  | controlTxStart => exact ⟨_, rfl, s.inFrame_keeps txStart_keeps⟩
  | controlTxEnd => exact ⟨_, rfl, s.inFrame_keeps txEnd_keeps⟩
  | softReset =>
    refine ⟨_, rfl, s.inFrame_keeps fun t => ?_⟩
    split
    · exact softReset_keeps t
    · exact .refl t
  | powerOnReset => exact ⟨_, rfl, powerOnReset_keeps s⟩
  | initComplete =>
    refine ⟨_, rfl, ?_⟩
    split
    · exact initComplete_keeps s
    · exact .refl s
  | resetPinRelease =>
    refine ⟨_, rfl, ?_⟩
    split
    · exact ⟨rfl, id, id, id, id, id, id, id⟩
    · exact .refl s
  | measureComplete => exact ⟨_, rfl, s.atFrameEnd_running_keeps fun t _ => t.measureEvent_keeps⟩
  | beatEvent => exact ⟨_, rfl, s.atFrameEnd_running_keeps fun t _ => t.beatEvent_keeps⟩
  | rateWindowExpiry => exact ⟨_, rfl, s.inFrame_keeps fun t => State.ifDue_keeps fun _ => t.rateExpiry_keeps⟩
  | loadComplete => exact ⟨_, rfl, s.atFrameEnd_running_keeps fun _ => State.loadEvent_keeps⟩
  | cutComplete => exact ⟨_, rfl, s.atFrameEnd_running_keeps fun t _ => t.cutEvent_keeps⟩
  | crossfadeComplete => exact ⟨_, rfl, s.atFrameEnd_running_keeps fun _ => State.fadeEvent_keeps⟩
  | spillQuietEnd => exact ⟨_, rfl, s.atFrameEnd_running_keeps fun t _ => t.quietEvent_keeps⟩
  | spillLimitReached => exact ⟨_, rfl, s.atFrameEnd_running_keeps fun t _ => t.limitEvent_keeps⟩
  | tunerEstimate f c => exact ⟨_, rfl, s.atFrameEnd_running_keeps fun t _ => t.estimate_keeps f c⟩
  | pedalSilenceTimeout l => exact ⟨_, rfl, s.atFrameEnd_running_keeps fun t _ => t.silenceEvent_keeps l⟩
  | comboWindowExpiry l n => exact ⟨_, rfl, s.atFrameEnd_running_keeps fun _ => State.comboExpiry_keeps⟩
  | holdTimerExpiry l n => exact ⟨_, rfl, s.atFrameEnd_running_keeps fun _ => State.holdExpiry_keeps⟩
  | doubleWindowExpiry l n => exact ⟨_, rfl, s.atFrameEnd_running_keeps fun _ => State.doubleExpiry_keeps⟩
  | satAckTimeout => exact ⟨_, rfl, s.atFrameEnd_running_keeps fun t _ => t.satTimeout_keeps⟩
  | satBypassTimeout => exact ⟨_, rfl, s.atFrameEnd_running_keeps fun t _ => t.bypassEvent_keeps⟩
  | pedalIdent l a b c => exact ⟨_, rfl, s.inFrame_keeps fun t => t.takeIdent_keeps l a b c⟩
  | switchDown l n => exact ⟨_, rfl, s.inFrame_keeps fun t => t.takeSwitch_keeps l n true⟩
  | switchRelease l n => exact ⟨_, rfl, s.inFrame_keeps fun t => t.takeSwitch_keeps l n false⟩
  | pedalExpr l n v => exact ⟨_, rfl, s.inFrame_keeps fun t => t.takeExpr_keeps l n v⟩
  | pedalBadFrame l x => exact ⟨_, rfl, s.inFrame_keeps fun t => t.pedalBad_keeps l x⟩
  | pedalByteGapTimeout l => exact ⟨_, rfl, s.inFrame_keeps fun t => t.pedalBad_keeps l .framing⟩
  | displayTxStart l => exact ⟨_, rfl, s.inFrame_keeps fun t => t.displayStart_keeps l⟩
  | displayTxEnd l => exact ⟨_, rfl, s.inFrame_keeps fun t => t.displayEnd_keeps l⟩
  | satTxStart => exact ⟨_, rfl, s.inFrame_keeps fun t => State.sat_keeps t.sat.start_keeps.1 t.sat.start_keeps.2⟩
  | satTxEnd => exact ⟨_, rfl, s.inFrame_keeps fun t => State.withSat_keeps t.sat.sent_keeps⟩
  | satAck a => exact ⟨_, rfl, s.inFrame_keeps fun t => t.takeAck_keeps a⟩
  | satData a d => exact ⟨_, rfl, s.inFrame_keeps fun t => t.takeData_keeps a d⟩
  | satBadFrame => exact ⟨_, rfl, s.inFrame_keeps fun t => State.sat_keeps t.sat.framing_keeps rfl⟩
  | satByteGapTimeout => exact ⟨_, rfl, s.inFrame_keeps fun t => State.sat_keeps t.sat.framing_keeps rfl⟩
  | _ => exact ⟨_, rfl, s.arrival_keeps _ _⟩

/-- A step keeps the invariants: of the waiting commands it takes the front one. -/
theorem step_keeps {s t : State} (h : step s = .next t) : ∃ rest, State.Keeps { s with pending := rest } t := by
  unfold step at h
  split at h
  · obtain rfl := Host.Outcome.next.inj h
    exact ⟨_, .refl s⟩
  · next c rest _ =>
    obtain ⟨u, e, keeps⟩ := exec_keeps c { s with pending := rest }
    rw [e] at h
    obtain rfl := Host.Outcome.next.inj h
    exact ⟨rest, keeps⟩

/-! ## The statements -/

/-- Settles O4: the capacities and the built-in curves are kept by every command. -/
theorem everyCommandKeepsCapacitiesAndBuiltIns : Obligations.EveryCommandKeepsCapacitiesAndBuiltIns := by
  unfold Obligations.EveryCommandKeepsCapacitiesAndBuiltIns
  refine ⟨fun s t h k => ?_, fun s t h k => ?_⟩
  · obtain ⟨rest, keeps⟩ := step_keeps k
    exact keeps.bounded h
  · obtain ⟨rest, keeps⟩ := step_keeps k
    exact keeps.builtIns h

/-- Settles O5: the law of the roles and the coherence of the engine, kept together by every command. -/
theorem everyCommandKeepsBufferRoles : Obligations.EveryCommandKeepsBufferRoles := by
  unfold Obligations.EveryCommandKeepsBufferRoles
  intro s t coherent byQueue k
  obtain ⟨rest, keeps⟩ := step_keeps k
  exact keeps.roles ⟨coherent, byQueue⟩

/-- Settles O6: by the Tuner's part of what every command keeps. -/
theorem everyCommandKeepsTunerCoherent : Obligations.EveryCommandKeepsTunerCoherent := by
  unfold Obligations.EveryCommandKeepsTunerCoherent
  intro s t h k
  obtain ⟨rest, keeps⟩ := step_keeps k
  exact keeps.tuner h

/-- Settles O7: by the hold-off set's part of what every command keeps. -/
theorem everyCommandKeepsHoldOffsCurrent : Obligations.EveryCommandKeepsHoldOffsCurrent := by
  unfold Obligations.EveryCommandKeepsHoldOffsCurrent
  intro s t h k
  obtain ⟨rest, keeps⟩ := step_keeps k
  exact keeps.held h

/-- Settles O8: by the Satellite unit's part of what every command keeps. -/
theorem everyCommandKeepsSatelliteCoherent : Obligations.EveryCommandKeepsSatelliteCoherent := by
  unfold Obligations.EveryCommandKeepsSatelliteCoherent
  intro s t h k
  obtain ⟨rest, keeps⟩ := step_keeps k
  exact keeps.sat h

/-- Settles O9: by the pedal links' part of what every command keeps. -/
theorem everyCommandKeepsLinksCoherent : Obligations.EveryCommandKeepsLinksCoherent := by
  unfold Obligations.EveryCommandKeepsLinksCoherent
  intro s t h k
  obtain ⟨rest, keeps⟩ := step_keeps k
  exact keeps.links h

/-- Settles O2: every arm of `exec` gives a next state, and its effect keeps the waiting commands. -/
theorem everyCommandEndsInANextState : Obligations.EveryCommandEndsInANextState := by
  unfold Obligations.EveryCommandEndsInANextState
  intro i s
  obtain ⟨t, e, keeps⟩ := exec_keeps i s
  exact ⟨t, e, keeps.pending⟩

/-- Settles O1: the two equations of `step`. -/
theorem stepRunsTheFrontCommand : Obligations.StepRunsTheFrontCommand := by
  unfold Obligations.StepRunsTheFrontCommand
  intro c s
  refine ⟨rfl, fun idle => ?_⟩
  unfold step
  rw [idle]

/-- R72: after a power-on reset every location is EMPTY. -/
theorem State.reset_location (n : Nat) : (State.reset.location n).preset = none := by
  unfold State.location
  rw [List.getD_eq_getElem?_getD]
  cases e : State.reset.library[n]? with
  | none => rfl
  | some x => rw [List.eq_of_mem_replicate (List.mem_of_getElem? e)]; rfl

/-- Settles O3: the values as they stand in the reset state, with the invariants as the resets establish them. -/
theorem powerOnValues : Obligations.PowerOnValues := by
  unfold Obligations.PowerOnValues
  obtain ⟨coherent, byQueue⟩ := State.fresh_roles (s := State.reset) rfl rfl rfl rfl
  refine ⟨?_, ?_, rfl, rfl, ?_, rfl, State.reset_location, rfl, rfl, rfl, rfl, rfl, rfl, rfl, rfl, rfl, ?_, rfl, rfl, rfl, rfl,
    State.reset_bounded, State.reset_builtIns, coherent, byQueue, State.fresh_tuner rfl rfl rfl rfl rfl, State.reset_held,
    State.reset_sat, State.reset_links⟩
  · intro o; cases o <;> exact ⟨rfl, rfl⟩
  · intro o
    cases o with
    | main m => cases m <;> exact ⟨rfl, rfl, rfl⟩
    | send1 => exact ⟨rfl, rfl, rfl⟩
    | send2 => exact ⟨rfl, rfl, rfl⟩
  · intro b; cases b <;> rfl
  · intro l; cases l <;> exact ⟨rfl, rfl, rfl, rfl, rfl⟩

end Sys2Proof.Machine
end

section
/-! PROOFS. MUTE, UNMUTE and METERS (R21, R22, R24), and how a request's command on a ready part is read. -/
namespace Sys2Proof.Machine

/-- R200: a request's command on a part that is ready: its effect, and its reply. -/
theorem exec_of_ready {s : State} (ready : Ready s) {i : Instr} (tag : Byte) (r : Request)
    (h : exec i s = .next (s.arrival tag r)) :
    exec i s = .next ((perform tag r s).1.replied tag (requestKind r) (perform tag r s).2.code (perform tag r s).2.fields) :=
  h.trans (congrArg Host.Outcome.next (State.arrival_ready ready tag r))

/-! ## MUTE, UNMUTE and METERS -/

theorem outputsOf_eq_none_iff (n : Nat) : outputsOf n = none ↔ n = 0 ∨ 15 < n := by
  unfold outputsOf
  split <;> simp [*]

theorem outputsOf_get {n : Nat} {outs : PerMain Bool} (h : outputsOf n = some outs) (o : MainOut) :
    outs.get o = n.testBit o.code := by
  unfold outputsOf at h
  split at h
  · cases h
  · obtain rfl := Option.some.inj h
    cases o <;> rfl

/-- R21: a source other than PANIC (1) and HOST (3) is no source of a request. -/
theorem muteSourceOf_eq_none {n : Nat} (h : ¬ (n = 1 ∨ n = 3)) : muteSourceOf n = none := by
  unfold muteSourceOf
  split
  · exact absurd (.inl rfl) h
  · exact absurd (.inr rfl) h
  · rfl

/-- R19: what a mute request makes of one output. -/
theorem muteOutputs_get (mains : PerMain MuteStage) (m : MuteSource) (v : Bool) (outs : PerMain Bool) (o : MainOut) :
    (muteOutputs mains m v outs).get o =
      if outs.get o then { mains.get o with sources := (mains.get o).sources.put m v } else mains.get o := by
  rw [muteOutputs, PerMain.get_of]

theorem metersFields_eq (s : State) :
    metersFields s =
      [Out.main .fohL, .main .fohR, .main .stage, .main .mon, .send1, .send2].flatMap (fun o =>
        [Wire.u 4 (s.meters.get o).peak, .u 2 (s.meters.get o).clips]) ++
      [MainOut.fohL, .fohR, .stage, .mon].flatMap (fun o => [Wire.u 1 (s.mains.get o).sources.mask, .u 1 (s.mains.get o).stored]) ++
      wActiveClips s.active := rfl

theorem PerOut.get_map {α β : Type} (f : α → β) (p : PerOut α) (o : Out) : (p.map f).get o = f (p.get o) := by
  cases o with
  | main m => exact PerMain.get_map f p.mains m
  | send1 => rfl
  | send2 => rfl

/-- R24: the buffers after the clip counters of the ACTIVE context are cleared. -/
def State.clipsCleared (s : State) : PerBuffer Buffer :=
  match s.active with
  | none => s.buffers
  | some (b, c) => s.buffers.set b { s.buffers.get b with
      context := some { c with slots := c.slots.map (fun x => { x with clips := 0 }), mergeClips := 0 } }

theorem clearClips_eq (s : State) :
    clearClips (clearPeaks s) = { s with
      meters := s.meters.map (fun (m : Meter) => { m with peak := 0, clips := 0, clipMark := false }),
      buffers := s.clipsCleared } := by
  unfold clearClips State.clipsCleared
  dsimp only
  rw [show State.active { clearPeaks s with
    meters := (clearPeaks s).meters.map (fun (m : Meter) => { m with clips := 0, clipMark := false }) } = s.active from rfl]
  cases s.active <;> rfl

/-- R21: MUTE and UNMUTE of a source and a set of outputs that are in range. -/
theorem reqMute_of_some {source outputs : Nat} {m : MuteSource} {outs : PerMain Bool} (hm : muteSourceOf source = some m)
    (ho : outputsOf outputs = some outs) (s : State) :
    reqMute source outputs s = answer (s.setMute m true outs) .ok [] ∧
      reqUnmute source outputs s = answer (s.setMute m false outs) .ok [] := by
  simp only [reqMute, reqUnmute, hm, ho, and_self]

theorem reqMute_of_none {source outputs : Nat} (h : muteSourceOf source = none ∨ outputsOf outputs = none) (s : State) :
    reqMute source outputs s = refuse s .outOfRange ∧ reqUnmute source outputs s = refuse s .outOfRange := by
  unfold reqMute reqUnmute
  rcases h with h | h
  · simp [h]
  · rw [h]
    cases muteSourceOf source <;> exact ⟨rfl, rfl⟩

/-- R24: the clip counters a METERS reply carries, one after another. -/
theorem wActiveClips_some (b : BufferId) (c : Context) :
    wActiveClips (some (b, c)) =
      [.u 1 1, .u 1 b.code, .u 1 c.slots.length] ++ c.slots.map (fun x => Wire.u 2 x.clips) ++ [.u 2 c.mergeClips] := by
  simp [wActiveClips, wList, ← List.map_eq_flatMap]

/-- Settles O13: MUTE and UNMUTE by whether their operands are in range, METERS by its clear value. -/
theorem outputStageRequestsChangeSetsAndMeters : Obligations.OutputStageRequestsChangeSetsAndMeters := by
  unfold Obligations.OutputStageRequestsChangeSetsAndMeters
  intro s tag source outputs clear ready
  rw [exec_of_ready ready tag (.mute source outputs) rfl, exec_of_ready ready tag (.unmute source outputs) rfl,
    exec_of_ready ready tag (.meters clear) rfl]
  simp only [perform]
  refine ⟨?sets, ?meters⟩
  case sets =>
    by_cases ok : (source = 1 ∨ source = 3) ∧ 1 ≤ outputs ∧ outputs ≤ 15
    · rw [if_pos ok]
      obtain ⟨hs, low, high⟩ := ok
      obtain ⟨outs, ho⟩ := Option.ne_none_iff_exists'.mp
        (fun none => by rcases (outputsOf_eq_none_iff outputs).mp none with h | h <;> omega : outputsOf outputs ≠ none)
      have put (m : MuteSource) (v : Bool) (o : MainOut) := muteOutputs_get s.mains m v outs o
      simp only [outputsOf_get ho] at put
      rcases hs with rfl | rfl
      · obtain ⟨mute, unmute⟩ := reqMute_of_some (show muteSourceOf 1 = some .panic from rfl) ho s
        rw [mute, unmute]
        exact ⟨_, _, rfl, rfl, fun o => ⟨put .panic true o, put .panic false o⟩⟩
      · obtain ⟨mute, unmute⟩ := reqMute_of_some (show muteSourceOf 3 = some .host from rfl) ho s
        rw [mute, unmute]
        exact ⟨_, _, rfl, rfl, fun o => ⟨put .host true o, put .host false o⟩⟩
    · rw [if_neg ok]
      have none : muteSourceOf source = none ∨ outputsOf outputs = none := by
        by_cases hs : source = 1 ∨ source = 3
        · exact .inr ((outputsOf_eq_none_iff outputs).mpr (by simp only [hs, true_and] at ok; omega))
        · exact .inl (muteSourceOf_eq_none hs)
      obtain ⟨mute, unmute⟩ := reqMute_of_none none s
      rw [mute, unmute]
      exact ⟨rfl, rfl⟩
  case meters =>
    have reply : metersFields s =
        [Out.main .fohL, .main .fohR, .main .stage, .main .mon, .send1, .send2].flatMap (fun o =>
          [Wire.u 4 (s.meters.get o).peak, .u 2 (s.meters.get o).clips]) ++
        [MainOut.fohL, .fohR, .stage, .mon].flatMap (fun o =>
          [Wire.u 1 (s.mains.get o).sources.mask, .u 1 (s.mains.get o).stored]) ++ (match s.active with
        | none => [Wire.u 1 0]
        | some (b, c) =>
          [.u 1 1, .u 1 b.code, .u 1 c.slots.length] ++ c.slots.map (fun x => Wire.u 2 x.clips) ++ [.u 2 c.mergeClips]) := by
      rw [metersFields_eq]
      cases s.active with
      | none => rfl
      | some p => rw [wActiveClips_some]
    match clear with
    | 0 => exact ⟨_, _, congrArg (fun f => Host.Outcome.next ((clearPeaks s).replied tag 0x03 .ok f)) reply,
        fun o => s.meters.get_map _ o, rfl⟩
    | 1 =>
      refine ⟨s.meters.map (fun (m : Meter) => { m with peak := 0, clips := 0, clipMark := false }), s.clipsCleared, ?_,
        fun o => s.meters.get_map _ o, ?_⟩
      · change Host.Outcome.next ((clearClips (clearPeaks s)).replied tag 0x03 .ok (metersFields s)) = _
        rw [clearClips_eq, reply]
        rfl
      · unfold State.clipsCleared
        cases s.active <;> rfl
    | n + 2 => rfl

end Sys2Proof.Machine
end

section
/-! PROOFS. PARAM_SET (R25 to R27, R45, R49) and SLOT_SET (R50, R51). -/
namespace Sys2Proof.Machine

/-! ## Parameters: ranges and writes (R25 to R27) -/

theorem SlotKind.range_le (kind : SlotKind) (mode : Int) (k : Nat) : (kind.range mode k).1 ≤ (kind.range mode k).2 := by
  unfold SlotKind.range
  split <;> first | decide | (split <;> decide)

/-- R26: a clamp to the ends of the range; the cabinet also accepts 255. -/
theorem SlotKind.clamp_eq (kind : SlotKind) (mode : Int) (k : Nat) (v : Int) :
    kind.clamp mode k v =
      if kind = .amp ∧ k = 5 ∧ v = 255 then 255 else max (kind.range mode k).1 (min (kind.range mode k).2 v) := by
  rw [SlotKind.clamp, clampInt_eq v (kind.range_le mode k)]

/-- R26: the mode a slot holds: 0 or 1 for MOD and DELAY, 0 for the rest. -/
theorem Slot.modeOf_eq (x : Slot) : x.kind.modeOf (x.params.map Param.value) =
    match x.kind with
    | .modulation => max 0 (min 1 (x.value 1))
    | .delay => max 0 (min 1 (x.value 0))
    | _ => 0 := by
  unfold SlotKind.modeOf Slot.value
  generalize x.params.map Param.value = vs
  cases x.kind <;> first | rfl | exact SlotKind.clamp_eq _ _ _ _

theorem SlotKind.isCurve_iff (kind : SlotKind) (k : Nat) :
    kind.isCurve k = true ↔ (kind = .amp ∨ kind = .drive) ∧ k = 1 := by
  unfold SlotKind.isCurve
  split
  · simp
  · simp
  · next amp drive =>
    refine iff_of_false Bool.false_ne_true ?_
    rintro ⟨rfl | rfl, rfl⟩
    · exact amp rfl rfl
    · exact drive rfl rfl

theorem SlotKind.modePair_eq_some_iff (kind : SlotKind) (m d : Nat) :
    kind.modePair = some (m, d) ↔ (kind = .modulation ∧ m = 1 ∧ d = 2) ∨ (kind = .delay ∧ m = 0 ∧ d = 1) := by
  cases kind <;> simp [SlotKind.modePair, eq_comm]

/-- R25: the parameter whose range a mode chooses is not level-coded. -/
theorem SlotKind.modePair_plain {kind : SlotKind} {m d : Nat} (h : kind.modePair = some (m, d)) :
    kind.isLevel d = false ∧ m ≠ d := by
  rcases (kind.modePair_eq_some_iff m d).mp h with ⟨rfl, rfl, rfl⟩ | ⟨rfl, rfl, rfl⟩ <;> decide

/-- A parameter that a slot does not have. -/
def Param.absent : Param := { value := 0, ramp := Ramp.silent }

theorem Slot.value_eq (x : Slot) (k : Nat) : x.value k = (x.params.getD k Param.absent).value := by
  unfold Slot.value
  rw [List.getD_eq_getElem?_getD, List.getD_eq_getElem?_getD, List.getElem?_map]
  cases x.params[k]? <;> rfl

theorem getD_set {α : Type} (xs : List α) {n : Nat} (h : n < xs.length) (a d : α) (k : Nat) :
    (xs.set n a).getD k d = if k = n then a else xs.getD k d := by
  rw [List.getD_eq_getElem?_getD, List.getD_eq_getElem?_getD, List.getElem?_set]
  by_cases e : n = k
  · subst e; simp [h]
  · simp [e, Ne.symm e]

/-- R27: a value put into a parameter of a slot in a running role. -/
theorem Slot.put_params (x : Slot) (running : Bool) {n : Nat} (h : n < x.params.length) (v : Int) (k : Nat) :
    (x.put running n v).params.getD k Param.absent =
      if k = n then
        { value := v, ramp := if x.kind.isLevel n then (x.params.getD n Param.absent).ramp.change running v.toNat
                              else (x.params.getD n Param.absent).ramp }
      else x.params.getD k Param.absent := getD_set _ h _ _ _

theorem Slot.fitMode_of_pair {y : Slot} {n d : Nat} (h : y.kind.modePair = some (n, d)) :
    y.fitMode n = y.put false d (y.kind.clamp (y.value n) d (y.value d)) := by
  simp only [Slot.fitMode, h, if_true]

theorem Slot.fitMode_of_none {y : Slot} {n : Nat} (h : ∀ d, y.kind.modePair ≠ some (n, d)) : y.fitMode n = y := by
  unfold Slot.fitMode
  split
  · next m d e =>
    rw [if_neg]
    rintro rfl
    exact h d e
  · rfl

theorem SlotKind.modePair_lt {kind : SlotKind} {m d : Nat} (h : kind.modePair = some (m, d)) : d < kind.paramCount := by
  rcases (kind.modePair_eq_some_iff m d).mp h with ⟨rfl, rfl, rfl⟩ | ⟨rfl, rfl, rfl⟩ <;> decide

/-- R26, R27: the parameters after a write of a value into a parameter that is no curve, on a slot in a running role. -/
theorem Slot.written_params {x : Slot} {n : Nat} (h : n < x.params.length) (full : x.params.length = x.kind.paramCount) (v : Int) :
    ∃ ps : List Param, (x.put true n v).fitMode n = { x with params := ps } ∧ ps.length = x.params.length ∧
      ∀ k, ps.getD k Param.absent =
        if k = n then
          { value := v, ramp := if x.kind.isLevel k then (x.params.getD k Param.absent).ramp.retarget v.toNat
                                else (x.params.getD k Param.absent).ramp }
        else if x.kind.modePair = some (n, k) then
          { value := x.kind.clamp v k (x.params.getD k Param.absent).value, ramp := (x.params.getD k Param.absent).ramp }
        else x.params.getD k Param.absent := by
  have put := x.put_params true h v
  have length : (x.put true n v).params.length = x.params.length := List.length_set ..
  by_cases pair : ∃ d, x.kind.modePair = some (n, d)
  · obtain ⟨d, pair⟩ := pair
    obtain ⟨plain, ne⟩ := SlotKind.modePair_plain pair
    have hd : d < (x.put true n v).params.length := by rw [length, full]; exact SlotKind.modePair_lt pair
    rw [Slot.fitMode_of_pair (y := x.put true n v) pair]
    refine ⟨_, rfl, (List.length_set ..).trans length, fun k => ?_⟩
    refine ((x.put true n v).put_params false hd _ k).trans ?_
    rw [Slot.value_eq, Slot.value_eq, put, put, put, pair, if_pos rfl, if_neg ne.symm]
    by_cases hk : k = d
    · subst hk
      simp [ne.symm, Slot.put, plain]
    · by_cases hn : k = n
      · subst hn; simp [ne, Ramp.change]
      · simp [hk, hn, Ne.symm hk]
  · have none : ∀ d, x.kind.modePair ≠ some (n, d) := fun d e => pair ⟨d, e⟩
    rw [Slot.fitMode_of_none (y := x.put true n v) none]
    refine ⟨_, rfl, length, fun k => (put k).trans ?_⟩
    rw [if_neg (none k)]
    by_cases hn : k = n
    · subst hn; simp [Ramp.change]
    · simp [hn]

/-! ## PARAM_SET -/

theorem Slot.write_plain {x : Slot} {n : Nat} (h : x.kind.isCurve n = false) (held : Nat → Bool) (v : Int) :
    x.write true held n v =
      { slot := (x.put true n (x.clamped n v)).fitMode n, clamped := decide (x.clamped n v ≠ v), notMade := false,
        moved := none } := by
  simp [Slot.write, h]

/-- R49: PARAM_SET of a parameter that is no curve. -/
theorem reqParamSet_plain {s : State} {b : BufferId} {c : Context} {x : Slot} {position index : Nat} {value : Int}
    (active : s.active = some (b, c)) (slot : c.slots[position]? = some x) (inRange : ¬ x.kind.paramCount ≤ index)
    (free : ¬ (x.kind = .loop ∧ index = 0)) (plain : x.kind.isCurve index = false) :
    reqParamSet position index value s =
      let v := x.clamped index value
      if v = x.value index then answer s (okOr (decide (v ≠ value))) [.s 2 (x.value index)]
      else answer (s.setContext b (c.setSlot position ((x.put true index v).fitMode index))) (okOr (decide (v ≠ value)))
        [.s 2 (((x.put true index v).fitMode index).value index)] := by
  have notLoop : ¬ x.isLoopParam index = true := by simpa [Slot.isLoopParam] using free
  simp only [reqParamSet, active, slot, if_neg inRange, if_neg notLoop, State.writeActive, x.write_plain plain]
  by_cases same : x.clamped index value = x.value index
  · simp [same, answer]
  · simp only [if_neg same, answer]
    rfl

theorem okOr_decide (v w : Int) : okOr (decide (v ≠ w)) = if v = w then .ok else .clamped := by
  unfold okOr
  by_cases h : v = w <;> simp [h]

/-- R49: PARAM_SET with no ACTIVE buffer, or of what is not there. -/
theorem reqParamSet_refused {s : State} {position index : Nat} {value : Int} :
    (s.active = none → reqParamSet position index value s = refuse s .badState) ∧
    ∀ b c, s.active = some (b, c) →
      (c.slots[position]? = none → reqParamSet position index value s = refuse s .outOfRange) ∧
      ∀ x : Slot, c.slots[position]? = some x →
        (x.kind.paramCount ≤ index → reqParamSet position index value s = refuse s .outOfRange) ∧
        (¬ x.kind.paramCount ≤ index → x.kind = .loop ∧ index = 0 → reqParamSet position index value s = refuse s .badState) := by
  refine ⟨fun h => by simp only [reqParamSet, h], fun b c h => ⟨fun k => by simp only [reqParamSet, h, k], fun x k =>
    ⟨fun out => by simp only [reqParamSet, h, k, if_pos out], fun inRange loop => ?_⟩⟩⟩
  have isLoop : x.isLoopParam index = true := by simpa [Slot.isLoopParam] using loop
  simp only [reqParamSet, h, k, if_neg inRange, if_pos isLoop]

/-- Settles O19: the table of the statement gives the ranges, and the write is that of a parameter that is no curve. -/
theorem paramSetChangesOneParameterOfTheActiveContext : Obligations.ParamSetChangesOneParameterOfTheActiveContext := by
  unfold Obligations.ParamSetChangesOneParameterOfTheActiveContext
  intro s tag position index value ready table fit mode
  have length (kind : SlotKind) (m : Int) : (table kind m).length = kind.paramCount := by cases kind <;> rfl
  have row (kind : SlotKind) (m : Int) (k : Nat) (h : k < kind.paramCount) :
      (table kind m).getD k (0, 0, false) = ((kind.range m k).1, (kind.range m k).2, kind.isLevel k) := by
    cases kind <;> simp only [SlotKind.paramCount] at h <;> interval_cases k <;> simp only [table] <;>
      first | rfl | (by_cases e : m = 0 <;> simp [e, SlotKind.range, SlotKind.isLevel])
  have fits (kind : SlotKind) (m : Int) (k : Nat) (v : Int) (h : k < kind.paramCount) : fit kind m k v = kind.clamp m k v := by
    simp only [fit, row kind m k h, SlotKind.clamp_eq]
  have modes (x : Slot) : mode x = x.kind.modeOf (x.params.map Param.value) := x.modeOf_eq.symm
  have clamped (x : Slot) (k : Nat) (v : Int) (h : k < x.kind.paramCount) : x.clamped k v = fit x.kind (mode x) k v := by
    rw [fits _ _ _ _ h, modes, Slot.clamped]
  clear_value table fit mode
  refine ⟨fun x k v h => clamped x k v (by rwa [length] at h), ?_⟩
  rw [exec_of_ready ready tag (.paramSet position index value) rfl]
  obtain ⟨noActive, refused⟩ := reqParamSet_refused (s := s) (position := position) (index := index) (value := value)
  cases active : s.active with
  | none => simp only [perform, noActive active]; rfl
  | some p =>
    obtain ⟨b, c⟩ := p
    obtain ⟨noSlot, refused⟩ := refused b c active
    dsimp only
    cases slot : c.slots[position]? with
    | none => simp only [perform, noSlot slot]; rfl
    | some x =>
      obtain ⟨outOfRange, loop⟩ := refused x slot
      dsimp only
      rw [length]
      by_cases inRange : x.kind.paramCount ≤ index
      · simp only [if_pos inRange, perform, outOfRange inRange]; rfl
      · rw [if_neg inRange]
        by_cases isLoop : x.kind = .loop ∧ index = 0
        · simp only [if_pos isLoop, perform, loop inRange isLoop]; rfl
        · rw [if_neg isLoop]
          intro notCurve full
          have hn : index < x.kind.paramCount := Nat.lt_of_not_le inRange
          have plain : x.kind.isCurve index = false := by
            rw [← Bool.not_eq_true, SlotKind.isCurve_iff]
            exact notCurve
          have here : index < x.params.length := by omega
          obtain ⟨ps, written, size, params⟩ := Slot.written_params here full (x.clamped index value)
          simp only [perform, reqParamSet_plain active slot inRange isLoop plain, ← clamped x index value hn, okOr_decide]
          by_cases same : x.clamped index value = x.value index
          · rw [if_pos same, if_pos same, ← same]; rfl
          · rw [if_neg same, if_neg same, written]
            refine ⟨ps, ?_, size, fun k hk => ?_⟩
            · have value : ({ x with params := ps } : Slot).value index = x.clamped index value := by
                rw [Slot.value_eq, params, if_pos rfl]
              rw [value]
              rfl
            · have inRow : k < x.kind.paramCount := by omega
              have pair := x.kind.modePair_eq_some_iff index k
              change ps.getD k Param.absent = if k = index then _ else if _ then _ else x.params.getD k Param.absent
              rw [params, row _ _ _ inRow, fits _ _ _ _ inRow]
              simp only [pair]
              rfl

/-! ## The curve parameter -/

theorem State.curveEntry_points (s : State) (n : Nat) :
    curveHeld s.curves n = false ↔ (s.curves.getD n { name := [], points := [], refs := 0 }).points = [] := by
  unfold curveHeld
  rw [List.getD_eq_getElem?_getD]
  cases s.curves[n]? <;> simp

/-- R45: one reference moves from one curve to another, curve by curve. -/
theorem moveRef_getD (cs : List CurveEntry) (old new k : Nat) (h : k < cs.length) (d : CurveEntry) :
    (moveRef cs old new).getD k d =
      { cs.getD k d with refs := (cs.getD k d).refs + (if k = new then 1 else 0) - (if k = old then 1 else 0) } := by
  simp [moveRef, h]

theorem moveRef_length (cs : List CurveEntry) (old new : Nat) : (moveRef cs old new).length = cs.length := by
  simp [moveRef]

/-- R25: the clamp of a curve index. -/
theorem SlotKind.clamp_curve {kind : SlotKind} (h : kind = .amp ∨ kind = .drive) (mode v : Int) :
    kind.clamp mode 1 v = if v < 0 then 0 else if 31 < v then 31 else v := by
  rcases h with rfl | rfl <;> rfl

/-- R45, R49: PARAM_SET of a curve. -/
theorem reqParamSet_curve {s : State} {b : BufferId} {c : Context} {x : Slot} {position index : Nat} {value : Int}
    (active : s.active = some (b, c)) (slot : c.slots[position]? = some x) (inRange : ¬ x.kind.paramCount ≤ index)
    (notLoop : ¬ x.isLoopParam index = true) (curve : x.kind.isCurve index = true) :
    reqParamSet position index value s =
      let v := x.clamped index value
      if v = x.value index then answer s (okOr (decide (v ≠ value))) [.s 2 (x.value index)]
      else if curveHeld s.curves v.toNat then
        answer { s.setContext b (c.setSlot position (x.put true index v)) with
            curves := moveRef s.curves (x.value index).toNat v.toNat }
          (okOr (decide (v ≠ value))) [.s 2 ((x.put true index v).value index)]
      else refuse s .missingCurve := by
  simp only [reqParamSet, active, slot, if_neg inRange, if_neg notLoop, State.writeActive, Slot.write, curve, if_true]
  by_cases same : x.clamped index value = x.value index
  · simp [same, answer]
  · by_cases held : curveHeld s.curves (x.clamped index value).toNat = true
    · simp [same, held, answer, applyMove]
    · simp [same, held, refuse]

/-- Settles O20: the write of a curve parameter, by whether the curve is held already and holds a list. -/
theorem curveParameterMovesOneReference : Obligations.CurveParameterMovesOneReference := by
  unfold Obligations.CurveParameterMovesOneReference
  intro s tag position value b c x ready active slot kind full n code
  have clamped : x.clamped 1 value = n := SlotKind.clamp_curve kind _ _
  have isCurve : x.kind.isCurve 1 = true := (x.kind.isCurve_iff 1).mpr ⟨kind, rfl⟩
  have plain : x.kind.isLevel 1 = false := by rcases kind with e | e <;> rw [e] <;> rfl
  have inRange : ¬ x.kind.paramCount ≤ 1 := by rcases kind with e | e <;> rw [e] <;> decide
  have here : 1 < x.params.length := by omega
  have notLoop : ¬ x.isLoopParam 1 = true := by simp [Slot.isLoopParam]
  have coded : okOr (decide (n ≠ value)) = code := okOr_decide n value
  clear_value n code
  rw [exec_of_ready ready tag (.paramSet position 1 value) rfl]
  simp only [perform, reqParamSet_curve active slot inRange notLoop isCurve, clamped, coded]
  by_cases same : n = x.value 1
  · rw [if_pos same, if_pos same, ← same]; rfl
  · rw [if_neg same, if_neg same]
    by_cases empty : (s.curves.getD n.toNat { name := [], points := [], refs := 0 }).points = []
    · rw [if_pos empty, if_neg (by rw [(s.curveEntry_points n.toNat).mpr empty]; exact Bool.false_ne_true)]; rfl
    · have held : curveHeld s.curves n.toNat = true := by
        rw [← Bool.not_eq_false, s.curveEntry_points]; exact empty
      rw [if_neg empty, if_pos held]
      refine ⟨moveRef s.curves (x.value 1).toNat n.toNat, ?_, moveRef_length _ _ _, fun k hk => ?_⟩
      · have written : (x.put true 1 n).value 1 = n := by
          rw [Slot.value_eq, Slot.put_params _ _ here, if_pos rfl]
        rw [written]
        simp only [Slot.put, plain, if_neg Bool.false_ne_true]
        rfl
      · rw [moveRef_length] at hk
        exact moveRef_getD _ _ _ _ hk _

/-! ## SLOT_SET -/

theorem boolOf_of_le {n : Nat} (h : ¬ 1 < n) : boolOf n = some (n == 1) := by rw [boolOf_eq, if_neg h]

theorem boolOf_of_lt {n : Nat} (h : 1 < n) : boolOf n = none := by rw [boolOf_eq, if_pos h]

/-- Settles O21: SLOT_SET by its checks, and the bypass ramp of a value that changes. -/
theorem slotSetStartsTheBypassRamp : Obligations.SlotSetStartsTheBypassRamp := by
  unfold Obligations.SlotSetStartsTheBypassRamp
  intro s tag position enabled ready
  rw [exec_of_ready ready tag (.slotSet position enabled) rfl]
  simp only [perform, reqSlotSet]
  cases active : s.active with
  | none => rfl
  | some p =>
    obtain ⟨b, c⟩ := p
    dsimp only
    cases slot : c.slots[position]? with
    | none => rfl
    | some x =>
      dsimp only
      by_cases outside : 1 < enabled
      · rw [if_pos outside, boolOf_of_lt outside]; rfl
      · rw [if_neg outside, boolOf_of_le outside]
        by_cases same : x.enabled = (enabled == 1)
        · simp only [if_pos same, answer, State.setSlotEnabled]; rfl
        · simp only [if_neg same, answer, State.setSlotEnabled, Slot.setEnabled, slotStateOf, Ramp.change, if_true, wetRest]
          have on : (enabled == 1) = true ↔ enabled = 1 := beq_iff_eq
          by_cases one : enabled = 1 <;> simp [one, requestKind, Context.setSlot]

end Sys2Proof.Machine
end

section
/-! PROOFS. The evaluation of a curve (R43) and INPUT_SELECT (R57, R59, R146). -/
namespace Sys2Proof.Machine

/-! ## Curves (R43) -/

/-- A part of a change, rounded down, lies between none of it and all of it. -/
theorem floor_part_between {y a d : Int} (hd : 0 < d) (ha : 0 ≤ a) (had : a ≤ d) :
    min 0 y ≤ y * a / d ∧ y * a / d ≤ max 0 y := by
  constructor
  · rw [Int.le_ediv_iff_mul_le hd]
    rcases le_total 0 y with h | h
    · rw [min_eq_left h, zero_mul]; exact mul_nonneg h ha
    · rw [min_eq_right h]; exact mul_le_mul_of_nonpos_left had h
  · refine Int.ediv_le_of_le_mul hd ?_
    rcases le_total 0 y with h | h
    · rw [max_eq_right h]; exact mul_le_mul_of_nonneg_left had h
    · rw [max_eq_left h, zero_mul]; exact mul_nonpos_of_nonpos_of_nonneg h ha

/-- R43: the line between two breakpoints stays between their values. -/
theorem line_between {p q : Int × Int} {u : Int} (rise : p.1 < q.1) (low : p.1 ≤ u) (high : u ≤ q.1) :
    min p.2 q.2 ≤ p.2 + (q.2 - p.2) * (u - p.1) / (q.1 - p.1) ∧
      p.2 + (q.2 - p.2) * (u - p.1) / (q.1 - p.1) ≤ max p.2 q.2 := by
  have := floor_part_between (y := q.2 - p.2) (a := u - p.1) (d := q.1 - p.1) (by omega) (by omega) (by omega)
  omega

theorem risingX_lt {p : Int × Int} {rest : List (Int × Int)} (h : risingX (p :: rest) = true) : ∀ q ∈ rest, p.1 < q.1 := by
  rw [risingX_iff_pairwise, List.map_cons, List.pairwise_cons] at h
  exact fun q hq => h.1 q.1 (List.mem_map_of_mem hq)

theorem risingX_tail {p : Int × Int} {rest : List (Int × Int)} (h : risingX (p :: rest) = true) : risingX rest = true := by
  rw [risingX_iff_pairwise, List.map_cons, List.pairwise_cons] at h
  exact (risingX_iff_pairwise rest).mpr h.2

/-- R43: up to the first breakpoint the value is that breakpoint's. -/
theorem evalCurve_of_le {p : Int × Int} {rest : List (Int × Int)} {u : Int} (h : u ≤ p.1) : evalCurve (p :: rest) u = p.2 := by
  cases rest with
  | nil => rfl
  | cons q rest => rw [evalCurve, if_pos h]

/-- R43: from the second breakpoint on the first does not matter. -/
theorem evalCurve_of_ge {p q : Int × Int} {rest : List (Int × Int)} {u : Int} (rise : p.1 < q.1) (h : q.1 ≤ u) :
    evalCurve (p :: q :: rest) u = evalCurve (q :: rest) u := by
  rw [evalCurve, if_neg (by omega), if_neg (by omega)]

/-- R43: at a breakpoint the value is that breakpoint's. -/
theorem evalCurve_at {points : List (Int × Int)} (rising : risingX points = true) :
    ∀ p ∈ points, evalCurve points p.1 = p.2 := by
  induction points with
  | nil => simp
  | cons a rest ih =>
    intro p hp
    rcases List.mem_cons.mp hp with rfl | hp
    · exact evalCurve_of_le le_rfl
    · cases rest with
      | nil => cases hp
      | cons b rest =>
        have rise := risingX_lt rising
        have tail := risingX_tail rising
        have from' : b.1 ≤ p.1 := by
          rcases List.mem_cons.mp hp with rfl | later
          · exact le_rfl
          · exact (risingX_lt tail p later).le
        rw [evalCurve_of_ge (rise b List.mem_cons_self) from', ih tail p hp]

/-- R43: between adjacent breakpoints the value is that of the line, rounded down. -/
theorem evalCurve_line {points : List (Int × Int)} (rising : risingX points = true) {k : Nat} {p q : Int × Int} {u : Int}
    (hp : points[k]? = some p) (hq : points[k + 1]? = some q) (low : p.1 ≤ u) (high : u ≤ q.1) :
    p.1 < q.1 ∧ evalCurve points u = p.2 + (q.2 - p.2) * (u - p.1) / (q.1 - p.1) := by
  induction points generalizing k with
  | nil => cases hp
  | cons a rest ih =>
    cases rest with
    | nil => cases hq
    | cons b rest =>
      have rise := risingX_lt rising b List.mem_cons_self
      have tail := risingX_tail rising
      cases k with
      | zero =>
        obtain rfl := Option.some.inj hp
        obtain rfl := Option.some.inj hq
        refine ⟨rise, ?_⟩
        rcases low.eq_or_lt with rfl | low
        · rw [evalCurve_of_le le_rfl, sub_self, mul_zero, Int.zero_ediv, add_zero]
        · rcases high.eq_or_lt with rfl | high
          · rw [evalCurve_of_ge rise le_rfl, evalCurve_of_le le_rfl, Int.mul_ediv_cancel _ (by omega)]
            omega
          · rw [evalCurve, if_neg (by omega), if_pos high]
      | succ k =>
        have hp : (b :: rest)[k]? = some p := hp
        obtain ⟨rise', line⟩ := ih tail hp hq
        have from' : b.1 ≤ p.1 := by
          rcases List.mem_cons.mp (List.mem_of_getElem? hp) with rfl | later
          · exact le_rfl
          · exact (risingX_lt tail p later).le
        exact ⟨rise', by rw [evalCurve_of_ge rise (by omega), line]⟩

/-- R43: the value lies in any range that holds every y. -/
theorem evalCurve_range {points : List (Int × Int)} {lo hi : Int} (u : Int) (rising : risingX points = true) (some' : points ≠ [])
    (range : ∀ p ∈ points, lo ≤ p.2 ∧ p.2 ≤ hi) : lo ≤ evalCurve points u ∧ evalCurve points u ≤ hi := by
  induction points with
  | nil => exact absurd rfl some'
  | cons a rest ih =>
    have first := range a List.mem_cons_self
    cases rest with
    | nil => exact first
    | cons b rest =>
      have rise := risingX_lt rising b List.mem_cons_self
      have second := range b (List.mem_cons_of_mem _ List.mem_cons_self)
      by_cases low : u ≤ a.1
      · rw [evalCurve_of_le low]; exact first
      · by_cases high : u < b.1
        · have line := (evalCurve_line rising (k := 0) rfl rfl (by omega : a.1 ≤ u) high.le).2
          have between := line_between rise (by omega : a.1 ≤ u) high.le
          rw [line]
          omega
        · rw [evalCurve_of_ge rise (by omega)]
          exact ih (risingX_tail rising) (by simp) (fun p hp => range p (List.mem_cons_of_mem _ hp))

/-- Settles O17: the range, the breakpoints and the line, each by the recursion of the evaluation. -/
theorem curveValuesStayInTheRangeOfTheirPoints : Obligations.CurveValuesStayInTheRangeOfTheirPoints := by
  unfold Obligations.CurveValuesStayInTheRangeOfTheirPoints
  intro points lo hi u rising some' range
  refine ⟨evalCurve_range u rising some' range, evalCurve_at rising, fun k p q hp hq low high => ?_⟩
  obtain ⟨rise, line⟩ := evalCurve_line rising hp hq low high
  have between := line_between rise low high
  rw [line]
  exact ⟨between.1, between.2, rfl⟩

/-! ## INPUT_SELECT -/

theorem inputOf_eq (n : Nat) : inputOf n = if 1 < n then none else some (if n = 0 then .a else .b) := by
  match n with
  | 0 | 1 | n + 2 => simp [inputOf]

theorem withdrawReadings_eq (q : NoticeQueue) :
    q.withdrawReadings = { q with queue := q.queue.filter (fun n => !n.isReading) } := by
  unfold NoticeQueue.withdrawReadings
  refine congrArg (fun ns => { q with queue := ns }) (List.filter_congr fun n _ => ?_)
  obtain ⟨body, frame, tag⟩ := n
  cases body <;> rfl

/-- R59: a buffer outside the running roles after a change of the selection. -/
theorem Buffer.follow_eq (i : Input) (x : Buffer) :
    x.follow i = (match x.role.running, x.context with
      | false, some c => if c.header.inputMode = .follow then { x with context := some { c with fed := i } } else x
      | _, _ => x) := by
  obtain ⟨role, tOut, tIn, loadLeft, spillFrames, quietCount, rowPeak, cutFrames, context⟩ := x
  unfold Buffer.follow
  cases role.running with
  | true => simp only [if_true]
  | false =>
    cases context with
    | none => simp only [if_neg Bool.false_ne_true, Option.map_none]
    | some c =>
      simp only [if_neg Bool.false_ne_true, Option.map_some, Context.followAtOnce]
      cases mode : c.header.inputMode <;> simp

/-- Settles O23: the selection with the contexts that follow it, and the restart of an engaged tuner. -/
theorem inputSelectChangesTheSelection : Obligations.InputSelectChangesTheSelection := by
  unfold Obligations.InputSelectChangesTheSelection
  intro s tag input ready
  rw [exec_of_ready ready tag (.inputSelect input) rfl]
  simp only [perform, reqInputSelect, inputOf_eq]
  by_cases outside : 1 < input
  · rw [if_pos outside, if_pos outside]; rfl
  · rw [if_neg outside, if_neg outside]
    generalize (if input = 0 then Input.a else Input.b) = i
    dsimp only [answer]
    unfold State.selectInput
    by_cases same : s.selected = i
    · rw [if_pos same, if_pos same]; rfl
    · rw [if_neg same, if_neg same]
      refine ⟨s.buffers.map (Buffer.follow i), fun b => (s.buffers.get_map _ b).trans (Buffer.follow_eq i _), ?_⟩
      unfold State.tunerInput
      cases state : s.tuner.state with
      | off => rfl
      | listening => simp only [withdrawReadings_eq]; rfl
      | tracking => simp only [withdrawReadings_eq]; rfl

end Sys2Proof.Machine
end

section
/-! PROOFS. Hold-offs that are current; LOOP_MEASURE, LOOP_READ, LOOP_SET and MEASURE_COMPLETE (R62 to R71). -/
namespace Sys2Proof.Machine

/-! ## Hold-offs that are current -/

/-- R101: where the hold-off set is current, the conditions of the blocks give the set as it is. -/
theorem State.holdOffsNow_eq {s : State} (current : s.holdOffsCurrent) : s.holdOffsNow = s.engine.holdOffs := by
  obtain ⟨tuner, satellite, measure⟩ := current
  have t : (s.tuner.state != .off && s.engine.settings.tunerHold) = s.engine.holdOffs.tuner := by
    rw [Bool.eq_iff_iff, tuner]; simp
  have a : (s.sat.condition && s.engine.settings.satHold) = s.engine.holdOffs.satellite := by
    rw [Bool.eq_iff_iff, satellite]; simp [Satellite.condition]
  have m : s.loops.measuring.isSome = s.engine.holdOffs.measure := by rw [Bool.eq_iff_iff, measure]
  unfold State.holdOffsNow
  rw [t, a, m]

/-- A set loses no member of its own. -/
theorem HoldOffs.lost_self (h : HoldOffs) : h.lost h = false := by simp [HoldOffs.lost]

/-- R101: where the hold-off set is current, looking at the conditions changes nothing. -/
theorem State.syncHoldOffs_eq {s : State} (current : s.holdOffsCurrent) : s.syncHoldOffs = s := by
  unfold State.syncHoldOffs
  rw [State.holdOffsNow_eq current]
  rfl

theorem State.syncTest_eq {s : State} (current : s.holdOffsCurrent) : s.syncTest = s := by
  unfold State.syncTest
  rw [State.holdOffsNow_eq current, HoldOffs.lost_self, if_neg Bool.false_ne_true, State.syncHoldOffs_eq current]

/-! ## LOOP_MEASURE, LOOP_READ and LOOP_SET -/

theorem loopOf_eq (n : Nat) : loopOf n = if n ≠ 1 ∧ n ≠ 2 then none else some (if n = 1 then .one else .two) := by
  match n with
  | 0 | 1 | 2 | n + 3 => simp [loopOf]

/-- R65, R101: a measurement that starts puts MEASURE into a current hold-off set. -/
theorem State.measuring_sync {s : State} (current : s.holdOffsCurrent) (m : Measurement) :
    ({ s with loops := { s.loops with measuring := some m } } : State).syncHoldOffs =
      { s with loops := { s.loops with measuring := some m },
               engine := { s.engine with holdOffs := { s.engine.holdOffs with measure := true } } } := by
  have same := congrArg (fun h : HoldOffs => { h with measure := true }) (State.holdOffsNow_eq current)
  unfold State.syncHoldOffs
  rw [show ({ s with loops := { s.loops with measuring := some m } } : State).holdOffsNow =
    { s.engine.holdOffs with measure := true } from same]
  rfl

theorem reqLoopRead_eq (loop : Nat) (s : State) :
    reqLoopRead loop s = if loop ≠ 1 ∧ loop ≠ 2 then refuse s .outOfRange else
      answer s .ok (wLoop (s.loops.get (if loop = 1 then .one else .two)) ++
        wProgress s.loops (if loop = 1 then .one else .two)) := by
  unfold reqLoopRead
  rw [loopOf_eq]
  split_ifs <;> rfl

theorem reqLoopMeasure_eq (tag : Byte) (loop : Nat) {s : State} (current : s.holdOffsCurrent) :
    reqLoopMeasure tag loop s = if loop ≠ 1 ∧ loop ≠ 2 then refuse s .outOfRange
      else if s.loops.measuring.isSome then refuse s .busy
      else answer { s with
          loops := { s.loops with
            measuring := some
              { loop := if loop = 1 then .one else .two, tag := tag, taken := 0, found := none, block := none } },
          engine := { s.engine with holdOffs := { s.engine.holdOffs with measure := true } } } .accepted [] := by
  unfold reqLoopMeasure
  rw [loopOf_eq]
  by_cases unknown : loop ≠ 1 ∧ loop ≠ 2
  · rw [if_pos unknown, if_pos unknown]
  · rw [if_neg unknown, if_neg unknown]
    dsimp only
    rw [State.measuring_sync current]

theorem okOr_bne {α : Type} [BEq α] [LawfulBEq α] [DecidableEq α] (v w : α) : okOr (v != w) = if v = w then .ok else .clamped := by
  unfold okOr
  by_cases h : v = w <;> simp [h]

/-- R62: a buffer whose context uses the loop takes its lane values anew, the others stand. -/
theorem Buffer.recompute_eq (u : LoopUnit) (l : LoopId) (x : Buffer) :
    match x.context with
    | none => x.recompute u l = x
    | some c =>
      if c.usesLoop l then
        x.recompute u l = { x with context := some (if x.role.running then
            { c with pendingLanes := if c.lanesUnder u = c.lanes then none else some (c.lanesUnder u) }
          else c.applyLanes (c.lanesUnder u)) }
      else x.recompute u l = x := by
  obtain ⟨role, tOut, tIn, loadLeft, spillFrames, quietCount, rowPeak, cutFrames, context⟩ := x
  cases context with
  | none => rfl
  | some c =>
    dsimp only
    unfold Buffer.recompute
    by_cases uses : c.usesLoop l = true
    · rw [if_pos uses, Option.map_some, if_pos uses]; rfl
    · rw [if_neg uses, Option.map_some, if_neg uses]

/-- R64, R62: what a record put in place does to the buffers. -/
theorem State.setLoop_buffers (s : State) (l : LoopId) (r : LoopRecord) :
    ((s.loops.get l).latency = r.latency → (s.setLoop l r).buffers = s.buffers) ∧
    ((s.loops.get l).latency ≠ r.latency → ∀ b,
      (s.setLoop l r).buffers.get b = (s.buffers.get b).recompute (s.loops.set l r) l) := by
  unfold State.setLoop
  refine ⟨fun same => ?_, fun other b => ?_⟩
  · rw [if_pos same]
  · rw [if_neg other]; exact s.buffers.get_map _ b

theorem State.setLoop_only (s : State) (l : LoopId) (r : LoopRecord) :
    s.setLoop l r = { s with loops := s.loops.set l r, buffers := (s.setLoop l r).buffers } := by
  unfold State.setLoop
  split_ifs <;> rfl

/-- Settles O24: the three requests on an unknown loop, on one that is measured, and else. -/
theorem loopRequestsMeasureReadAndSet : Obligations.LoopRequestsMeasureReadAndSet := by
  unfold Obligations.LoopRequestsMeasureReadAndSet
  refine ⟨fun s tag loop ready current => ?_, fun s tag loop latency ready => ?_⟩
  · rw [exec_of_ready ready tag (.loopMeasure loop) rfl, exec_of_ready ready tag (.loopRead loop) rfl]
    simp only [perform, reqLoopMeasure_eq tag loop current, reqLoopRead_eq]
    by_cases unknown : loop ≠ 1 ∧ loop ≠ 2
    · simp only [if_pos unknown]; exact ⟨rfl, rfl⟩
    · simp only [if_neg unknown]
      refine ⟨?_, ?_⟩
      · split_ifs <;> rfl
      · rfl
  · rw [exec_of_ready ready tag (.loopSet loop latency) rfl]
    simp only [perform, reqLoopSet, loopOf_eq]
    by_cases unknown : loop ≠ 1 ∧ loop ≠ 2
    · simp only [if_pos unknown]; rfl
    · simp only [if_neg unknown]
      generalize (if loop = 1 then LoopId.one else LoopId.two) = l
      have measures : (match s.loops.measuring with | none => false | some m => m.loop == l) = s.loops.measures l := by
        unfold LoopUnit.measures
        cases s.loops.measuring <;> rfl
      by_cases busy : s.loops.measures l = true
      · refine (if_pos (measures.trans busy)).mpr ?_
        simp only [if_pos busy]; rfl
      · refine (if_neg (fun h => busy (measures.symm.trans h))).mpr ?_
        simp only [if_neg busy]
        obtain ⟨kept, moved⟩ := s.setLoop_buffers l { latency := latency.map (fun n => min 4095 n), status := .set }
        refine ⟨_, ?_, kept, fun other b => ?_⟩
        · rw [s.setLoop_only l, okOr_bne]; rfl
        · have each := moved other b
          have eq := Buffer.recompute_eq
            (s.loops.set l { latency := latency.map (fun n => min 4095 n), status := .set }) l (s.buffers.get b)
          rw [each]
          exact eq

/-! ## MEASURE_COMPLETE -/

/-- An event of a frame's end on a running part, where it is due. -/
theorem State.atFrameEnd_due {s : State} (running : s.power = .running) (opened : s.frameOpen = true) {due : State → Bool}
    {event : State → State} (h : due s.endFrame = true) :
    s.ifRunning (fun s => s.atFrameEnd due event) = event s.endFrame := by
  rw [State.ifRunning_eq running]
  unfold State.atFrameEnd
  rw [opened, h]
  rfl

/-- Log 2: where the event is not due, nothing happens. -/
theorem State.atFrameEnd_not {s : State} {due : State → Bool} {event : State → State} (h : due s.endFrame = false) :
    s.ifRunning (fun s => s.atFrameEnd due event) = s := by
  have same : s.atFrameEnd due event = s := by unfold State.atFrameEnd; rw [h, Bool.and_false]; rfl
  unfold State.ifRunning
  split
  · exact same
  · rfl

/-- Log 2: with no frame open, nothing happens. -/
theorem State.atFrameEnd_closed {s : State} {due : State → Bool} {event : State → State} (h : s.frameOpen = false) :
    s.ifRunning (fun s => s.atFrameEnd due event) = s := by
  have same : s.atFrameEnd due event = s := by unfold State.atFrameEnd; rw [h, Bool.false_and]; rfl
  unfold State.ifRunning
  split
  · exact same
  · rfl

theorem LoopRecord.measured_eq (r : LoopRecord) (found : Option Nat) :
    r.measured found = (match found with
      | some n => { latency := some n, status := .ok }
      | none => { r with status := .noReturn }) := by
  cases found <;> rfl

theorem LoopUnit.get_measuring (u : LoopUnit) (m : Option Measurement) (l : LoopId) :
    ({ u with measuring := m } : LoopUnit).get l = u.get l := by cases l <;> rfl

/-- Settles O25: the end of the open frame with no measurement, one that goes on, and one that is complete. -/
theorem measurementCompletesAfterItsCapture : Obligations.MeasurementCompletesAfterItsCapture := by
  unfold Obligations.MeasurementCompletesAfterItsCapture
  intro s running
  have run : exec .measureComplete s = .next (s.ifRunning (fun s => s.atFrameEnd State.measureDue State.measureEvent)) := rfl
  rw [run]
  by_cases closed : s.frameOpen = false
  · rw [if_pos closed, State.atFrameEnd_closed closed]
  · rw [if_neg closed]
    have opened : s.frameOpen = true := by simpa using closed
    cases measuring : s.endFrame.loops.measuring with
    | none =>
      have due : s.endFrame.measureDue = false := by simp [State.measureDue, LoopUnit.captureDone, measuring]
      exact congrArg _ (State.atFrameEnd_not due)
    | some m =>
      dsimp only
      by_cases early : m.taken < 4096
      · have due : s.endFrame.measureDue = false := by
          simp [State.measureDue, LoopUnit.captureDone, measuring, Config.captureSamples, Nat.not_le.mpr early]
        rw [if_pos early, State.atFrameEnd_not due]
      · have due : s.endFrame.measureDue = true := by
          simp [State.measureDue, LoopUnit.captureDone, measuring, Config.captureSamples, Nat.le_of_not_lt early]
        rw [if_neg early, State.atFrameEnd_due running opened due]
        generalize s.endFrame = t at measuring
        unfold State.measureEvent State.measureDone State.setLoop
        rw [measuring]
        dsimp only
        rw [LoopUnit.get_measuring, LoopRecord.measured_eq] <;> rfl

end Sys2Proof.Machine
end

section
/-! PROOFS. PRESET_SLOT, PRESET_SCENE, PRESET_READ, PRESET_ERASE and PRESET_COPY (R77, R78, R83 to R86). -/
namespace Sys2Proof.Machine

/-! ## PRESET_SLOT and PRESET_SCENE -/

theorem putAt_eq {α : Type} {xs : List α} {n : Nat} (h : ¬ xs.length < n) (x : α) :
    putAt xs n x = if n = xs.length then xs ++ [x] else xs.set n x := by
  unfold putAt
  by_cases last : n = xs.length
  · rw [if_pos last, if_neg (by omega)]
  · rw [if_neg last, if_pos (by omega)]

theorem wList_single {α : Type} (f : α → Wire) (xs : List α) :
    wList (fun x => [f x]) xs = .u 1 xs.length :: xs.map f := by
  unfold wList
  rw [List.map_eq_flatMap]

/-- R77: each value of a record is clamped as the table says for its index. -/
theorem SlotKind.clampAll_getD (k : SlotKind) (values : List Int) {i : Nat} (h : i < (k.clampAll values).length) :
    (k.clampAll values).getD i 0 = k.clamp (k.modeOf values) i (values.getD i 0) := by
  have inside : i < values.length := by simpa [SlotKind.clampAll] using h
  simp [SlotKind.clampAll, List.getD_eq_getElem?_getD, inside]

theorem SlotKind.clampAll_length (k : SlotKind) (values : List Int) : (k.clampAll values).length = values.length := by
  simp [SlotKind.clampAll]

/-- R77: a slot record is accepted for its kind, its enabled value and the number of its values. -/
theorem slotRecordOf_eq (f : SlotFields) :
    slotRecordOf f = match slotKindOf f.kind with
      | none => none
      | some k => if 1 < f.enabled ∨ f.values.length ≠ k.paramCount then none
        else some { kind := k, enabled := f.enabled == 1, values := k.clampAll f.values } := by
  unfold slotRecordOf
  rw [boolOf_eq]
  cases slotKindOf f.kind with
  | none => rfl
  | some k =>
    by_cases high : 1 < f.enabled
    · simp [high]
    · by_cases count : f.values.length = k.paramCount <;> simp [high, count]

/-- R78: what a scene record must meet. -/
def sceneInRange (f : SceneFields) : Prop :=
  f.name.length ≤ 8 ∧ (∀ c ∈ f.name, 32 ≤ c.toNat ∧ c.toNat ≤ 126) ∧
  1 ≤ f.enables.length ∧ f.enables.length ≤ 16 ∧ (∀ e ∈ f.enables, e ≤ 1) ∧ f.overrides.length ≤ 16 ∧
  (∀ o ∈ f.overrides, o.position ≤ 15 ∧ o.index ≤ 7 ∧ -32768 ≤ o.value ∧ o.value ≤ 32767)

/-- R78: a scene record in range is held as it was given. -/
theorem sceneRecordOf_of_inRange {f : SceneFields} (h : sceneInRange f) : sceneRecordOf f =
    some { name := f.name, enables := f.enables.map (fun e => e == 1), overrides := f.overrides } := by
  obtain ⟨short, chars, least, most, flags, few, each⟩ := h
  unfold sceneRecordOf
  have name := (nameOk_iff 8 f.name).mpr ⟨short, chars⟩
  have enables : f.enables.all (fun e => (boolOf e).isSome) = true := by
    refine List.all_eq_true.mpr fun e he => ?_
    rw [boolOf_of_le (Nat.not_lt.mpr (flags e he))]
    rfl
  have overrides : f.overrides.all (fun o => decide (o.position ≤ 15 ∧ o.index ≤ 7) && isInt16 o.value) = true := by
    refine List.all_eq_true.mpr fun o ho => ?_
    obtain ⟨position, index, low, high⟩ := each o ho
    simp [isInt16, position, index, low, high]
  rw [name, enables, overrides]
  simp [least, most, few]

theorem sceneInRange_of_some {f : SceneFields} {r : SceneRecord} (h : sceneRecordOf f = some r) : sceneInRange f := by
  unfold sceneRecordOf at h
  split at h
  · next checks =>
    simp only [Bool.and_eq_true, decide_eq_true_eq, nameOk_iff, List.all_eq_true, isInt16] at checks
    obtain ⟨⟨⟨⟨⟨short, chars⟩, least, most⟩, flags⟩, few⟩, each⟩ := checks
    refine ⟨short, chars, least, most, fun e he => ?_, few, fun o ho => ?_⟩
    · by_contra high
      have isSome := flags e he
      rw [boolOf_of_lt (Nat.lt_of_not_le high)] at isSome
      cases isSome
    · obtain ⟨⟨position, index⟩, low, high⟩ := each o ho
      exact ⟨position, index, low, high⟩
  · cases h

/-- Settles O27: the checks of each request in their order; then the record is put in its place. -/
theorem presetSlotsAndScenesAppendOrReplace : Obligations.PresetSlotsAndScenesAppendOrReplace := by
  unfold Obligations.PresetSlotsAndScenesAppendOrReplace
  refine ⟨fun s tag f position ready => ?_, fun s tag f number ready => ?_⟩
  · rw [exec_of_ready ready tag (.presetSlot f position) rfl]
    cases staging : s.staging with
    | none => simp only [perform, reqPresetSlot, staging]; rfl
    | some st =>
      simp only [perform, reqPresetSlot, staging, slotRecordOf_eq]
      by_cases beyond : st.record.slots.length < position.getD st.record.slots.length
      · simp only [if_pos beyond]; rfl
      · by_cases full : position.getD st.record.slots.length = st.record.slots.length ∧ 16 ≤ st.record.slots.length
        · simp only [if_neg beyond, if_pos full]; rfl
        · simp only [if_neg beyond, if_neg full]
          cases slotKindOf f.kind with
          | none => rfl
          | some k =>
            dsimp only
            by_cases bad : 1 < f.enabled ∨ f.values.length ≠ k.paramCount
            · simp only [if_pos bad]; rfl
            · simp only [if_neg bad]
              refine ⟨k.clampAll f.values, k.clampAll_length _, fun i hi => k.clampAll_getD _ hi, ?_⟩
              rw [putAt_eq beyond, wList_single]
              simp only [answer, placedCode, okOr_bne]
              rfl
  · rw [exec_of_ready ready tag (.presetScene f number) rfl]
    cases staging : s.staging with
    | none => simp only [perform, reqPresetScene, staging]; rfl
    | some st =>
      simp only [perform, reqPresetScene, staging]
      by_cases beyond : st.record.scenes.length < number.getD st.record.scenes.length
      · simp only [if_pos beyond]; rfl
      · by_cases full : number.getD st.record.scenes.length = st.record.scenes.length ∧ 8 ≤ st.record.scenes.length
        · simp only [if_neg beyond, if_pos full]; rfl
        · simp only [if_neg beyond, if_neg full]
          by_cases inRange : sceneInRange f
          · refine (if_pos inRange).mpr ?_
            rw [sceneRecordOf_of_inRange inRange]
            dsimp only
            rw [putAt_eq beyond]
            rfl
          · refine (if_neg inRange).mpr ?_
            cases record : sceneRecordOf f with
            | none => rfl
            | some r => exact absurd (sceneInRange_of_some record) inRange

/-! ## PRESET_READ, PRESET_ERASE and PRESET_COPY -/

theorem wSlotPart_eq (n : Nat) (r : SlotRecord) :
    wSlotPart n r = [.u 1 n, .u 1 r.kind.code, .u 1 r.enabled.toNat, .u 1 r.values.length] ++ r.values.map (fun v => .s 2 v) := by
  unfold wSlotPart
  rw [wList_single]
  rfl

theorem wScenePart_eq (n : Nat) (r : SceneRecord) :
    wScenePart n r = .u 1 n :: wBytes r.name ++ [.u 1 r.enables.length] ++ r.enables.map (fun e => .u 1 e.toNat) ++
      [.u 1 r.overrides.length] ++
      r.overrides.flatMap (fun (o : Override) => [.u 1 o.position, .u 1 o.index, .s 2 o.value]) := by
  unfold wScenePart wFlag
  rw [wList_single (fun e : Bool => .u 1 e.toNat)]
  simp [wList]

/-- R83: the parts after the header. -/
theorem Preset.part_succ (p : Preset) (n : Nat) :
    p.part (1 + n) = ((p.slots.zipIdx.map (fun q => wSlotPart q.2 q.1) ++
      (p.scenes.zipIdx.map (fun q => wScenePart q.2 q.1) ++
        (p.overlay.map wEntry ++ p.messages.map wMessage)))[n]?).getD [] := by
  unfold Preset.part
  rw [if_neg (by omega), show 1 + n - 1 = n by omega, List.getD_eq_getElem?_getD, List.append_assoc, List.append_assoc]

/-- R83: a part of the second of two lists. -/
theorem getElem?_append_add {α : Type} {xs ys : List α} {k : Nat} (h : xs.length = k) (n : Nat) :
    (xs ++ ys)[k + n]? = ys[n]? := by
  rw [List.getElem?_append_right (by omega), show k + n - xs.length = n by omega]

/-- R83: a part of the first of two lists. -/
theorem getElem?_append_of_some {α : Type} {xs ys : List α} {n : Nat} {x : α} (h : xs[n]? = some x) :
    (xs ++ ys)[n]? = some x := by
  rw [List.getElem?_append_left (List.getElem?_eq_some_iff.mp h).1, h]

theorem Preset.part_slot {p : Preset} {n : Nat} {r : SlotRecord} (h : p.slots[n]? = some r) :
    p.part (1 + n) = wSlotPart n r := by
  rw [Preset.part_succ, getElem?_append_of_some (x := wSlotPart n r) (by simp [List.getElem?_zipIdx, h])]
  rfl

theorem Preset.part_scene {p : Preset} {n : Nat} {c : SceneRecord} (h : p.scenes[n]? = some c) :
    p.part (1 + p.slots.length + n) = wScenePart n c := by
  rw [Nat.add_assoc, Preset.part_succ, getElem?_append_add (by simp),
    getElem?_append_of_some (x := wScenePart n c) (by simp [List.getElem?_zipIdx, h])]
  rfl

theorem Preset.part_overlay {p : Preset} {n : Nat} {e : MapEntry} (h : p.overlay[n]? = some e) :
    p.part (1 + p.slots.length + p.scenes.length + n) = wEntry e := by
  rw [Nat.add_assoc, Nat.add_assoc, Preset.part_succ, getElem?_append_add (by simp), getElem?_append_add (by simp),
    getElem?_append_of_some (x := wEntry e) (by simp [h])]
  rfl

theorem Preset.part_message {p : Preset} {n : Nat} {m : SatMessage} (h : p.messages[n]? = some m) :
    p.part (1 + p.slots.length + p.scenes.length + p.overlay.length + n) = wMessage m := by
  rw [Nat.add_assoc, Nat.add_assoc, Nat.add_assoc, Preset.part_succ, getElem?_append_add (by simp),
    getElem?_append_add (by simp), getElem?_append_add (by simp), List.getElem?_map, h]
  rfl

/-- Settles O30: a location that is none, an EMPTY one, a part that is none, and each kind of part. -/
theorem presetReadAnswersByPart : Obligations.PresetReadAnswersByPart := by
  unfold Obligations.PresetReadAnswersByPart
  intro s tag location part ready
  rw [exec_of_ready ready tag (.presetRead location part) rfl]
  simp only [perform, reqPresetRead]
  by_cases outside : 255 < location
  · rw [if_pos outside, if_pos outside]; rfl
  · rw [if_neg outside, if_neg outside]
    rcases s.location location with ⟨preset, stores⟩
    cases preset with
    | none => rfl
    | some p =>
      dsimp only
      by_cases beyond : p.partCount ≤ part
      · rw [if_pos beyond]; exact (if_pos beyond).mpr rfl
      · rw [if_neg beyond]; refine (if_neg beyond).mpr ⟨rfl, ?_, ?_, ?_, ?_, ?_⟩
        · rintro rfl; rfl
        · rintro n r rfl slot; rw [Preset.part_slot slot, wSlotPart_eq]
        · rintro n c rfl scene; rw [Preset.part_scene scene, wScenePart_eq]
        · rintro n e rfl entry; rw [Preset.part_overlay entry]; rfl
        · rintro n m rfl message; rw [Preset.part_message message]; rfl

/-- Settles O31: the locations that are none, EMPTY ones, the copy of a location onto itself, and the others. -/
theorem eraseAndCopyRaiseTheStoreCount : Obligations.EraseAndCopyRaiseTheStoreCount := by
  unfold Obligations.EraseAndCopyRaiseTheStoreCount
  intro s tag source destination ready
  rw [exec_of_ready ready tag (.presetErase source) rfl, exec_of_ready ready tag (.presetCopy source destination) rfl]
  simp only [perform, reqPresetErase, reqPresetCopy]
  refine ⟨?_, ?_⟩
  · by_cases outside : 255 < source
    · rw [if_pos outside, if_pos outside]; rfl
    · rw [if_neg outside, if_neg outside]
      cases preset : (s.location source).preset with
      | none => rfl
      | some p => rfl
  · by_cases outside : 255 < source ∨ 255 < destination
    · rw [if_pos outside, if_pos outside]; rfl
    · rw [if_neg outside, if_neg outside]
      cases preset : (s.location source).preset with
      | none => rfl
      | some p =>
        dsimp only
        by_cases same : source = destination
        · rw [if_pos same, if_pos same.symm]; rfl
        · rw [if_neg same, if_neg (Ne.symm same)]; rfl

end Sys2Proof.Machine
end

section
/-! PROOFS. The checks of PRESET_END (R81, R82). -/
namespace Sys2Proof.Machine

/-! ## The checks of PRESET_END -/

/-- R81: a check of the whole record: where it fails, its code with part 0 is what comes of the checks. -/
theorem header_of {P : Option (ReplyCode × Nat) → Prop} {bad ok rest : Prop} [Decidable bad] {code : ReplyCode}
    {more : Option (ReplyCode × Nat)} (h : P (if bad then some (code, 0) else more)) (fails : bad ↔ ¬ ok)
    (next : P more → rest) : (¬ ok → P (some (code, 0))) ∧ (ok → rest) := by
  refine ⟨fun n => ?_, fun y => next ?_⟩
  · rwa [if_pos (fails.mpr n)] at h
  · rwa [if_neg (fun b => fails.mp b y)] at h

/-- R81: a check of the items of a list: the first that fails gives its part. -/
theorem each_of {P : Option (ReplyCode × Nat) → Prop} {bad : Nat → Prop} {rest : Prop} {code : ReplyCode} {base : Nat}
    {more : Option (ReplyCode × Nat)} {first : Option Nat}
    (h : P (match first with | some n => some (code, base + n) | none => more))
    (some_iff : ∀ k, first = some k ↔ bad k ∧ ∀ j, j < k → ¬ bad j) (none_iff : first = none ↔ ∀ k, ¬ bad k)
    (next : P more → rest) :
    (∀ k, bad k → (∀ j, j < k → ¬ bad j) → P (some (code, base + k))) ∧ ((∀ k, ¬ bad k) → rest) := by
  refine ⟨fun k b before => ?_, fun good => next ?_⟩
  · rwa [(some_iff k).mpr ⟨b, before⟩] at h
  · rwa [none_iff.mpr good] at h

/-- R81: `each_of` for the first item of a list at which a check fails. -/
theorem each_of_firstBad {P : Option (ReplyCode × Nat) → Prop} {bad : Nat → Prop} {rest : Prop} {code : ReplyCode}
    {base : Nat} {more : Option (ReplyCode × Nat)} {α : Type} {ok : α → Bool} {xs : List α}
    (h : P (match firstBad ok xs with | some n => some (code, base + n) | none => more))
    (fails : ∀ k, bad k ↔ ∃ x, xs[k]? = some x ∧ ok x = false) (next : P more → rest) :
    (∀ k, bad k → (∀ j, j < k → ¬ bad j) → P (some (code, base + k))) ∧ ((∀ k, ¬ bad k) → rest) := by
  obtain rfl : bad = _ := funext fun k => propext (fails k)
  exact each_of h (firstBad_eq_some ok xs) (firstBad_eq_none ok xs) next

theorem overrideOk_eq_false_iff (slots : List SlotRecord) (o : Override) :
    overrideOk slots o = false ↔
      ¬ ∃ r, slots[o.position]? = some r ∧ o.index < r.kind.paramCount ∧ ¬ (r.kind = .loop ∧ o.index = 0) := by
  unfold overrideOk
  cases slots[o.position]? with
  | none => simp
  | some r => simp

theorem curveOk_eq_false_iff (curves : List CurveEntry) (r : SlotRecord) :
    curveOk curves r = false ↔ ∃ m, r.curve = some m ∧ curveHeld curves m = false := by
  unfold curveOk
  cases r.curve with
  | none => simp
  | some n => simp

theorem overlayOk_eq_false_iff (masks : PerLink (BitVec 8)) (e : MapEntry) :
    overlayOk masks e = false ↔ ∃ t ∈ e.targets, (masks.get e.key.link).getLsbD t.class.code = false := by
  simp [overlayOk, allowed]

/-- R81 check 7: the slot is a LOOP slot after one of the same loop. -/
def repeatsLoop (slots : List SlotRecord) (k : Nat) : Prop :=
  ∃ r q j, slots[k]? = some r ∧ slots[j]? = some q ∧ j < k ∧
    r.kind = .loop ∧ q.kind = .loop ∧ r.values.getD 0 0 = q.values.getD 0 0

/-- R81 check 7, as `secondLoop` tests a position. -/
def testsRepeat (slots : List SlotRecord) (k : Nat) : Bool :=
  match slots[k]? with
  | some r => r.kind == .loop && (slots.take k).any (fun q => q.kind == .loop && q.values.getD 0 0 == r.values.getD 0 0)
  | none => false

theorem secondLoop_eq (slots : List SlotRecord) :
    secondLoop slots = (List.range slots.length).find? (testsRepeat slots) := rfl

theorem repeatsLoop_iff (slots : List SlotRecord) (k : Nat) : repeatsLoop slots k ↔ testsRepeat slots k = true := by
  unfold repeatsLoop testsRepeat
  cases slots[k]? with
  | none => simp
  | some r =>
    simp only [Bool.and_eq_true, beq_iff_eq, List.any_eq_true]
    constructor
    · rintro ⟨r, q, j, ⟨⟩, hq, before, kind, kind', same⟩
      refine ⟨kind, q, List.mem_of_getElem? (i := j) ?_, kind', same.symm⟩
      rw [List.getElem?_take_of_lt before, hq]
    · rintro ⟨kind, q, mem, kind', same⟩
      obtain ⟨j, hj⟩ := List.getElem?_of_mem mem
      rw [List.getElem?_take] at hj
      split at hj
      · next before => exact ⟨r, q, j, rfl, hj, before, kind, kind', same.symm⟩
      · cases hj

theorem repeatsLoop_lt {slots : List SlotRecord} {k : Nat} (h : repeatsLoop slots k) : k < slots.length := by
  obtain ⟨r, q, j, hr, _⟩ := h
  exact (List.getElem?_eq_some_iff.mp hr).1

theorem secondLoop_eq_some (slots : List SlotRecord) (k : Nat) :
    secondLoop slots = some k ↔ repeatsLoop slots k ∧ ∀ j, j < k → ¬ repeatsLoop slots j := by
  rw [secondLoop_eq, List.find?_range_eq_some]
  simp only [repeatsLoop_iff, List.mem_range, Bool.not_eq_true']
  constructor
  · rintro ⟨here, _, before⟩
    exact ⟨here, fun j hj => by rw [before j hj]; exact Bool.false_ne_true⟩
  · rintro ⟨here, before⟩
    exact ⟨here, repeatsLoop_lt ((repeatsLoop_iff slots k).mpr here), fun j hj => by simpa using before j hj⟩

theorem secondLoop_eq_none (slots : List SlotRecord) : secondLoop slots = none ↔ ∀ k, ¬ repeatsLoop slots k := by
  rw [secondLoop_eq, List.find?_eq_none]
  simp only [repeatsLoop_iff, List.mem_range]
  refine ⟨fun h k here => h k (repeatsLoop_lt ((repeatsLoop_iff slots k).mpr here)) here, fun h k _ => h k⟩

/-! ## PRESET_END -/

/-- R81, R82: what PRESET_END comes to after its checks. -/
def State.presetEnded (s : State) (tag : Byte) (st : Staging) : Option (ReplyCode × Nat) → State
  | some (code, part) => s.replied tag 0x12 code [.u 1 1, .u 1 part]
  | none =>
    let count := ((s.location st.location).stores + 1) % 65536
    (({ s with library := s.library.set st.location { preset := some st.record, stores := count },
               staging := none } : State)).replied tag 0x12 .ok
      [.u 1 st.location, .u 2 (if st.location < s.library.length then count else 0)]

/-- R81, R82: PRESET_END comes to that. -/
def State.presetEndsAs (s : State) (tag : Byte) (st : Staging) (r : Option (ReplyCode × Nat)) : Prop :=
  exec (.presetEnd tag) s = .next (s.presetEnded tag st r)

theorem presetEndsAs_check {s : State} (ready : Ready s) (tag : Byte) {st : Staging} (staging : s.staging = some st) :
    s.presetEndsAs tag st (st.record.check s.curves s.map.masks) := by
  unfold State.presetEndsAs
  rw [exec_of_ready ready tag .presetEnd rfl]
  simp only [perform, reqPresetEnd, staging]
  cases st.record.check s.curves s.map.masks with
  | some failure => rfl
  | none =>
    have stores : ((s.setLocation st.location (some st.record)).location st.location).stores =
        if st.location < s.library.length then ((s.location st.location).stores + 1) % 65536 else 0 := by
      unfold State.location State.setLocation
      by_cases inside : st.location < s.library.length <;>
        simp [List.getD_eq_getElem?_getD, inside, wrap16, State.location]
    unfold State.presetEnded
    dsimp only
    rw [← stores]
    rfl

/-- Settles O29: the checks one after the other, each by what its failure means. -/
theorem presetEndStoresOnlyAValidRecord : Obligations.PresetEndStoresOnlyAValidRecord := by
  unfold Obligations.PresetEndStoresOnlyAValidRecord
  intro s tag ready
  cases staging : s.staging with
  | none =>
    rw [exec_of_ready ready tag .presetEnd rfl]
    simp only [perform, reqPresetEnd, staging]
    rfl
  | some st =>
    dsimp only
    have h := presetEndsAs_check ready tag staging
    unfold Preset.check at h
    refine header_of (P := s.presetEndsAs tag st) h Iff.rfl fun h => ?_
    refine header_of (P := s.presetEndsAs tag st) h (by simp) fun h => ?_
    refine each_of_firstBad (P := s.presetEndsAs tag st) h (by simp) fun h => ?_
    refine header_of (P := s.presetEndsAs tag st) h (by simp) fun h => ?_
    refine each_of_firstBad (P := s.presetEndsAs tag st) h
      (by simp [List.all_eq_false, overrideOk_eq_false_iff]) fun h => ?_
    refine each_of (P := s.presetEndsAs tag st) h
      (secondLoop_eq_some _) (secondLoop_eq_none _) fun h => ?_
    refine header_of (P := s.presetEndsAs tag st) h
      (by rw [Nat.not_le]; rfl) fun h => ?_
    refine each_of_firstBad (P := s.presetEndsAs tag st) h
      (by simp [curveOk_eq_false_iff]) fun h => ?_
    refine each_of_firstBad (P := s.presetEndsAs tag st) (ok := overlayOk s.map.masks)
      (xs := st.record.overlay) (more := none) ?_ (by simp [overlayOk_eq_false_iff]) fun h => ?_
    · cases bad : firstBad (overlayOk s.map.masks) st.record.overlay with
      | none => rwa [bad] at h
      | some n => rwa [bad] at h
    · exact h

end Sys2Proof.Machine
end

section
/-! PROOFS. SWITCH and SCENE in SEQUENCE mode and over a running load (R94 to R100, R108), and HISTORY (R119). -/
namespace Sys2Proof.Machine

/-! ## SWITCH and SCENE: the checks -/

/-- R94: what a SWITCH must meet. -/
def switchLegal (preset scene : Option Nat) (force : Nat) : Prop :=
  force ≤ 1 ∧ (∀ n, preset = some n → n ≤ 255) ∧ (∀ n, scene = some n → n ≤ 7) ∧ (preset ≠ none ∨ scene ≠ none)

theorem optAtMost_iff (most : Nat) (v : Option Nat) : optAtMost most v = true ↔ ∀ n, v = some n → n ≤ most := by
  cases v <;> simp [optAtMost]

theorem reqSwitch_legal {preset scene : Option Nat} {force : Nat} (legal : switchLegal preset scene force) (tag : Byte)
    (s : State) :
    reqSwitch tag preset scene force s =
      acceptedOr (s.arrive (s.newRequest preset scene (force == 1) .control (some tag))) := by
  obtain ⟨flag, presetRange, sceneRange, named⟩ := legal
  unfold reqSwitch
  rw [boolOf_of_le (Nat.not_lt.mpr flag)]
  dsimp only
  rw [(optAtMost_iff 255 preset).mpr presetRange, (optAtMost_iff 7 scene).mpr sceneRange]
  rw [if_neg]
  rcases named with named | named <;> simp [named]

theorem reqSwitch_refused {preset scene : Option Nat} {force : Nat} (illegal : ¬ switchLegal preset scene force) (tag : Byte)
    (s : State) : reqSwitch tag preset scene force s = refuse s .outOfRange := by
  unfold reqSwitch
  by_cases flag : 1 < force
  · rw [boolOf_of_lt flag]
  · rw [boolOf_of_le flag]
    refine if_pos ?_
    by_contra passes
    simp only [Bool.not_eq_true, Bool.or_eq_false_iff, Bool.not_eq_false', optAtMost_iff, Bool.and_eq_false_iff,
      Option.isNone_eq_false_iff, Option.isSome_iff_ne_none] at passes
    obtain ⟨⟨presetRange, sceneRange⟩, named⟩ := passes
    exact illegal ⟨Nat.not_lt.mp flag, presetRange, sceneRange, named⟩

/-! ## The queue in SEQUENCE mode -/

/-- R93: while a switch is under way a queue put in place changes the queue alone. -/
theorem State.setQueue_busy {s : State} (busy : s.engine.state.resting = false) (q : List SwitchRequest) :
    s.setQueue q = { s with engine := { s.engine with queue := q } } := by
  unfold State.setQueue Engine.settle
  rw [if_neg (by simp [busy])]
  rfl

theorem State.arrive_full {s : State} (mode : s.engine.settings.mode = .sequence) (full : 4 ≤ s.engine.queue.length)
    (r : SwitchRequest) : s.arrive r = (s, false) := by
  unfold State.arrive
  rw [mode]
  exact if_neg (Nat.not_lt.mpr full)

theorem State.arrive_busy {s : State} (mode : s.engine.settings.mode = .sequence) (room : s.engine.queue.length < 4)
    (busy : s.engine.state.resting = false) (r : SwitchRequest) :
    s.arrive r = ({ s with engine := { s.engine with queue := s.engine.queue ++ [r] } }, true) := by
  unfold State.arrive
  rw [mode]
  refine (if_pos room).trans ?_
  rw [State.enqueue, State.setQueue_busy busy, State.headTest_busy]
  exact busy

/-- Settles O33: the checks, and what SEQUENCE mode does with a request while a switch is under way. -/
theorem switchAndSceneQueueInSequence : Obligations.SwitchAndSceneQueueInSequence := by
  unfold Obligations.SwitchAndSceneQueueInSequence
  intro s tag preset scene force number ready
  rw [exec_of_ready ready tag (.switch preset scene force) rfl, exec_of_ready ready tag (.scene number) rfl]
  simp only [perform]
  refine ⟨fun illegal => ?_, fun high => ?_, fun mode full => ⟨fun legal => ?_, fun low => ?_⟩,
    fun mode room busy => ⟨fun legal => ?_, fun low => ?_⟩⟩
  · rw [reqSwitch_refused illegal]; rfl
  · rw [reqScene, if_pos high]; rfl
  · rw [reqSwitch_legal legal, State.arrive_full mode full]; rfl
  · rw [reqScene, if_neg (Nat.not_lt.mpr low), State.arrive_full mode full]; rfl
  · rw [reqSwitch_legal legal, State.arrive_busy mode room busy]; rfl
  · rw [reqScene, if_neg (Nat.not_lt.mpr low), State.arrive_busy mode room busy]; rfl

/-! ## A running load in COLLAPSE mode -/

/-- R100: a request merged into the pending switch. -/
theorem State.mergePending_eq {s : State} {cur : CurrentSwitch} {h : HistoryRecord} {older : List HistoryRecord}
    (history : s.engine.history = h :: older) (new : SwitchRequest) :
    s.mergePending cur new = { s.supersedeMerged cur.request with engine := { s.engine with
      history := { h with scene := new.scene } :: older,
      current := some { cur with request := cur.request.merge new } } } := by
  unfold State.mergePending State.editHistory
  dsimp only
  rw [State.supersedeMerged_engine, history]
  rfl

theorem State.supersedeMerged_eq (s : State) (r : SwitchRequest) :
    s.supersedeMerged r = (match r.merged with
      | none => s
      | some m => s.post (.switchFailed m.source r.preset r.scene .superseded) (m.tag.getD 0)) := rfl

/-- R108: the pending switch abandoned, in one update of the engine. -/
theorem State.abandonPending_superseded {s : State} {cur : CurrentSwitch} {h : HistoryRecord} {older : List HistoryRecord}
    (history : s.engine.history = h :: older) (queue : s.engine.queue = []) (single : cur.request.merged = none) :
    s.abandonPending cur .superseded =
      { (s.freeBuffer cur.buffer).post
          (.switchFailed cur.request.source cur.request.preset cur.request.scene .superseded) (cur.request.tag.getD 0) with
        engine := { s.engine with
          state := .idle, queue := [], current := none, fadeFrame := 0, fadeLength := 0,
          history := { h with status := .superseded, activation := none } :: older } } := by
  unfold State.abandonPending State.failRequest State.editHistory
  dsimp only
  rw [single]
  dsimp only
  rw [State.post_engine, State.freeBuffer_engine, history]
  unfold Engine.rest State.setEngine
  dsimp only
  rw [queue]
  rfl

/-- R97: with nothing queued, a request for the preset that loads is merged. -/
theorem State.arrive_merges {s : State} (mode : s.engine.settings.mode = .collapse) (queue : s.engine.queue = [])
    (busy : s.engine.state.resting = false) {cur : CurrentSwitch} (pending : s.engine.pending = some cur)
    {r : SwitchRequest} (preset : r.preset.isSome = true) (same : cur.request.preset = r.preset) :
    s.arrive r = (s.mergePending cur r, true) := by
  have cleared : s.setQueue [] = s := by rw [State.setQueue_busy busy, ← queue]
  unfold State.arrive State.collapsePreset
  rw [mode, queue]
  simp only [State.failAll, List.foldl_nil, cleared, pending, preset, if_true, if_pos same]

/-- R97, R108: with nothing queued, a request for another preset abandons the one that loads. -/
theorem State.arrive_abandons {s : State} (mode : s.engine.settings.mode = .collapse) (queue : s.engine.queue = [])
    (loading : s.engine.state = .loading) {cur : CurrentSwitch} (pending : s.engine.pending = some cur)
    {r : SwitchRequest} (preset : r.preset.isSome = true) (other : cur.request.preset ≠ r.preset) :
    s.arrive r = ((s.abandonPending cur .superseded).enqueue r, true) := by
  have cleared : s.setQueue [] = s := by rw [State.setQueue_busy (by rw [loading]; rfl), ← queue]
  unfold State.arrive State.collapsePreset
  rw [mode, queue]
  simp only [State.failAll, List.foldl_nil, cleared, pending, preset, if_true, if_neg other, loading]
  rfl

/-- R98: with nothing queued, a scene request is merged into the pending switch. -/
theorem State.arrive_scene_merges {s : State} (mode : s.engine.settings.mode = .collapse) (queue : s.engine.queue = [])
    {cur : CurrentSwitch} (pending : s.engine.pending = some cur) {r : SwitchRequest} (preset : r.preset = none) :
    s.arrive r = (s.mergePending cur r, true) := by
  unfold State.arrive State.collapseScene
  rw [mode, queue, pending, preset]
  rfl

/-- R97, R101: a preset request on an idle engine waits while a hold-off holds. -/
theorem State.enqueue_held {s : State} (idle : s.engine.state = .idle) (queue : s.engine.queue = [])
    (held : s.engine.holdOffs.isEmpty = false) {r : SwitchRequest} (preset : r.preset.isSome = true) :
    s.enqueue r = { s with engine := { s.engine with state := .waiting, queue := [r] } } := by
  have placed : s.setQueue (s.engine.queue ++ [r]) = { s with engine := { s.engine with state := .waiting, queue := [r] } } := by
    unfold State.setQueue Engine.settle
    rw [queue, idle]
    rfl
  obtain ⟨number, some'⟩ := Option.isSome_iff_exists.mp preset
  rw [State.enqueue, placed, State.headTest_held (r := r) (rest := []) rfl]
  simp [Engine.mayTake, some', held]

/-- Settles O34: the merges and the abandonment of the load under way. -/
theorem arrivalsCollapseOntoTheRunningLoad : Obligations.ArrivalsCollapseOntoTheRunningLoad := by
  unfold Obligations.ArrivalsCollapseOntoTheRunningLoad
  intro s tag number n cur h older ready low inRange mode loading current queue history
  have pending : s.engine.pending = some cur := by simp [Engine.pending, loading, EngineState.pendingSwitch, current]
  have legal : switchLegal (some n) none 0 := by simp [switchLegal, inRange]
  have busy : s.engine.state.resting = false := by rw [loading]; rfl
  refine ⟨?_, fun same => ?_, fun other held single => ?_⟩
  · rw [exec_of_ready ready tag (.scene number) rfl]
    simp only [perform, reqScene, if_neg (Nat.not_lt.mpr low)]
    rw [State.arrive_scene_merges mode queue pending rfl, State.mergePending_eq history]
    rfl
  · rw [exec_of_ready ready tag (.switch (some n) none 0) rfl]
    simp only [perform, reqSwitch_legal legal]
    rw [State.arrive_merges mode queue busy pending rfl same, State.mergePending_eq history]
    rfl
  · rw [exec_of_ready ready tag (.switch (some n) none 0) rfl]
    simp only [perform, reqSwitch_legal legal]
    rw [State.arrive_abandons mode queue loading pending rfl other,
      State.abandonPending_superseded history queue single, State.enqueue_held]
    · rfl
    · rfl
    · rfl
    · exact held
    · rfl

/-! ## HISTORY -/

theorem wList_flatMap {α : Type} (f : α → List Wire) (xs : List α) : wList f xs = [.u 1 xs.length] ++ xs.flatMap f := rfl

/-- Settles O38: HISTORY by its three outcomes. -/
theorem historyReadsUpToFourRecords : Obligations.HistoryReadsUpToFourRecords := by
  unfold Obligations.HistoryReadsUpToFourRecords
  intro s tag first ready
  rw [exec_of_ready ready tag (.history first) rfl]
  simp only [perform, reqHistory]
  by_cases outside : 15 < first
  · rw [if_pos outside, if_pos outside]; rfl
  · rw [if_neg outside, if_neg outside]
    by_cases beyond : s.engine.history.length ≤ first
    · rw [if_pos beyond, if_pos beyond]; rfl
    · rw [if_neg beyond, if_neg beyond, wList, List.length_take, List.length_drop]
      rfl

end Sys2Proof.Machine
end

section
/-! PROOFS. HOLD and SWITCH_SETUP (R101 to R105). -/
namespace Sys2Proof.Machine

/-! ## HOLD and SWITCH_SETUP -/

theorem queueModeOf_eq (n : Nat) :
    queueModeOf n = if n ≤ 1 then some (if n = 0 then .collapse else .sequence) else none := by
  match n with
  | 0 | 1 | n + 2 => simp [queueModeOf]

/-- R104: the settings of fields in range, the numbers clamped. -/
def setupSettings (mode w1 k w2 tunerHold satHold : Nat) : SwitchSettings :=
  { mode := if mode = 0 then .collapse else .sequence, w1 := min 500 w1, k := max 2 (min 8 k),
    w2 := max 100 (min 5000 w2), tunerHold := tunerHold == 1, satHold := satHold == 1 }

theorem settingsOf_eq (mode w1 k w2 tunerHold satHold : Nat) :
    settingsOf mode w1 k w2 tunerHold satHold =
      if mode ≤ 1 ∧ tunerHold ≤ 1 ∧ satHold ≤ 1 then some (setupSettings mode w1 k w2 tunerHold satHold) else none := by
  unfold settingsOf
  rw [queueModeOf_eq, boolOf_eq, boolOf_eq]
  by_cases m : mode ≤ 1
  · by_cases t : tunerHold ≤ 1
    · by_cases h : satHold ≤ 1
      · simp [m, t, h, setupSettings, clampNat_eq, Nat.not_lt.mpr]
      · simp [m, t, h, Nat.lt_of_not_le]
    · simp [m, t, Nat.lt_of_not_le]
  · simp [m]

theorem okOr_bne_three (a b c d e f : Nat) :
    okOr (a != b || c != d || e != f) = if a = b ∧ c = d ∧ e = f then .ok else .clamped := by
  unfold okOr
  by_cases h : a = b <;> by_cases k : c = d <;> by_cases l : e = f <;> simp [h, k, l]

theorem flag_code {n : Nat} (h : n ≤ 1) : (n == 1).toNat = n := by
  match n, h with
  | 0, _ | 1, _ => rfl

/-- R104: the settings a reply carries are those of the fields. -/
theorem wSettings_setup {mode w1 k w2 tunerHold satHold : Nat} (m : mode ≤ 1) (t : tunerHold ≤ 1) (h : satHold ≤ 1) :
    wSettings (setupSettings mode w1 k w2 tunerHold satHold) =
      [.u 1 mode, .u 2 (min 500 w1), .u 1 (max 2 (min 8 k)), .u 2 (max 100 (min 5000 w2)), .u 1 tunerHold, .u 1 satHold] := by
  have code : (setupSettings mode w1 k w2 tunerHold satHold).mode.code = mode := by
    match mode, m with
    | 0, _ | 1, _ => rfl
  unfold wSettings wFlag
  rw [code, show (setupSettings mode w1 k w2 tunerHold satHold).tunerHold.toNat = tunerHold from flag_code t,
    show (setupSettings mode w1 k w2 tunerHold satHold).satHold.toNat = satHold from flag_code h]
  rfl

/-- R104: the hold-offs tested under settings just taken. -/
theorem State.testAll_eq (v : State) :
    v.testRate.syncHoldOffs = { v with engine := { v.engine with holdOffs :=
      { v.engine.holdOffs with
        rate := v.engine.rateBroken v.frameCounter,
        tuner := v.tuner.state != .off && v.engine.settings.tunerHold,
        satellite := decide (0 < v.sat.activationCount) && v.engine.settings.satHold,
        measure := v.loops.measuring.isSome } } } := rfl

/-- R104: the queue that COLLAPSE keeps touches nothing the hold-off tests read. -/
theorem State.collapseQueue_reads (s : State) :
    s.collapseQueue.tuner = s.tuner ∧ s.collapseQueue.sat = s.sat ∧ s.collapseQueue.loops = s.loops ∧
    s.collapseQueue.frameCounter = s.frameCounter ∧ s.collapseQueue.engine.settings = s.engine.settings ∧
    s.collapseQueue.engine.rateHistory = s.engine.rateHistory ∧ s.collapseQueue.engine.holdOffs = s.engine.holdOffs := by
  have base : s.collapseQueue.base = s.base := by
    unfold State.collapseQueue
    rw [State.setQueue_base, State.failAll_base]
  obtain ⟨-, -, -, frameCounter, -, -, -, -, -, loops, -, -, -, tuner, sat, -, -⟩ := (State.base_eq_iff _ _).mp base
  refine ⟨tuner, sat, loops, frameCounter, ?_⟩
  unfold State.collapseQueue State.setQueue
  simp only [State.setEngine_engine, State.failAll_engine, Engine.settle_settings, Engine.settle_rateHistory,
    Engine.settle_holdOffs, and_self]

/-- R104: settings taken: the queue that COLLAPSE keeps, the hold-offs tested, and the head of the queue. -/
theorem State.takeSettings_eq (s : State) (x : SwitchSettings) :
    s.takeSettings x =
      (let u : State := { s with engine := { s.engine with settings := x } }
       let v := if s.engine.settings.mode = .sequence ∧ x.mode = .collapse then u.collapseQueue else u
       ({ v with engine := { v.engine with holdOffs :=
         { s.engine.holdOffs with
           rate := u.engine.rateBroken s.frameCounter,
           tuner := s.tuner.state != .off && x.tunerHold,
           satellite := decide (0 < s.sat.activationCount) && x.satHold,
           measure := s.loops.measuring.isSome } } } : State).headTest) := by
  unfold State.takeSettings
  dsimp only
  by_cases collapse : s.engine.settings.mode = .sequence ∧ x.mode = .collapse
  · rw [if_pos collapse, if_pos collapse, State.testAll_eq]
    obtain ⟨tuner, sat, loops, frameCounter, settings, rates, holdOffs⟩ :=
      (s.setEngine { s.engine with settings := x }).collapseQueue_reads
    refine congrArg State.headTest (congrArg (State.setEngine _) (congrArg (fun h => ({ State.engine _ with holdOffs := h } : Engine)) ?_))
    unfold Engine.rateBroken
    rw [tuner, sat, loops, frameCounter, settings, rates, holdOffs]
    rfl
  · rw [if_neg collapse, if_neg collapse, State.testAll_eq]
    rfl

/-- Settles O36: HOLD by its value, SWITCH_SETUP by its checks. -/
theorem holdAndSetupChangeTheHoldOffs : Obligations.HoldAndSetupChangeTheHoldOffs := by
  unfold Obligations.HoldAndSetupChangeTheHoldOffs
  intro s tag value mode w1 k w2 tunerHold satHold ready
  refine ⟨?_, ?_⟩
  · rw [exec_of_ready ready tag (.hold value) rfl]
    simp only [perform, reqHold]
    match value with
    | 0 => rfl
    | 1 => rfl
    | n + 2 => simp only [boolOf]; rfl
  · rw [exec_of_ready ready tag (.switchSetup mode w1 k w2 tunerHold satHold) rfl]
    simp only [perform, reqSwitchSetup, settingsOf_eq]
    by_cases inRange : mode ≤ 1 ∧ tunerHold ≤ 1 ∧ satHold ≤ 1
    · obtain ⟨m, t, h⟩ := inRange
      rw [if_pos ⟨m, t, h⟩, if_pos ⟨m, t, h⟩]
      dsimp only
      rw [wSettings_setup m t h, okOr_bne_three, State.takeSettings_eq]
      have collapse : (setupSettings mode w1 k w2 tunerHold satHold).mode = .collapse ↔ mode = 0 := by
        unfold setupSettings
        by_cases zero : mode = 0 <;> simp [zero]
      simp only [collapse]
      rfl
    · rw [if_neg inRange, if_neg inRange]; rfl

end Sys2Proof.Machine
end

section
/-! PROOFS. Parts of PANIC: its notices, the buffers it frees, the switch under way and a measurement (R69, R117). -/
namespace Sys2Proof.Machine

/-! ## Notices that show on no display line -/

/-- R204: the postings that say how a request or a measurement ends are rendered nowhere. -/
theorem State.post_unrendered (s : State) {body : NoticeBody} (h : ∀ (t : State) l i, render t l i body = none) (tag : Byte) :
    s.post body tag = { s with notices := (s.post body tag).notices } := by
  have shown (t : State) (l : Link) : t.renderOn body l = t := by
    unfold State.renderOn
    dsimp only
    split
    · rfl
    · rw [h]; split <;> rfl
  unfold State.post
  rw [shown, shown, State.postControl_only]

theorem State.failRequest_only (s : State) (r : SwitchRequest) (x : SwitchStatus) :
    s.failRequest r x = { s with notices := (s.failRequest r x).notices } := by
  unfold State.failRequest
  cases r.merged with
  | none => exact State.post_unrendered _ (fun _ _ _ => rfl) _
  | some m =>
    dsimp only
    rw [State.post_unrendered _ (fun _ _ _ => rfl), State.post_unrendered s (fun _ _ _ => rfl)]

theorem State.doneRequest_only (s : State) (r : SwitchRequest) (scene : Option Nat) (x : SwitchStatus) (b : BufferId) (n : Nat)
    (c : Context) : s.doneRequest r scene x b n c = { s with notices := (s.doneRequest r scene x b n c).notices } := by
  unfold State.doneRequest
  cases r.merged with
  | none => exact State.post_unrendered _ (fun _ _ _ => rfl) _
  | some m =>
    dsimp only
    rw [State.post_unrendered _ (fun _ _ _ => rfl), State.post_unrendered s (fun _ _ _ => rfl)]

theorem State.failAll_only (s : State) (rs : List SwitchRequest) (x : SwitchStatus) :
    s.failAll rs x = { s with notices := (s.failAll rs x).notices } := by
  unfold State.failAll
  induction rs generalizing s with
  | nil => rfl
  | cons r rest ih => rw [List.foldl_cons, ih, State.failRequest_only s]

/-! ## The notice queue alone -/

/-- What a posting reads for the notice queue is the same in two states. -/
def State.SameNotices (s t : State) : Prop :=
  t.notices = s.notices ∧ t.routing = s.routing ∧ t.frameCounter = s.frameCounter

theorem State.SameNotices.trans {s t u : State} (h : s.SameNotices t) (k : t.SameNotices u) : s.SameNotices u :=
  ⟨k.1.trans h.1, k.2.1.trans h.2.1, k.2.2.trans h.2.2⟩

theorem State.SameNotices.symm {s t : State} (h : s.SameNotices t) : t.SameNotices s :=
  ⟨h.1.symm, h.2.1.symm, h.2.2.symm⟩

theorem State.SameNotices.post {s t : State} (h : s.SameNotices t) (body : NoticeBody) (tag : Byte) :
    (s.post body tag).SameNotices (t.post body tag) := by
  obtain ⟨notices, routing, frameCounter⟩ := h
  refine ⟨?_, ?_, ?_⟩
  · rw [State.post_notices, State.post_notices]
    unfold State.postControl State.overflowRouted State.destinations
    rw [notices, routing, frameCounter]
    split <;> simp [notices]
  · rw [State.post_routing, State.post_routing, routing]
  · rw [State.post_frameCounter, State.post_frameCounter, frameCounter]

theorem State.SameNotices.failRequest {s t : State} (h : s.SameNotices t) (r : SwitchRequest) (x : SwitchStatus) :
    (s.failRequest r x).SameNotices (t.failRequest r x) := by
  unfold State.failRequest
  cases r.merged with
  | none => exact h.post _ _
  | some m => exact (h.post _ _).post _ _

theorem State.SameNotices.doneRequest {s t : State} (h : s.SameNotices t) (r : SwitchRequest) (scene : Option Nat)
    (x : SwitchStatus) (b : BufferId) (n : Nat) (c : Context) :
    (s.doneRequest r scene x b n c).SameNotices (t.doneRequest r scene x b n c) := by
  unfold State.doneRequest
  cases r.merged with
  | none => exact h.post _ _
  | some m => exact (h.post _ _).post _ _

theorem State.SameNotices.failAll {s t : State} (h : s.SameNotices t) (rs : List SwitchRequest) (x : SwitchStatus) :
    (s.failAll rs x).SameNotices (t.failAll rs x) := by
  unfold State.failAll
  induction rs generalizing s t with
  | nil => exact h
  | cons r rest ih => exact ih (h.failRequest r x)

theorem State.editHistory_engine (s : State) (f : HistoryRecord → HistoryRecord) :
    s.editHistory f = s.setEngine { s.engine with history := s.engine.history.modifyHead f } := by
  unfold State.editHistory
  cases history : s.engine.history with
  | nil =>
    have same : ({ s.engine with history := [] } : Engine) = s.engine := by rw [← history]
    exact (congrArg s.setEngine same).symm
  | cons h older => rfl

/-! ## Buffers freed -/

/-- R44: what a buffer uses of a curve. -/
def Buffer.uses (x : Buffer) (k : Nat) : Nat :=
  match x.context with
  | none => 0
  | some c => c.curveUses k

/-- A place of the curve table that holds no entry. -/
def CurveEntry.absent : CurveEntry := { name := [], points := [], refs := 0 }

/-- R91, R117: the buffers of a set became FREE, and their contexts gave back what they use of each curve. -/
def State.Freed (s t : State) (p : BufferId → Bool) : Prop :=
  (∀ b, t.buffers.get b = if p b then Buffer.free else s.buffers.get b) ∧
  (∀ k, t.curves.getD k .absent = { s.curves.getD k .absent with
    refs := (s.curves.getD k .absent).refs - (bufferIds.map (fun b => if p b then (s.buffers.get b).uses k else 0)).sum }) ∧
  t.curves.length = s.curves.length

theorem State.Freed.of_same {s t : State} (buffers : t.buffers = s.buffers) (curves : t.curves = s.curves) :
    s.Freed t (fun _ => false) := by
  unfold State.Freed
  rw [buffers, curves]
  simp

theorem State.Freed.trans {s t u : State} {p q : BufferId → Bool} (h : s.Freed t p) (k : t.Freed u q) :
    s.Freed u (fun b => p b || q b) := by
  obtain ⟨buffers, refs, length⟩ := h
  obtain ⟨buffers', refs', length'⟩ := k
  refine ⟨fun b => ?_, fun n => ?_, length'.trans length⟩
  · rw [buffers', buffers]
    by_cases first : p b = true
    · simp [first]
    · simp [first]
  · have split (b : BufferId) : (if p b || q b then (s.buffers.get b).uses n else 0) =
        (if p b then (s.buffers.get b).uses n else 0) + if q b then (t.buffers.get b).uses n else 0 := by
      rw [buffers]
      cases p b <;> cases q b <;> simp [Buffer.uses, Buffer.free]
    rw [refs', refs]
    dsimp only
    rw [Nat.sub_sub, ← List.sum_map_add]
    simp only [split]

theorem moveRefs_getD (cs : List CurveEntry) (c : Context) (k : Nat) :
    (moveRefs cs false c).getD k .absent = { cs.getD k .absent with refs := (cs.getD k .absent).refs - c.curveUses k } := by
  simp only [moveRefs, List.getD_eq_getElem?_getD, List.getElem?_map, List.getElem?_zipIdx]
  cases cs[k]? with
  | none => simp [CurveEntry.absent]
  | some e => simp

theorem State.freeBuffer_freed (s : State) (b : BufferId) : s.Freed (s.freeBuffer b) (fun k => k == b) := by
  refine ⟨fun k => ?_, fun k => ?_, ?_⟩
  · rw [State.freeBuffer_buffers]
    by_cases same : b = k
    · subst same; simp
    · rw [PerBuffer.get_set_ne _ _ same]; simp [Ne.symm same]
  · have once : (bufferIds.map (fun x => if x == b then (s.buffers.get x).uses k else 0)).sum = (s.buffers.get b).uses k := by
      cases b <;> simp [bufferIds]
    rw [once]
    unfold State.freeBuffer Buffer.uses
    cases (s.buffers.get b).context with
    | none => rfl
    | some c => exact moveRefs_getD _ _ _
  · unfold State.freeBuffer
    cases (s.buffers.get b).context with
    | none => rfl
    | some c => simp [moveRefs]

theorem State.Freed.congr {s t : State} {p q : BufferId → Bool} (h : s.Freed t p) (same : ∀ b, p b = q b) : s.Freed t q := by
  rwa [← funext same]

theorem State.foldl_freeBuffer_freed (bs : List BufferId) (s : State) :
    s.Freed (bs.foldl State.freeBuffer s) (fun b => decide (b ∈ bs)) := by
  induction bs generalizing s with
  | nil => exact (State.Freed.of_same rfl rfl).congr (by simp)
  | cons b rest ih =>
    refine ((s.freeBuffer_freed b).trans (ih (s.freeBuffer b))).congr fun k => ?_
    simp [beq_eq_decide]

theorem State.freeRole_freed (s : State) (r : Role) : s.Freed (s.freeRole r) (fun b => (s.buffers.get b).role == r) :=
  (State.foldl_freeBuffer_freed _ s).congr fun b => by
    rw [Bool.eq_iff_iff, decide_eq_true_iff, State.mem_withRole, beq_iff_eq]

/-! ## PANIC -/

/-- R117: what PANIC may change. -/
def State.PanicOnly (s t : State) : Prop :=
  t = { s with mains := t.mains, curves := t.curves, buffers := t.buffers, loops := t.loops, notices := t.notices,
               engine := t.engine }

theorem State.PanicOnly.trans {s t u : State} (h : s.PanicOnly t) (k : t.PanicOnly u) : s.PanicOnly u := by
  unfold State.PanicOnly at *
  rw [k, h]

theorem State.PanicOnly.of_notices {s t : State} (h : t = { s with notices := t.notices }) : s.PanicOnly t := by
  unfold State.PanicOnly
  rw [h]

/-- What a part of PANIC keeps besides the buffers, the curves, the notices and the history. -/
structure State.PanicStep (s t : State) (p : BufferId → Bool) : Prop where
  only : s.PanicOnly t
  freed : s.Freed t p
  mains : t.mains = s.mains
  loops : t.loops = s.loops
  settings : t.engine.settings = s.engine.settings
  rates : t.engine.rateHistory = s.engine.rateHistory
  holdOffs : t.engine.holdOffs = s.engine.holdOffs

theorem State.PanicStep.trans {s t u : State} {p q : BufferId → Bool} (h : s.PanicStep t p) (k : t.PanicStep u q) :
    s.PanicStep u (fun b => p b || q b) :=
  ⟨h.only.trans k.only, h.freed.trans k.freed, k.mains.trans h.mains, k.loops.trans h.loops, k.settings.trans h.settings,
    k.rates.trans h.rates, k.holdOffs.trans h.holdOffs⟩

theorem State.PanicStep.congr {s t : State} {p q : BufferId → Bool} (h : s.PanicStep t p) (same : ∀ b, p b = q b) :
    s.PanicStep t q := by rwa [← funext same]

/-- A posting is such a step. -/
theorem State.PanicStep.of_notices {s t : State} (h : t = { s with notices := t.notices }) :
    s.PanicStep t (fun _ => false) := by
  rw [h]
  exact ⟨rfl, .of_same rfl rfl, rfl, rfl, rfl, rfl, rfl⟩

theorem State.PanicStep.setEngine (s : State) (e : Engine) (settings : e.settings = s.engine.settings)
    (rates : e.rateHistory = s.engine.rateHistory) (holdOffs : e.holdOffs = s.engine.holdOffs) :
    s.PanicStep (s.setEngine e) (fun _ => false) :=
  ⟨rfl, .of_same rfl rfl, rfl, rfl, settings, rates, holdOffs⟩

theorem State.PanicStep.rest (s : State) : s.PanicStep (s.setEngine s.engine.rest) (fun _ => false) :=
  .setEngine s _ rfl rfl rfl

theorem State.freeBuffer_panicStep (s : State) (b : BufferId) : s.PanicStep (s.freeBuffer b) (fun k => k == b) :=
  ⟨rfl, s.freeBuffer_freed b, rfl, rfl, rfl, rfl, rfl⟩

theorem State.freeRole_panicStep (s : State) (r : Role) :
    s.PanicStep (s.freeRole r) (fun b => (s.buffers.get b).role == r) := by
  obtain ⟨bs, cs, e, -⟩ := State.BuffersOnly.foldl State.freeBuffer_only (s.withRole r) s
  have only : s.freeRole r = { s with buffers := bs, curves := cs } := e
  refine ⟨?_, s.freeRole_freed r, ?_, ?_, ?_, ?_, ?_⟩
  · rw [only]; rfl
  all_goals rw [only]

theorem State.editHistory_panicStep (s : State) (f : HistoryRecord → HistoryRecord) :
    s.PanicStep (s.editHistory f) (fun _ => false) := by
  rw [State.editHistory_engine]
  exact .setEngine s _ rfl rfl rfl

theorem State.failAll_setQueue_panicStep (s : State) (rs q : List SwitchRequest) (x : SwitchStatus) :
    s.PanicStep ((s.failAll rs x).setQueue q) (fun _ => false) :=
  (State.PanicStep.of_notices (s.failAll_only rs x)).trans
    (.setEngine _ _ (Engine.settle_settings _) (Engine.settle_rateHistory _) (Engine.settle_holdOffs _))

theorem State.freeRole_sameNotices (s : State) (r : Role) : s.SameNotices (s.freeRole r) := by
  obtain ⟨bs, cs, e, -⟩ := State.BuffersOnly.foldl State.freeBuffer_only (s.withRole r) s
  have only : s.freeRole r = { s with buffers := bs, curves := cs } := e
  rw [only]
  exact ⟨rfl, rfl, rfl⟩

theorem State.editHistory_sameNotices (s : State) (f : HistoryRecord → HistoryRecord) : s.SameNotices (s.editHistory f) := by
  rw [State.editHistory_engine]
  exact ⟨rfl, rfl, rfl⟩

/-- The history with the record of the switch under way ended under PANIC. -/
def panicHistory (fading : Bool) (hs : List HistoryRecord) : List HistoryRecord :=
  hs.modifyHead (fun h => { h with status := .panic, activation := if fading then h.activation else none })

/-- R117: the notices a switch under way ends with, from any state with the same queue of notices. -/
def State.panicEnd (s u : State) : State :=
  match s.engine.current with
  | none => u
  | some cur =>
    if s.engine.state = .crossfading then
      match (s.buffers.get cur.buffer).context with
      | none => u
      | some c =>
        u.doneRequest cur.request cur.sceneApplied .panic cur.buffer
          (frameDiff (match s.engine.history.head? with
            | some h => h.activation.getD h.arrival
            | none => s.frameCounter) cur.request.arrival) c
    else u.failRequest cur.request .panic

/-- R117: the buffers a switch under way frees. -/
def State.panicFrees (s : State) (b : BufferId) : Bool :=
  match s.engine.current with
  | none => false
  | some cur => if s.engine.state = .crossfading then (s.buffers.get b).role == .outgoing else b == cur.buffer

/-- R117: the switch under way ended. -/
theorem State.panicSwitch_step {s : State} (holds : ∀ b, (s.buffers.get b).role = .free ↔ (s.buffers.get b).context = none)
    (law : ∀ cur, s.engine.current = some cur → s.engine.state.bufferRole = some (s.buffers.get cur.buffer).role) :
    s.PanicStep s.panicSwitch s.panicFrees ∧
    s.panicSwitch.engine.history = (if s.engine.current.isSome then
      panicHistory (decide (s.engine.state = .crossfading)) s.engine.history else s.engine.history) ∧
    ∀ u : State, s.SameNotices u → s.panicSwitch.SameNotices (s.panicEnd u) := by
  cases current : s.engine.current with
  | none =>
    have here : s.panicSwitch = s := by unfold State.panicSwitch; rw [current]
    rw [here]
    refine ⟨(State.PanicStep.of_notices rfl).congr fun b => ?_, rfl, fun u h => ?_⟩
    · unfold State.panicFrees; rw [current]
    · unfold State.panicEnd; rw [current]; exact h
  | some cur =>
    by_cases fading : s.engine.state = .crossfading
    · have role : (s.buffers.get cur.buffer).role = .active := by
        have := law cur current
        rw [fading] at this
        exact (Option.some.inj this).symm
      obtain ⟨c, context⟩ := Option.ne_none_iff_exists'.mp
        (fun none => by rw [(holds cur.buffer).mpr none] at role; cases role)
      have kept : ((s.freeRole .outgoing).buffers.get cur.buffer).context = some c := by
        rw [State.freeRole_get, role]; exact context
      have here : s.panicSwitch = ((s.freeRole .outgoing).editHistory (fun h => { h with status := .panic })).doneRequest
          cur.request cur.sceneApplied .panic cur.buffer
          (frameDiff (match s.engine.history.head? with
            | some h => h.activation.getD h.arrival
            | none => s.frameCounter) cur.request.arrival) c := by
        have counter : (s.freeRole .outgoing).frameCounter = s.frameCounter := (s.freeRole_sameNotices .outgoing).2.2
        unfold State.panicSwitch State.endSwitch
        rw [current]
        dsimp only
        rw [if_pos fading, kept, State.freeRole_engine, counter] <;> rfl
      have unended := (s.freeRole_sameNotices .outgoing).trans
        ((s.freeRole .outgoing).editHistory_sameNotices (fun h => { h with status := .panic }))
      rw [here]
      refine ⟨?_, ?_, fun u h => ?_⟩
      · refine (((s.freeRole_panicStep .outgoing).trans (State.editHistory_panicStep _ _)).trans
          (.of_notices (State.doneRequest_only _ _ _ _ _ _ _))).congr fun b => ?_
        simp [State.panicFrees, current, fading]
      · rw [State.doneRequest_engine, State.editHistory_engine, State.freeRole_engine]
        simp [panicHistory, fading]
      · unfold State.panicEnd
        rw [current]
        dsimp only
        rw [if_pos fading, context]
        exact (unended.symm.trans h).doneRequest _ _ _ _ _ _
    · have here : s.panicSwitch = s.abandonPending cur .panic := by
        unfold State.panicSwitch
        rw [current]
        exact if_neg fading
      rw [here]
      refine ⟨?_, ?_, fun u h => ?_⟩
      · unfold State.abandonPending
        refine ((((s.freeBuffer_panicStep cur.buffer).trans (.of_notices (State.failRequest_only _ _ _))).trans
          (State.editHistory_panicStep _ _)).trans (.rest _)).congr fun b => ?_
        simp [State.panicFrees, current, fading]
      · rw [State.abandonPending_eq, State.editHistory_engine, State.failRequest_engine]
        simp [panicHistory, fading, Engine.rest]
      · unfold State.panicEnd State.abandonPending
        rw [current]
        dsimp only
        rw [if_neg fading]
        have freed : s.SameNotices (s.freeBuffer cur.buffer) := ⟨rfl, rfl, rfl⟩
        have ended := ((freed.symm.trans h).failRequest cur.request .panic)
        exact (State.editHistory_sameNotices _ _).symm.trans ended

/-- R69: the record of a loop after an abort. -/
def LoopUnit.afterPanic (u : LoopUnit) : LoopUnit :=
  match u.measuring with
  | none => u
  | some m => { u.set m.loop { u.get m.loop with status := .aborted } with measuring := none }

/-- R69: the notice of an abort, from any state with the same queue of notices. -/
def State.abortEnd (s u : State) : State :=
  match s.loops.measuring with
  | none => u
  | some m => u.post (.measureDone m.loop .aborted (s.loops.get m.loop).latency (s.loops.get m.loop).latency) m.tag

theorem LoopUnit.abort_latency (u : LoopUnit) (l : LoopId) : (u.abort.get l).latency = (u.get l).latency := by
  unfold LoopUnit.abort
  split
  · rfl
  · next m _ =>
    obtain ⟨loop, tag, taken, found, block⟩ := m
    cases loop <;> cases l <;> rfl

/-- R69, R117: the abort of a measurement by PANIC. -/
theorem State.abortMeasure_step (s : State) :
    s.PanicOnly s.abortMeasure ∧ s.Freed s.abortMeasure (fun _ => false) ∧ s.abortMeasure.mains = s.mains ∧
    s.abortMeasure.loops = s.loops.afterPanic ∧
    (∃ h, s.abortMeasure.engine = { s.engine with holdOffs := h }) ∧
    (s.holdOffsCurrent → s.abortMeasure.engine.holdOffs = { s.engine.holdOffs with measure := false }) ∧
    ∀ u : State, s.SameNotices u → s.abortMeasure.SameNotices (s.abortEnd u) := by
  unfold State.abortMeasure State.abortEnd LoopUnit.afterPanic
  cases measuring : s.loops.measuring with
  | none =>
    refine ⟨rfl, .of_same rfl rfl, rfl, rfl, ⟨_, rfl⟩, fun ⟨_, _, measure⟩ => ?_, fun u h => h⟩
    have off : s.engine.holdOffs.measure = false := by
      rw [Bool.eq_false_iff, Ne, measure, measuring]
      exact Bool.false_ne_true
    rw [← off]
  | some m =>
    have aborted : s.loops.abort = { s.loops.set m.loop { s.loops.get m.loop with status := .aborted } with
        measuring := none } := by unfold LoopUnit.abort; rw [measuring]
    dsimp only
    refine ⟨?_, .of_same ?_ ?_, ?_, ?_, ?_, fun current => ?_, fun u h => ?_⟩
    · rw [State.post_unrendered _ (fun _ _ _ => rfl)]; rfl
    · rw [State.post_buffers]; rfl
    · rw [State.post_curves]; rfl
    · rw [State.post_mains]; rfl
    · rw [State.post_loops]; exact aborted
    · rw [State.post_engine]; exact ⟨_, rfl⟩
    · rw [State.post_engine]
      have now := congrArg (fun h : HoldOffs => { h with measure := false }) (State.holdOffsNow_eq current)
      have off : s.loops.abort.measuring.isSome = false := by rw [LoopUnit.abort_measuring]; rfl
      refine Eq.trans ?_ now
      unfold State.syncHoldOffs State.holdOffsNow
      rw [off]
      rfl
    · have unposted : s.SameNotices ({ s with loops := s.loops.abort } : State).syncHoldOffs := ⟨rfl, rfl, rfl⟩
      have latency := s.loops.abort_latency m.loop
      rw [show (({ s with loops := s.loops.abort } : State).syncHoldOffs.loops.get m.loop).latency =
        (s.loops.get m.loop).latency from latency]
      exact (unposted.symm.trans h).post _ _

end Sys2Proof.Machine
end

section
/-! PROOFS. PANIC as one event (R117). -/
namespace Sys2Proof.Machine

/-! ## PANIC: the whole event -/

/-- R91: at most one buffer has a role of the set. -/
theorem State.rolesIn_unique {s : State} {p : Role → Bool} (one : s.rolesIn p ≤ 1) {b b' : BufferId}
    (h : p (s.buffers.get b).role = true) (k : p (s.buffers.get b').role = true) : b = b' := by
  by_contra other
  rw [State.rolesIn_eq] at one
  cases b <;> cases b' <;> simp_all [PerBuffer.get] <;> omega

theorem State.role_absent {s : State} {p : Role → Bool} (none : s.rolesIn p = 0) (b : BufferId) :
    p (s.buffers.get b).role = false := by
  by_contra some'
  have := (State.rolesIn_pos_iff s p).mpr ⟨b, by simpa using some'⟩
  omega

/-- R93: a buffer that loads or waits belongs to the pending switch, an OUTGOING one to a crossfade. -/
theorem State.rolesCoherent.under {s : State} (coherent : s.rolesCoherent) (b : BufferId) :
    ((s.buffers.get b).role.coming = true → s.engine.state.pendingSwitch = true) ∧
    ((s.buffers.get b).role = .outgoing → s.engine.state = .crossfading) := by
  obtain ⟨-, -, -, -, -, pend, out, -⟩ := coherent
  refine ⟨fun h => ?_, fun h => ?_⟩
  · by_contra none
    have absent := State.role_absent (pend (by simpa using none)) b
    rw [h] at absent
    cases absent
  · by_contra none
    have absent := State.role_absent (out none) b
    rw [h] at absent
    cases absent

/-- R93: the buffer of the pending switch loads or waits. -/
theorem EngineState.coming_of_bufferRole {e : EngineState} {r : Role} (h : e.bufferRole = some r) (fading : e ≠ .crossfading) :
    r.coming = true := by
  cases e
  case crossfading => exact absurd rfl fading
  case loading | armed | cutting => rw [← Option.some.inj h]; rfl
  all_goals cases h

theorem EngineState.busy_of_pendingSwitch {e : EngineState} (h : e.pendingSwitch = true) : e.resting = false := by
  cases e <;> simp_all [EngineState.pendingSwitch, EngineState.resting]

/-- R91, R93, R117: the buffers of a switch under way, and the SPILL and CUTTING ones, are all but the ACTIVE and the FREE. -/
theorem State.panicFrees_iff {s : State} (coherent : s.rolesCoherent) (b : BufferId) :
    (s.panicFrees b = true ∨ (s.buffers.get b).role = .spill ∨ (s.buffers.get b).role = .cutting) ↔
      ¬ ((s.buffers.get b).role = .active ∨ (s.buffers.get b).role = .free) := by
  obtain ⟨isComing, isOutgoing⟩ := coherent.under b
  obtain ⟨⟨-, coming, -, -⟩, -, -, under, law, -⟩ := coherent
  unfold State.panicFrees
  cases current : s.engine.current with
  | none =>
    have resting := under.mpr current
    have notComing : (s.buffers.get b).role.coming ≠ true := fun h => by
      rw [EngineState.busy_of_pendingSwitch (isComing h)] at resting
      cases resting
    have notOutgoing : (s.buffers.get b).role ≠ .outgoing := fun h => by
      rw [isOutgoing h] at resting
      cases resting
    cases role : (s.buffers.get b).role <;> simp_all [Role.coming]
  | some cur =>
    dsimp only
    by_cases fading : s.engine.state = .crossfading
    · have notComing : (s.buffers.get b).role.coming ≠ true := fun h => by
        have pending := isComing h
        rw [fading] at pending
        cases pending
      rw [if_pos fading]
      cases role' : (s.buffers.get b).role <;> simp_all [Role.coming]
    · have pending := EngineState.coming_of_bufferRole (law cur current) fading
      rw [if_neg fading, beq_iff_eq]
      constructor
      · rintro (rfl | h | h) other
        · rcases other with e | e <;> rw [e] at pending <;> cases pending
        · rw [h] at other; simp at other
        · rw [h] at other; simp at other
      · intro other
        by_cases h : (s.buffers.get b).role.coming = true
        · exact .inl (State.rolesIn_unique coming h pending)
        · have notOutgoing : (s.buffers.get b).role ≠ .outgoing := fun h => fading (isOutgoing h)
          cases role' : (s.buffers.get b).role <;> simp_all [Role.coming]

theorem State.PanicOnly.reads {s t : State} (h : s.PanicOnly t) :
    t.tuner = s.tuner ∧ t.sat = s.sat ∧ t.frameCounter = s.frameCounter := by
  unfold State.PanicOnly at h
  rw [h]
  exact ⟨rfl, rfl, rfl⟩

theorem State.PanicStep.holdOffsCurrent {s t : State} {p : BufferId → Bool} (h : s.PanicStep t p)
    (current : s.holdOffsCurrent) : t.holdOffsCurrent := by
  obtain ⟨tuner, sat, -⟩ := h.only.reads
  unfold State.holdOffsCurrent
  rw [tuner, sat, h.holdOffs, h.settings, h.loops]
  exact current

/-- R117: PANIC from the queue emptied to the end of the switch under way and its tails. -/
def State.panicTail (s : State) : State := ((s.panicSwitch.freeRole .spill).freeRole .cutting)

/-- R104, R117: the queue fails and is emptied. -/
def State.panicQueue (s : State) : State := (s.failAll s.engine.queue .panic).setQueue []

theorem State.panic_eq (s : State) :
    s.panic = ((s.setMute .panic true everyOutput).panicQueue.panicTail.abortMeasure).setEngine
      { ((s.setMute .panic true everyOutput).panicQueue.panicTail.abortMeasure).engine.rest with queue := [] } := rfl

/-- R104: the queue emptied leaves a switch under way as it is. -/
theorem State.panicQueue_switch {s : State} (coherent : s.rolesCoherent) :
    s.panicQueue.buffers = s.buffers ∧ s.panicQueue.engine.current = s.engine.current ∧
    s.panicQueue.engine.history = s.engine.history ∧ s.panicQueue.frameCounter = s.frameCounter ∧
    s.panicQueue.engine.queue = [] ∧ (s.engine.current ≠ none → s.panicQueue.engine.state = s.engine.state) := by
  obtain ⟨-, -, -, under, -⟩ := coherent
  unfold State.panicQueue State.setQueue
  refine ⟨State.failAll_buffers _ _ _, ?_, ?_, ?_, Engine.settle_queue _, fun some' => ?_⟩
  · rw [State.setEngine_engine, Engine.settle_current, State.failAll_engine]
  · rw [State.setEngine_engine, Engine.settle_history, State.failAll_engine]
  · rw [State.setEngine_frameCounter, State.failAll_only]
  · rw [State.setEngine_engine, Engine.settle_state_of_busy, State.failAll_engine]
    rw [State.failAll_engine]
    exact Bool.eq_false_iff.mpr fun h => some' (under.mp h)

/-- R117: the queue and the switch under way end with their notices, and every buffer but the ACTIVE one becomes FREE. -/
theorem State.panicTail_step {s : State} (coherent : s.rolesCoherent) :
    s.PanicStep s.panicQueue.panicTail (fun b => !((s.buffers.get b).role == .active || (s.buffers.get b).role == .free)) ∧
    s.panicQueue.panicTail.engine.history = (if s.engine.current.isSome then
      panicHistory (decide (s.engine.state = .crossfading)) s.engine.history else s.engine.history) ∧
    s.panicQueue.panicTail.engine.queue = [] ∧
    ∀ u : State, s.SameNotices u → s.panicQueue.panicTail.SameNotices (s.panicEnd (u.failAll s.engine.queue .panic)) := by
  obtain ⟨buffers, current, history, counter, queue, state⟩ := State.panicQueue_switch coherent
  have whole := coherent
  obtain ⟨-, holds, -, under, law, -⟩ := coherent
  have same : s.engine.current.isSome = true → s.panicQueue.engine.state = s.engine.state := fun h =>
    state (Option.isSome_iff_ne_none.mp h)
  have frees : s.panicQueue.panicFrees = s.panicFrees := by
    funext b
    unfold State.panicFrees
    rw [current]
    cases h : s.engine.current with
    | none => rfl
    | some cur => dsimp only; rw [same (by rw [h]; rfl), buffers]
  have ends (u : State) : s.panicQueue.panicEnd u = s.panicEnd u := by
    unfold State.panicEnd
    rw [current]
    cases h : s.engine.current with
    | none => rfl
    | some cur => dsimp only; rw [same (by rw [h]; rfl), buffers, history, counter]
  obtain ⟨step, ended, notices⟩ := State.panicSwitch_step (s := s.panicQueue) (by rw [buffers]; exact holds)
    (fun cur h => by
      rw [current] at h
      rw [same (by rw [h]; rfl), buffers]
      exact law cur h)
  rw [frees] at step
  have queued := s.failAll_setQueue_panicStep s.engine.queue [] .panic
  have tail := (s.panicQueue.panicSwitch.freeRole_panicStep .spill).trans
    ((s.panicQueue.panicSwitch.freeRole .spill).freeRole_panicStep .cutting)
  refine ⟨(queued.trans (step.trans tail)).congr fun b => ?_, ?_, ?_, fun u h => ?_⟩
  · have left : s.panicQueue.panicSwitch.buffers.get b = if s.panicFrees b then Buffer.free else s.buffers.get b := by
      rw [step.freed.1, buffers]
    have every := State.panicFrees_iff whole b
    rw [State.freeRole_get, left]
    clear holds
    cases frees' : s.panicFrees b
    · rw [frees'] at every
      cases role : (s.buffers.get b).role <;> simp_all [Buffer.free]
    · rw [frees'] at every
      simpa using every
  · unfold State.panicTail
    rw [State.freeRole_engine, State.freeRole_engine, ended, current, history]
    cases h : s.engine.current with
    | none => rfl
    | some cur => rw [same (by rw [h]; rfl)]
  · unfold State.panicTail
    rw [State.freeRole_engine, State.freeRole_engine, (State.panicSwitch_over _).2, queue]
  · have unqueued : s.panicQueue.SameNotices (u.failAll s.engine.queue .panic) :=
      (show s.panicQueue.SameNotices (s.failAll s.engine.queue .panic) from ⟨rfl, rfl, rfl⟩).trans (h.failAll _ _)
    have tail := (s.panicQueue.panicSwitch.freeRole_sameNotices .spill).trans
      ((s.panicQueue.panicSwitch.freeRole .spill).freeRole_sameNotices .cutting)
    rw [← ends]
    exact tail.symm.trans (notices _ unqueued)

/-- R44, R117: what a buffer that PANIC frees gives back of a curve. -/
theorem Buffer.uses_freed {x : Buffer} (holds : x.role = .free ↔ x.context = none) (k : Nat) :
    (if !(x.role == .active || x.role == .free) then x.uses k else 0) =
      (match x.role, x.context with
        | .active, _ => 0
        | _, none => 0
        | _, some c => c.curveUses k) := by
  unfold Buffer.uses
  cases context : x.context with
  | none => rw [holds.mpr context]; rfl
  | some c => cases role : x.role <;> simp_all

/-- R118: the record of the switch under way takes the status of PANIC. -/
theorem panicHistory_eq (e : Engine) :
    (if e.current.isSome then panicHistory (decide (e.state = .crossfading)) e.history else e.history) =
      (match e.current, e.history with
        | some _, h :: older =>
          { h with status := .panic, activation := if e.state = .crossfading then h.activation else none } :: older
        | _, hs => hs) := by
  cases e.current with
  | none => rfl
  | some cur =>
    cases e.history with
    | nil => rfl
    | cons h older => simp [panicHistory]

/-- Settles O37: the mutes, the queue, the switch under way with its buffers, the measurement, and the engine at rest. -/
theorem panicSilencesAndLeavesOnlyTheActiveContext : Obligations.PanicSilencesAndLeavesOnlyTheActiveContext := by
  unfold Obligations.PanicSilencesAndLeavesOnlyTheActiveContext
  intro s tag ready coherent none' fading latency queueFailed switchEnded posted
  obtain ⟨tail, history, queue, notices⟩ := State.panicTail_step (s := s.setMute .panic true everyOutput) coherent
  obtain ⟨only, freed, mains, loops, engine, holdOffs, abort⟩ :=
    (s.setMute .panic true everyOutput).panicQueue.panicTail.abortMeasure_step
  have run : exec (.panic tag) s = .next (s.panic.replied tag 0x1A .ok []) := by
    rw [exec_of_ready ready tag .panic rfl]; rfl
  have whole := (tail.freed.trans freed).congr fun b => Bool.or_false _
  have ends := (abort _ (notices s ⟨rfl, rfl, rfl⟩)).1
  have only := tail.only.trans only
  obtain ⟨h, engine⟩ := engine
  have idle : ({ ((s.setMute .panic true everyOutput).panicQueue.panicTail.abortMeasure).engine.rest with queue := [] } :
      Engine) = { s.engine with
        state := .idle, queue := [], current := none, fadeFrame := 0, fadeLength := 0,
        holdOffs := ((s.setMute .panic true everyOutput).panicQueue.panicTail.abortMeasure).engine.holdOffs,
        history := ((s.setMute .panic true everyOutput).panicQueue.panicTail.abortMeasure).engine.history } := by
    rw [engine]
    unfold Engine.rest
    dsimp only
    rw [queue, tail.settings, tail.rates]
    rfl
  refine ⟨_, run, ?_⟩
  rw [State.panic_eq, idle]
  refine ⟨fun o => ?_, fun b => ?_, ?_, fun k => ?_, ?_, ?_, fun current => ?_, ?_, ?_⟩
  · rw [State.replied_mains, State.setEngine_mains, mains, tail.mains, State.setMute_mains, muteOutputs_get]
    cases o <;> rfl
  · rw [State.replied_buffers, State.setEngine_buffers, whole.1]
    by_cases kept : (s.buffers.get b).role = .active ∨ (s.buffers.get b).role = .free
    · rcases kept with r | r <;> simp [r]
    · obtain ⟨notActive, notFree⟩ := not_or.mp kept
      simp [notActive, notFree]
  · rw [State.replied_loops, State.setEngine_loops, loops, tail.loops]; rfl
  · rw [State.replied_curves, State.setEngine_curves]
    refine (whole.2.1 k).trans ?_
    exact congrArg (fun f : BufferId → Nat => ({ s.curves.getD k .absent with
      refs := (s.curves.getD k .absent).refs - (bufferIds.map f).sum } : CurveEntry))
      (funext fun b => Buffer.uses_freed (coherent.2.1 b) k)
  · rw [State.replied_curves, State.setEngine_curves, whole.2.2]; rfl
  · rw [State.replied_notices, State.setEngine_notices, ← ends]
    unfold State.abortEnd
    rw [tail.loops]
    rfl
  · exact (holdOffs (tail.holdOffsCurrent current)).trans (by rw [tail.holdOffs]; rfl)
  · rw [State.replied_engine, State.setEngine_engine]
    dsimp only
    rw [engine]
    dsimp only
    rw [history]
    exact panicHistory_eq s.engine
  · unfold State.PanicOnly at only
    rw [only]
    rfl

end Sys2Proof.Machine
end

section
/-! PROOFS. TEMPO_SET, TEMPO_LOCK and TAP (R122 to R132). -/
namespace Sys2Proof.Machine

/-! ## TEMPO_SET and TEMPO_LOCK -/

theorem clampTempo_eq (tempo : Nat) : clampTempo tempo = max 400 (min 3000 tempo) := clampNat_eq tempo (by decide)

theorem beatPeriod_eq (tempo : Nat) : beatPeriod tempo = (57600000 + tempo) / (2 * tempo) := rfl

/-- R122, R126: a tempo change in one update. -/
theorem Tempo.change_eq (t : Tempo) (floor tempo : Nat) (source : TempoSource) :
    t.change floor tempo source =
      (let v := max 400 (min 3000 tempo)
       let period := (57600000 + v) / (2 * v)
       let candidate := (t.lastBeat + period) % 137438953472
       { t with tempo := v, period := period, source := source,
                nextBeat := if period = t.period then t.nextBeat
                  else if 68719476736 ≤ (candidate + (137438953472 - floor % 137438953472)) % 137438953472 then floor
                  else candidate }) := by
  unfold Tempo.change Tempo.hold
  rw [clampTempo_eq, beatPeriod_eq]
  dsimp only
  by_cases same : (57600000 + max 400 (min 3000 tempo)) / (2 * max 400 (min 3000 tempo)) = t.period
  · rw [if_pos same, if_pos same]
  · rw [if_neg same, if_neg same]
    unfold sampleBefore
    simp only [decide_eq_true_eq]
    rfl

/-- Settles O42: the tempo change of TEMPO_SET, and the lock. -/
theorem tempoSetMovesTheNextBeat : Obligations.TempoSetMovesTheNextBeat := by
  unfold Obligations.TempoSetMovesTheNextBeat
  intro s tag tempo value ready
  rw [exec_of_ready ready tag (.tempoSet tempo) rfl, exec_of_ready ready tag (.tempoLock value) rfl]
  refine ⟨?_, ?_⟩
  · have floor : s.nextFrameTime % 137438953472 = s.nextFrameTime := Nat.mod_mod _ _
    simp only [perform, reqTempoSet, State.changeTempo, Tempo.change_eq, floor, okOr_bne, clampTempo_eq]
    rfl
  · simp only [perform, reqTempoLock]
    match value with
    | 0 => rfl
    | 1 => rfl
    | n + 2 => rw [if_neg (by omega)]; rfl

/-! ## TAP -/

/-- R130: the newest tap of a list just added to is the tap. -/
theorem addTap_getLast (taps : List Nat) (t : Nat) : (addTap taps t).getLast?.getD 0 = t := by
  unfold addTap
  rw [List.getLast?_drop, if_neg (by simp)]
  simp

/-- R130, R131: a tap by its distance from the newest. -/
theorem Tempo.tap_eq (c : Tempo) (t : Nat) :
    c.tap t = match c.taps.getLast? with
      | none => { c with taps := [t] }
      | some newest =>
        if sampleDiff t newest < 9600 then c
        else if 96000 < sampleDiff t newest then { c with taps := [t] }
        else { c.hold (roundDiv 28800000 (sampleDiff t ((addTap c.taps t).headD 0) / ((addTap c.taps t).length - 1))) .tap with
          taps := addTap c.taps t, nextBeat := t, beatCounter := 3 } := by
  unfold Tempo.tap tapOutcome
  cases c.taps.getLast? with
  | none => rfl
  | some newest =>
    dsimp only
    by_cases soon : sampleDiff t newest < 9600
    · rw [if_pos soon, if_pos soon]
    · rw [if_neg soon, if_neg soon]
      by_cases late : 96000 < sampleDiff t newest
      · rw [if_pos late, if_pos late]
      · rw [if_neg late, if_neg late]
        unfold tapInterval
        dsimp only
        rw [addTap_getLast, List.headD_eq_head?_getD]

/-- R130: the outcome of a tap as a reply carries it. -/
theorem tapOutcome_code (taps : List Nat) (t : Nat) :
    (tapOutcome taps t).code = match taps.getLast? with
      | none => 0
      | some newest => if sampleDiff t newest < 9600 then 1 else if 96000 < sampleDiff t newest then 0 else 2 := by
  unfold tapOutcome
  cases taps.getLast? with
  | none => rfl
  | some newest => dsimp only; split_ifs <;> rfl

/-- Settles O43: a tap with none before it, and one soon, late, or in time. -/
theorem tapSetsTempoAndAnchorsTheBeat : Obligations.TapSetsTempoAndAnchorsTheBeat := by
  unfold Obligations.TapSetsTempoAndAnchorsTheBeat
  intro s tag ready
  rw [exec_of_ready ready tag .tap rfl]
  simp only [perform, reqTap, State.takeTap, Tempo.tap_eq, tapOutcome_code]
  have time : s.tapTime = 32 * (s.frameCounter + (s.frameOpen || s.frameEnded).toNat + s.tempo.beatTaken.toNat) % 137438953472 := rfl
  rw [← time]
  cases s.tempo.taps.getLast? with
  | none => rfl
  | some newest =>
    dsimp only
    by_cases soon : sampleDiff s.tapTime newest < 9600
    · simp only [if_pos soon]
      exact (if_pos soon).mpr rfl
    · simp only [if_neg soon]
      refine (if_neg soon).mpr ?_
      by_cases late : 96000 < sampleDiff s.tapTime newest
      · simp only [if_pos late]
        exact (if_pos late).mpr rfl
      · simp only [if_neg late]
        refine (if_neg late).mpr ?_
        unfold Tempo.hold
        rw [clampTempo_eq]
        rfl

end Sys2Proof.Machine
end

section
/-! PROOFS. What a frame's end changes, and BEAT_EVENT (R109 to R111, R125). -/
namespace Sys2Proof.Machine

/-! ## Events of a frame's end -/

/-- R5, log 2: an event of a frame's end: the end of the open frame and the event where it is due, else nothing. -/
theorem State.atFrameEnd_eq {s : State} (running : s.power = .running) (due : State → Bool) (event : State → State) :
    s.ifRunning (fun s => s.atFrameEnd due event) =
      if (s.frameOpen && due s.endFrame) = true then event s.endFrame else s := by
  rw [State.ifRunning_eq running]
  rfl

/-- R8: CLIP is rendered nowhere. -/
theorem State.postClip_only (s : State) (o : Out) :
    s.postClip o = { s with notices := (s.postClip o).notices, meters := (s.postClip o).meters } := by
  unfold State.postClip
  dsimp only
  split
  · rw [State.post_unrendered s (fun _ _ _ => rfl)]
  · rfl

theorem State.foldl_postClip_only (outs : List Out) (s : State) :
    outs.foldl State.postClip s = { s with
      notices := (outs.foldl State.postClip s).notices, meters := (outs.foldl State.postClip s).meters } := by
  induction outs generalizing s with
  | nil => rfl
  | cons o rest ih => rw [List.foldl_cons, ih, State.postClip_only s]

/-- R115, R7: a buffer as a frame ends. -/
def Buffer.frameEnd (x : Buffer) : Buffer := { x.settle with context := x.settle.context.map Context.settle }

/-- R5: what the blocks count as a frame ends, the meters and the notice queue left open. -/
theorem State.settleFrame_only (s : State) :
    s.settleFrame = { s with
      buffers := s.buffers.map Buffer.frameEnd, loops := s.loops.settle, tuner := s.tuner.collect,
      pedals := { a := s.pedals.a.settle, b := s.pedals.b.settle }, sat := s.sat.settle,
      mains := s.mains.map MuteStage.settle, notices := s.settleFrame.notices, meters := s.settleFrame.meters } := by
  unfold State.settleFrame State.settleOutputs
  rw [State.foldl_postClip_only]
  rfl

theorem State.endFrame_frameOpen (s : State) : s.endFrame.frameOpen = s.frameOpen := by
  unfold State.endFrame
  split
  · rw [State.settleFrame_only]
  · rfl

/-! ## BEAT_EVENT -/

theorem State.proceed_eq (s : State) (cur : CurrentSwitch) :
    s.proceed cur = match s.withRole .spill, s.withRole .cutting with
      | b :: _, _ => (s.startCut b).enterCutting
      | [], _ :: _ => s.enterCutting
      | [], [] => s.activate cur := by
  unfold State.proceed
  cases s.withRole .spill with
  | cons b rest => rfl
  | nil => cases s.withRole .cutting <;> rfl

/-- R109: a beat passes an engine that is not ARMED by. -/
theorem State.engineBeat_idle {s : State} (idle : s.engine.state ≠ .armed) (bar : Bool) : s.engineBeat bar = s := by
  unfold State.engineBeat
  split
  · next armed _ => exact absurd armed idle
  · rfl

theorem State.engineBeat_armed {s : State} {cur : CurrentSwitch} {c : Context} (armed : s.engine.state = .armed)
    (current : s.engine.current = some cur) (context : (s.buffers.get cur.buffer).context = some c) (bar : Bool) :
    s.engineBeat bar = if c.header.quantize = .bar ∧ bar = false then s else s.proceed cur := by
  unfold State.engineBeat
  rw [armed, current]
  dsimp only
  rw [context]

theorem State.presetTempo_beatCounter (s : State) (tempo : Option Nat) :
    (s.presetTempo tempo).tempo.beatCounter = s.tempo.beatCounter := by
  unfold State.presetTempo
  cases tempo with
  | none => rfl
  | some t =>
    dsimp only
    split
    · rfl
    · unfold State.changeTempo
      rw [Tempo.change_eq]

theorem State.tempo_of_base {s t : State} (h : s.base = t.base) : s.tempo = t.tempo := by
  obtain ⟨-, -, -, -, -, -, -, -, -, -, -, -, tempo, -⟩ := (State.base_eq_iff s t).mp h
  exact tempo

/-- R126: an activation takes a preset tempo, and leaves the beat counter. -/
theorem State.activate_beatCounter (s : State) (cur : CurrentSwitch) :
    (s.activate cur).tempo.beatCounter = s.tempo.beatCounter := by
  unfold State.activate
  cases (s.buffers.get cur.buffer).context with
  | none => rfl
  | some c₀ =>
    dsimp only
    generalize edited : State.editHistory _ _ = v
    have tempo : v.tempo = s.tempo := by
      rw [← edited]
      exact State.tempo_of_base ((State.editHistory_base _ _).trans rfl)
    cases (v.buffers.get cur.buffer).context with
    | none => exact congrArg Tempo.beatCounter tempo
    | some c =>
      dsimp only
      rw [State.post_tempo]
      refine (State.presetTempo_beatCounter _ _).trans ?_
      have applied := State.tempo_of_base (v.applyScene_base cur.buffer c (c₀.chooseScene cur.request.scene).1
        (c.sceneRecord (c₀.chooseScene cur.request.scene).1))
      exact congrArg Tempo.beatCounter (applied.trans tempo)

/-- Settles O44: the beat that is not due, one that finds no ARMED engine, and one that an ARMED engine waits for. -/
theorem beatFallsInItsFrame : Obligations.BeatFallsInItsFrame := by
  unfold Obligations.BeatFallsInItsFrame
  intro s running u due n v
  have run : exec .beatEvent s =
      .next (if (s.frameOpen && State.beatDue s.endFrame) = true then State.beatEvent s.endFrame else s) :=
    congrArg _ (State.atFrameEnd_eq running _ _)
  have isDue : (s.frameOpen && State.beatDue s.endFrame) = true ↔ due := by
    rw [Bool.and_eq_true, ← State.endFrame_frameOpen]
    refine and_congr_right fun _ => ?_
    unfold State.beatDue Tempo.beatIn sampleDiff sampleTime sampleModulus
    rw [decide_eq_true_iff, Nat.mod_mod]
  rw [run]
  have event : State.beatEvent s.endFrame = (v.engineBeat (n == 0)).post
    (.beat (v.engineBeat (n == 0)).tempo.beatCounter (v.engineBeat (n == 0)).tempo.tempo (v.engineBeat (n == 0)).tempo.source) := rfl
  rw [event]
  refine ⟨fun no => ?_, fun yes idle => ?_, fun cur c yes armed current context => ?_⟩
  · rw [if_neg (fun h => no (isDue.mp h))]
  · rw [if_pos (isDue.mpr yes), State.engineBeat_idle (s := v) idle]
  · rw [if_pos (isDue.mpr yes), State.engineBeat_armed (s := v) armed current context]
    refine ⟨fun bar off => ?_, fun on => ?_⟩
    · rw [if_pos ⟨bar, by simpa using off⟩]
    · rw [if_neg (by rcases on with on | ⟨-, zero⟩ <;> simp_all), State.proceed_eq]
      have spill : v.withRole .spill = u.withRole .spill := rfl
      have cutting : v.withRole .cutting = u.withRole .cutting := rfl
      rw [spill, cutting]
      cases u.withRole .spill with
      | cons b rest => rfl
      | nil =>
        cases u.withRole .cutting with
        | cons b rest => rfl
        | nil =>
          dsimp only
          rw [State.activate_beatCounter v cur]

/-! ## CUT_COMPLETE, SPILL_QUIET_END, SPILL_LIMIT_REACHED and RATE_WINDOW_EXPIRY -/

end Sys2Proof.Machine
end

section
/-! PROOFS. CUT_COMPLETE, SPILL_QUIET_END, SPILL_LIMIT_REACHED, RATE_WINDOW_EXPIRY and CROSSFADE_COMPLETE (R103, R110, R113, R115). -/
namespace Sys2Proof.Machine

/-! ## CUT_COMPLETE, SPILL_QUIET_END, SPILL_LIMIT_REACHED and RATE_WINDOW_EXPIRY -/

theorem State.withRole_filter (s : State) (r : Role) (p : BufferId → Bool) :
    (s.withRole r).filter p = bufferIds.filter (fun b => (s.buffers.get b).role == r && p b) := by
  rw [State.withRole, List.filter_filter]
  exact List.filter_congr fun b _ => Bool.and_comm _ _

/-- R110, R115: a buffer that is gone lets the crossfade that waited for it start. -/
theorem State.freeBuffer_resume (u : State) (b : BufferId) :
    (u.freeBuffer b).resumeCutting = (match u.engine.state, u.engine.current with
      | .cutting, some cur => (u.freeBuffer b).activate cur
      | _, _ => u.freeBuffer b) := rfl

/-- An event of a frame's end that takes the first of the buffers it is due for. -/
theorem State.atFrameEnd_first {s : State} (running : s.power = .running) {due : State → List BufferId} {event : State → State}
    {first : State → BufferId → State}
    (h : ∀ t, event t = (match due t with | [] => t | b :: _ => first t b)) :
    s.ifRunning (fun s => s.atFrameEnd (fun t => !(due t).isEmpty) event) =
      (match (if s.frameOpen then due s.endFrame else []) with
        | [] => s
        | b :: _ => first s.endFrame b) := by
  rw [State.atFrameEnd_eq running]
  cases s.frameOpen with
  | false => rfl
  | true =>
    rw [h, if_pos rfl]
    cases due s.endFrame <;> rfl

theorem State.limitBuffers_eq (u : State) :
    u.limitBuffers = bufferIds.filter (fun b => (u.buffers.get b).role == .spill &&
      decide ((u.buffers.get b).quietCount < 32) &&
      (match (u.buffers.get b).context with
       | none => false
       | some c => decide ((c.header.spillLimit * 3 + 1) / 2 ≤ (u.buffers.get b).spillFrames))) := by
  rw [State.limitBuffers, State.withRole_filter]
  refine List.filter_congr fun b _ => ?_
  have notQuiet : (!(u.buffers.get b).quiet) = decide ((u.buffers.get b).quietCount < 32) := by
    unfold Buffer.quiet Config.quietFrames
    rw [← decide_not]
    exact decide_eq_decide.mpr Nat.not_le
  rw [notQuiet, Bool.and_comm (Buffer.atLimit _), Bool.and_assoc]
  rfl

/-- Settles O41: the buffers each event is due for, and the rate rules. -/
theorem cutsSpillsAndRateEndWhenDue : Obligations.CutsSpillsAndRateEndWhenDue := by
  unfold Obligations.CutsSpillsAndRateEndWhenDue
  intro s running u due cut quiet limit frees
  refine ⟨?_, ?_, ?_, fun mid => ?_⟩
  · refine congrArg Host.Outcome.next ((State.atFrameEnd_first (due := State.cutBuffers)
      (first := fun t b => (t.freeBuffer b).resumeCutting) running fun t => rfl).trans ?_)
    rw [State.cutBuffers, State.withRole_filter]
    rfl
  · refine congrArg Host.Outcome.next ((State.atFrameEnd_first (due := State.quietBuffers)
      (first := fun t b => (t.freeBuffer b).resumeCutting) running fun t => rfl).trans ?_)
    rw [State.quietBuffers, State.withRole_filter]
    rfl
  · have run : exec .spillLimitReached s = _ := congrArg Host.Outcome.next
      (State.atFrameEnd_first (due := State.limitBuffers) (event := State.limitEvent)
        (first := fun t b => t.startCut b) running fun t => rfl)
    have list : (if s.frameOpen then u.limitBuffers else []) = limit :=
      congrArg (fun bs => if s.frameOpen then bs else []) u.limitBuffers_eq
    rw [run, list]
    cases limit with
    | nil => rfl
    | cons b rest => rfl
  · have run : exec .rateWindowExpiry s = .next (s.ifDue State.rateDue State.rateExpiry) :=
      congrArg _ (State.inFrame_eq running mid _)
    rw [run]
    unfold State.ifDue State.rateDue
    cases s.engine.holdOffs.rate <;> cases s.engine.rateBroken s.frameCounter <;> rfl

/-! ## CROSSFADE_COMPLETE -/

/-- R113: what the end of a crossfade makes of an OUTGOING buffer with its context. -/
def Buffer.ended (x : Buffer) (c : Context) : Buffer :=
  if c.header.policy = .spill ∧ 0 < c.header.spillLimit then
    { x with role := .spill, spillFrames := 0, quietCount := 0, rowPeak := none }
  else Buffer.free

/-- R113: what it gives back of a curve. -/
def Context.returned (c : Context) (k : Nat) : Nat :=
  if c.header.policy = .spill ∧ 0 < c.header.spillLimit then 0 else c.curveUses k

/-- R113: the end of an OUTGOING buffer. -/
theorem State.endOutgoing_eq {s : State} {b : BufferId} {c : Context} (context : (s.buffers.get b).context = some c) :
    ∃ cs, s.endOutgoing b = { s with buffers := s.buffers.set b ((s.buffers.get b).ended c), curves := cs } ∧
      cs.length = s.curves.length ∧
      ∀ k, cs.getD k .absent = { s.curves.getD k .absent with refs := (s.curves.getD k .absent).refs - c.returned k } := by
  unfold State.endOutgoing Buffer.ended Context.returned
  rw [context]
  dsimp only
  by_cases spill : c.header.policy = .spill ∧ 0 < c.header.spillLimit
  · simp only [if_pos spill]
    exact ⟨s.curves, by rw [← context]; rfl, rfl, fun k => rfl⟩
  · simp only [if_neg spill]
    refine ⟨moveRefs s.curves false c, ?_, by simp [moveRefs], moveRefs_getD s.curves c⟩
    unfold State.freeBuffer
    rw [context]

/-- R113: what the end of a crossfade makes of a buffer. -/
def Buffer.afterFade (x : Buffer) : Buffer :=
  match x.role, x.context with
  | .outgoing, some c => x.ended c
  | _, _ => x

/-- R113: what a buffer gives back of a curve at the end of a crossfade. -/
def Buffer.fadeReturns (x : Buffer) (k : Nat) : Nat :=
  match x.role, x.context with
  | .outgoing, some c => c.returned k
  | _, _ => 0

theorem Buffer.fade_other {x : Buffer} (other : x.role ≠ .outgoing) (k : Nat) : x.afterFade = x ∧ x.fadeReturns k = 0 := by
  unfold Buffer.afterFade Buffer.fadeReturns
  cases role : x.role
  case outgoing => exact absurd role other
  all_goals exact ⟨rfl, rfl⟩

theorem Buffer.fade_outgoing {x : Buffer} {c : Context} (role : x.role = .outgoing) (context : x.context = some c) (k : Nat) :
    x.afterFade = x.ended c ∧ x.fadeReturns k = c.returned k := by
  unfold Buffer.afterFade Buffer.fadeReturns
  rw [role, context]
  exact ⟨rfl, rfl⟩

/-- R91, R113: at most one buffer is OUTGOING, and it ends as its policy says. -/
theorem State.endOutgoing_all {s : State} (holds : ∀ b, (s.buffers.get b).role = .free ↔ (s.buffers.get b).context = none)
    (one : s.rolesIn (fun r => r == .outgoing) ≤ 1) :
    ∃ bs cs, (s.withRole .outgoing).foldl State.endOutgoing s = { s with buffers := bs, curves := cs } ∧
      (∀ b, bs.get b = (s.buffers.get b).afterFade) ∧ cs.length = s.curves.length ∧
      ∀ k, cs.getD k .absent = { s.curves.getD k .absent with
        refs := (s.curves.getD k .absent).refs - (bufferIds.map (fun b => (s.buffers.get b).fadeReturns k)).sum } := by
  rw [← State.withRole_length] at one
  have outgoing (b : BufferId) : (s.buffers.get b).role = .outgoing ↔ b ∈ s.withRole .outgoing := State.mem_withRole.symm
  cases list : s.withRole .outgoing with
  | nil =>
    have other (b : BufferId) : (s.buffers.get b).role ≠ .outgoing := by rw [Ne, outgoing, list]; simp
    refine ⟨s.buffers, s.curves, rfl, fun b => (Buffer.fade_other (other b) 0).1.symm, rfl, fun k => ?_⟩
    simp [bufferIds, (Buffer.fade_other (other _) k).2]
  | cons b rest =>
    obtain rfl : rest = [] := by
      rw [list] at one
      exact List.length_eq_zero_iff.mp (by simpa using one)
    have role : (s.buffers.get b).role = .outgoing := (outgoing b).mpr (by rw [list]; simp)
    have other (k : BufferId) (ne : k ≠ b) : (s.buffers.get k).role ≠ .outgoing := by rw [Ne, outgoing, list]; simpa using ne
    obtain ⟨c, context⟩ := Option.ne_none_iff_exists'.mp (fun none => by rw [(holds b).mpr none] at role; cases role)
    obtain ⟨cs, ended, length, refs⟩ := State.endOutgoing_eq context
    refine ⟨_, cs, ended, fun k => ?_, length, fun k => ?_⟩
    · by_cases same : b = k
      · subst same
        rw [PerBuffer.get_set, (Buffer.fade_outgoing role context 0).1]
      · rw [PerBuffer.get_set_ne _ _ same, (Buffer.fade_other (other k (Ne.symm same)) 0).1]
    · have sum : (bufferIds.map (fun b => (s.buffers.get b).fadeReturns k)).sum = c.returned k := by
        have here := (Buffer.fade_outgoing role context k).2
        have there (n : BufferId) (ne : n ≠ b) := (Buffer.fade_other (other n ne) k).2
        cases b <;> simp [bufferIds, here, there]
      rw [refs, sum]

/-- R105, R113: with nothing queued the engine rests IDLE. -/
theorem State.restEngine_idle {s : State} (queue : s.engine.queue = []) :
    s.restEngine = s.setEngine { s.engine with state := .idle, current := none, queue := [], fadeFrame := 0, fadeLength := 0 } := by
  have rest : s.engine.rest = { s.engine with state := .idle, current := none, queue := [], fadeFrame := 0, fadeLength := 0 } := by
    unfold Engine.rest
    rw [queue]
    rfl
  unfold State.restEngine
  rw [State.headTest_empty (s := s.setEngine s.engine.rest) queue, rest]

/-- R113: START and PANIC out of every mute set. -/
def unmuted (mains : PerMain MuteStage) : PerMain MuteStage :=
  muteOutputs (muteOutputs mains .start false everyOutput) .panic false everyOutput

/-- R113: the end of a crossfade in one update, the notices left to SWITCH_DONE. -/
theorem State.fadeDone_eq {u : State} {cur : CurrentSwitch} {c : Context} {bs : PerBuffer Buffer} {cs : List CurveEntry}
    (ended : (u.withRole .outgoing).foldl State.endOutgoing u = { u with buffers := bs, curves := cs })
    (context : (bs.get cur.buffer).context = some c) (queue : u.engine.queue = []) :
    u.fadeDone cur = ((({ u with
        buffers := bs, curves := cs, mains := unmuted u.mains,
        engine := { u.engine with history := u.engine.history.modifyHead (fun h => { h with status := cur.status }) } } :
          State)).doneRequest cur.request cur.sceneApplied cur.status cur.buffer
        (frameDiff (match u.engine.history.head? with | some h => h.activation.getD h.arrival | none => u.frameCounter)
          cur.request.arrival) c).setEngine
      { u.engine with
        state := .idle, current := none, queue := [], fadeFrame := 0, fadeLength := 0,
        history := u.engine.history.modifyHead (fun h => { h with status := cur.status }) } := by
  unfold State.fadeDone
  rw [ended]
  dsimp only
  rw [State.restEngine_idle]
  · unfold State.endSwitch
    simp only [State.setMute_buffers, context]
    rw [State.doneRequest_engine, State.editHistory_engine]
    rfl
  · obtain ⟨-, h, engine⟩ := State.endSwitch_only ((({ u with buffers := bs, curves := cs } : State).setMute .start false
      everyOutput).setMute .panic false everyOutput) cur cur.status
    exact (congrArg Engine.queue engine).trans queue

/-- Settles O40: nothing where no crossfade has run its length; else the OUTGOING buffer, the mutes, the notice and the engine. -/
theorem crossfadeCompletesIntoSpillOrFree : Obligations.CrossfadeCompletesIntoSpillOrFree := by
  unfold Obligations.CrossfadeCompletesIntoSpillOrFree
  intro s running u
  have run : exec .crossfadeComplete s =
      .next (if (s.frameOpen && State.fadeDue s.endFrame) = true then State.fadeEvent s.endFrame else s) :=
    congrArg _ (State.atFrameEnd_eq running _ _)
  refine ⟨fun no => ?_, fun cur c opened coherent fading current context long single queue => ?_⟩
  · have notDue : (s.frameOpen && State.fadeDue s.endFrame) = false := by
      unfold State.fadeDue
      rcases no with closed | other | short
      · simp [closed]
      · have : (s.endFrame.engine.state == .crossfading) = false := by simpa using other
        simp [this]
      · have : decide (s.endFrame.engine.fadeLength ≤ s.endFrame.engine.fadeFrame) = false := by simpa using short
        simp [this]
    rw [run, notDue, if_neg Bool.false_ne_true]
  · intro activated latency none'
    have due : (s.frameOpen && State.fadeDue s.endFrame) = true := by
      have state : s.endFrame.engine.state = .crossfading := fading
      have under : s.endFrame.engine.current = some cur := current
      have length : s.endFrame.engine.fadeLength ≤ s.endFrame.engine.fadeFrame := long
      simp [State.fadeDue, opened, state, under, length]
    have event : State.fadeEvent s.endFrame = u.fadeDone cur := by
      have under : s.endFrame.engine.current = some cur := current
      unfold State.fadeEvent
      rw [under]
    have role : (u.buffers.get cur.buffer).role = .active := by
      have law := coherent.2.2.2.2.1 cur current
      rw [fading] at law
      exact (Option.some.inj law).symm
    obtain ⟨bs, cs, ended, buffers, length, refs⟩ :=
      State.endOutgoing_all coherent.2.1 (State.outgoing_le_one coherent fading current)
    rw [run, due, if_pos rfl, event]
    have kept : (bs.get cur.buffer).context = some c := by
      rw [buffers, (Buffer.fade_other (by rw [role]; decide) 0).1, context]
    rw [State.fadeDone_eq ended kept queue, State.doneRequest_only]
    refine ⟨_, rfl, buffers, fun o => ?_, ?_, ?_, refs, length, rfl⟩
    · cases o <;> rfl
    · cases u.engine.history <;> simp [State.setEngine]
    · have same : u.SameNotices { u with
          buffers := bs, curves := cs, mains := unmuted u.mains,
          engine := { u.engine with history := u.engine.history.modifyHead (fun h => { h with status := cur.status }) } } :=
        ⟨rfl, rfl, rfl⟩
      refine (same.doneRequest cur.request cur.sceneApplied cur.status cur.buffer latency c).1.trans ?_
      unfold State.doneRequest
      rw [single]
      rfl

end Sys2Proof.Machine
end

section
/-! PROOFS. The engage set and TUNER (R136 to R138, R149). -/
namespace Sys2Proof.Machine

/-! ## The engage set -/

/-- R136 to R138: the Tuner with another engage set, its window and both runs cleared. -/
def Tuner.restarted (t : Tuner) (e : EngageSet) : Tuner :=
  { t with engage := e, window := [], count := 0, block := none, estimateDue := false, run := [], weak := 0 }

/-- R137, R139: the TUNER source in the mute sets of the outputs of policy MUTE. -/
def State.tunerMuted (s : State) : PerMain MuteStage := muteOutputs s.mains .tuner true s.tuner.mutes

theorem State.tunerMuted_get (s : State) (o : MainOut) :
    s.tunerMuted.get o = if s.tuner.policies.get o = .mute then
      { (s.mains.get o) with sources := { (s.mains.get o).sources with tuner := true } } else s.mains.get o := by
  rw [State.tunerMuted, muteOutputs_get, Tuner.mutes_get]
  by_cases mute : s.tuner.policies.get o = .mute
  · rw [if_pos mute, if_pos (by simpa using mute)]; rfl
  · rw [if_neg mute, if_neg (by simpa using mute)]

/-- R138: the TUNER source out of every mute set. -/
def State.tunerUnmuted (s : State) : PerMain MuteStage := muteOutputs s.mains .tuner false everyOutput

theorem State.tunerUnmuted_get (s : State) (o : MainOut) :
    s.tunerUnmuted.get o = { (s.mains.get o) with sources := { (s.mains.get o).sources with tuner := false } } := by
  rw [State.tunerUnmuted, muteOutputs_get]
  cases o <;> rfl

/-- R137: an engage, where the hold-off set is current. -/
theorem State.setEngage_on {s : State} (current : s.holdOffsCurrent) {e : EngageSet} (new : s.tuner.engage ≠ e)
    (off : s.tuner.engage.isEmpty = true) :
    s.setEngage e = ({ s with
      mains := s.tunerMuted, tuner := { s.tuner.restarted e with state := .listening },
      engine := { s.engine with holdOffs := { s.engine.holdOffs with tuner := s.engine.settings.tunerHold } } } :
        State).post (.tunerState .listening e s.selected s.tuner.last) := by
  have held := congrArg (fun h : HoldOffs => { h with tuner := s.engine.settings.tunerHold }) (State.holdOffsNow_eq current)
  unfold State.setEngage
  dsimp only
  rw [if_neg new, if_pos off]
  unfold State.engageTuner State.syncHoldOffs
  dsimp only
  rw [show State.holdOffsNow _ = ({ s.engine.holdOffs with tuner := s.engine.settings.tunerHold } : HoldOffs) from held]
  rfl

/-- R138: what a disengage leaves before the head of the queue is tested. -/
def State.disengaged (s : State) (e : EngageSet) : State :=
  { s with
    mains := s.tunerUnmuted, tuner := { s.tuner.restarted e with state := .off, last := none },
    notices := { s.notices with queue := s.notices.queue.filter (fun n => !n.isReading) },
    engine := { s.engine with holdOffs := { s.engine.holdOffs with tuner := false } } }

theorem State.tuner_of_base {s t : State} (h : s.base = t.base) : s.tuner = t.tuner ∧ s.selected = t.selected := by
  obtain ⟨-, -, -, -, -, -, -, -, selected, -, -, -, -, tuner, -⟩ := (State.base_eq_iff s t).mp h
  exact ⟨tuner, selected⟩

/-- R138: a disengage, where the hold-off set is current. -/
theorem State.setEngage_off {s : State} (current : s.holdOffsCurrent) {e : EngageSet} (new : s.tuner.engage ≠ e)
    (on : ¬ s.tuner.engage.isEmpty = true) (empty : e.isEmpty = true) :
    s.setEngage e = (if s.engine.holdOffs.tuner then (s.disengaged e).headTest else s.disengaged e).post
      (.tunerState .off e s.selected none) := by
  have held := congrArg (fun h : HoldOffs => { h with tuner := false }) (State.holdOffsNow_eq current)
  unfold State.setEngage
  dsimp only
  rw [if_neg new, if_neg on, if_pos empty]
  unfold State.disengageTuner State.syncTest State.syncHoldOffs
  dsimp only
  rw [withdrawReadings_eq, show State.holdOffsNow _ = ({ s.engine.holdOffs with tuner := false } : HoldOffs) from held]
  have lost : s.engine.holdOffs.lost { s.engine.holdOffs with tuner := false } = s.engine.holdOffs.tuner := by
    simp [HoldOffs.lost]
  refine Eq.trans (congrArg (fun b : Bool => (if b then (s.disengaged e).headTest else s.disengaged e).postTunerState) lost) ?_
  unfold State.postTunerState
  cases s.engine.holdOffs.tuner with
  | false => rfl
  | true =>
    obtain ⟨tuner, selected⟩ := State.tuner_of_base (s.disengaged e).headTest_base
    rw [if_pos rfl, tuner, selected]
    rfl

/-- R136: a change between sets that are not empty. -/
theorem State.setEngage_change {s : State} {e : EngageSet} (new : s.tuner.engage ≠ e)
    (on : ¬ s.tuner.engage.isEmpty = true) (still : ¬ e.isEmpty = true) :
    s.setEngage e = ({ s with tuner := { s.tuner with engage := e } } : State).post
      (.tunerState s.tuner.state e s.selected s.tuner.last) := by
  unfold State.setEngage
  dsimp only
  rw [if_neg new, if_neg on, if_neg still]
  rfl

/-- R136: the set held changes nothing. -/
theorem State.setEngage_same {s : State} {e : EngageSet} (same : s.tuner.engage = e) : s.setEngage e = s := if_pos same

/-! ## TUNER -/

/-- R149: the engage set of an action. -/
def engageSetOf (old : EngageSet) : Nat → EngageSet
  | 0 => { old with host := true }
  | 1 => { old with host := false }
  | _ => { host := false, pedalA := false, pedalB := false }

theorem engageFor_eq (old : EngageSet) (action : Nat) :
    engageFor old action = if 2 < action then none else some (engageSetOf old action) := by
  match action with
  | 0 | 1 | 2 => rfl
  | n + 3 => rw [if_pos (by omega)]; rfl

theorem EngageSet.mask_empty {e : EngageSet} (empty : e.isEmpty = true) : e.mask = 0 := by
  rw [EngageSet.isEmpty_eq empty]; rfl

/-- Settles O45: the same set, an engage, a disengage, and a change between sets that are not empty. -/
theorem tunerEngagesAndDisengages : Obligations.TunerEngagesAndDisengages := by
  unfold Obligations.TunerEngagesAndDisengages
  intro s tag action ready current old new mask cleared
  have isNew : new = engageSetOf old action := rfl
  have isMask : mask = new.mask := rfl
  have run : exec (.tuner tag action) s =
      .next (if 2 < action then s.replied tag 0x1F .outOfRange []
        else (s.setEngage new).replied tag 0x1F .ok
          [.u 1 (s.setEngage new).tuner.engage.mask, .u 1 (s.setEngage new).tuner.state.code]) := by
    rw [exec_of_ready ready tag (.tuner action) rfl, isNew]
    simp only [perform, reqTuner, engageFor_eq]
    split_ifs <;> rfl
  rw [run]
  clear_value new mask
  by_cases outside : 2 < action
  · rw [if_pos outside, if_pos outside]
  · rw [if_neg outside, if_neg outside]
    by_cases same : old = new
    · rw [if_pos same, State.setEngage_same same, isMask, ← same]
    · rw [if_neg same]
      by_cases off : old.isEmpty = true
      · rw [if_pos off, State.setEngage_on current same off, State.post_tuner, isMask]
        exact ⟨_, s.tunerMuted_get, rfl⟩
      · rw [if_neg off]
        by_cases empty : new.isEmpty = true
        · rw [if_pos empty, State.setEngage_off current same off empty, State.post_tuner]
          refine ⟨_, s.tunerUnmuted_get, ?_⟩
          have tuner : (if s.engine.holdOffs.tuner then (s.disengaged new).headTest else s.disengaged new).tuner =
              (s.disengaged new).tuner := by
            split
            · exact (State.tuner_of_base (s.disengaged new).headTest_base).1
            · rfl
          rw [tuner, show (s.disengaged new).tuner.engage.mask = 0 from EngageSet.mask_empty empty]
          rfl
        · rw [if_neg empty, State.setEngage_change same off empty, State.post_tuner, isMask]

end Sys2Proof.Machine
end

section
/-! PROOFS. TUNER_PROFILE and TUNER_SETUP (R147, R150, R151). -/
namespace Sys2Proof.Machine

/-! ## TUNER_PROFILE -/

theorem okOr_bne_two {α β : Type} [BEq α] [LawfulBEq α] [DecidableEq α] [BEq β] [LawfulBEq β] [DecidableEq β] (a b : α) (c d : β) :
    okOr (a != b || c != d) = if a = b ∧ c = d then .ok else .clamped := by
  unfold okOr
  by_cases h : a = b
  · by_cases k : c = d <;> simp [h, k]
  · simp [h]

/-- R150: a profile with its values clamped. -/
theorem clampProfile_eq (v : Int) (given : List Int) :
    clampProfile (v, given) = { transpose := max (-12) (min 12 v), offsets := given.map (fun o => max (-20) (min 20 o)) } := by
  unfold clampProfile
  have each : clampInt (-20) 20 = fun o => max (-20) (min 20 o) := funext fun o => clampInt_eq o (by decide)
  rw [clampInt_eq _ (by decide), each]

/-- R150: all values or none. -/
theorem profileValues_eq (transpose : Option Int) (offsets : List (Option Int)) :
    profileValues transpose offsets =
      if offsets.length ≠ 12 then none
      else match transpose with
        | none => if ∀ o ∈ offsets, o = none then some none else none
        | some v => if ∀ o ∈ offsets, o ≠ none then some (some (v, offsets.map (fun o => o.getD 0))) else none := by
  unfold profileValues
  cases transpose with
  | none => simp only [List.all_eq_true, Option.isNone_iff_eq_none]
  | some v => simp only [List.all_eq_true, Option.isSome_iff_ne_none]

theorem Tuner.retuned_eq (t : Tuner) : t.retuned = { t with run := if t.state = .off then t.run else [] } := by
  obtain ⟨state⟩ := t
  cases state <;> rfl

/-- R147: the Tuner with other settings, the run emptied where a condition holds and it is engaged. -/
theorem Tuner.retuned_if {t u : Tuner} (state : u.state = t.state) (run : u.run = t.run) (changed : Prop) [Decidable changed] :
    (if changed then u.retuned else u) = { u with run := if changed ∧ t.state ≠ .off then [] else t.run } := by
  by_cases c : changed
  · rw [if_pos c, Tuner.retuned_eq, state, run]
    by_cases off : t.state = .off
    · rw [if_pos off, if_neg (fun h => h.2 off)]
    · rw [if_neg off, if_pos ⟨c, off⟩]
  · rw [if_neg c, if_neg (fun h => c h.1), ← run]

/-- R147, R150: the Tuner with a profile put in place. -/
theorem Tuner.setProfile_retuned (t : Tuner) (i selected : Input) (p : Profile) :
    (if i = selected ∧ p ≠ t.profile i then (t.setProfile i p).retuned else t.setProfile i p) =
      { t.setProfile i p with run := if selected = i ∧ p ≠ t.profile i ∧ t.state ≠ .off then [] else t.run } := by
  have run : (t.setProfile i p).run = t.run := by cases i <;> rfl
  have state : (t.setProfile i p).state = t.state := by cases i <;> rfl
  rw [Tuner.retuned_if state run]
  simp only [and_assoc, eq_comm (a := selected)]

theorem mutePolicyOf_eq (n : Nat) : mutePolicyOf n = if n ≤ 1 then some (if n = 0 then .mute else .pass) else none := by
  match n with
  | 0 | 1 | n + 2 => simp [mutePolicyOf]

/-- R151: the policies of codes in range. -/
def mutePolicies (p : PerMain Nat) : PerMain MutePolicy := p.map (fun n => if n = 0 then .mute else .pass)

theorem policiesOf_eq (p : PerMain Nat) :
    policiesOf p = if p.fohL ≤ 1 ∧ p.fohR ≤ 1 ∧ p.stage ≤ 1 ∧ p.mon ≤ 1 then some (mutePolicies p) else none := by
  unfold policiesOf
  simp only [mutePolicyOf_eq]
  by_cases a : p.fohL ≤ 1
  · by_cases b : p.fohR ≤ 1
    · by_cases c : p.stage ≤ 1
      · by_cases d : p.mon ≤ 1
        · simp [a, b, c, d, mutePolicies, PerMain.map]
        · simp [a, b, c, d]
      · simp [a, b, c]
    · simp [a, b]
  · simp [a]

theorem mutePolicy_code {n : Nat} (h : n ≤ 1) : (if n = 0 then MutePolicy.mute else .pass).code = n := by
  match n, h with
  | 0, _ | 1, _ => rfl

/-- R139: the mute sets under new policies. -/
theorem State.applyPolicies_get (s : State) (p : PerMain MutePolicy) :
    ∃ m, s.applyPolicies s.tuner.policies p = { s with mains := m } ∧
      ∀ o, m.get o = if s.tuner.state = .off ∨ s.tuner.policies.get o = p.get o then s.mains.get o
        else { (s.mains.get o) with sources := { (s.mains.get o).sources with tuner := decide (p.get o = .mute) } } := by
  unfold State.applyPolicies
  cases state : s.tuner.state with
  | off => exact ⟨s.mains, rfl, fun o => by rw [if_pos (.inl rfl)]⟩
  | listening | tracking =>
    refine ⟨_, rfl, fun o => ?_⟩
    unfold State.setMute
    simp only [muteOutputs_get, PerMain.get_of]
    cases s.tuner.policies.get o <;> cases p.get o <;> rfl

/-- R147, R151: the Tuner with Aref and the policies put in place. -/
theorem Tuner.settings_retuned (t : Tuner) (a : Nat) (p : PerMain MutePolicy) :
    (if a = t.aref then ({ t with aref := a, policies := p } : Tuner)
      else Tuner.retuned { t with aref := a, policies := p }) =
      { t with aref := a, policies := p, run := if a ≠ t.aref ∧ t.state ≠ .off then [] else t.run } := by
  rw [← ite_not]
  exact Tuner.retuned_if rfl rfl _

/-- Settles O46: each request by its checks; what it puts in place; the run. -/
theorem tunerSettingsTakeEffectAtOnce : Obligations.TunerSettingsTakeEffectAtOnce := by
  unfold Obligations.TunerSettingsTakeEffectAtOnce
  intro s tag profile aref transpose offsets policies ready i held wire a
  rw [exec_of_ready ready tag (.tunerProfile profile transpose offsets) rfl,
    exec_of_ready ready tag (.tunerSetup aref policies) rfl]
  have heldIs : s.tuner.profile i = held := by
    by_cases zero : profile = 0
    · simp [i, held, zero, Tuner.profile]
    · simp [i, held, zero, Tuner.profile]
  refine ⟨?_, ?_⟩
  · simp only [perform, reqTunerProfile, inputOf_eq, profileValues_eq]
    by_cases outside : 1 < profile
    · rw [if_pos (.inl outside), if_pos outside]; rfl
    · rw [if_neg outside]
      by_cases count : offsets.length ≠ 12
      · rw [if_pos (.inr count), if_pos count]; rfl
      · rw [if_neg (not_or.mpr ⟨outside, count⟩), if_neg count]
        cases transpose with
        | none =>
          dsimp only
          by_cases all : ∀ o ∈ offsets, o = none
          · rw [if_pos all, if_pos all, ← heldIs]; rfl
          · rw [if_neg all, if_neg all]; rfl
        | some v =>
          dsimp only
          by_cases all : ∀ o ∈ offsets, o ≠ none
          · rw [if_pos all, if_pos all]
            dsimp only
            rw [Tuner.setProfile_retuned, okOr_bne_two, clampProfile_eq, heldIs]
            obtain rfl | rfl : profile = 0 ∨ profile = 1 := by omega
            · rfl
            · rfl
          · rw [if_neg all, if_neg all]; rfl
  · simp only [perform, reqTunerSetup, policiesOf_eq]
    by_cases inRange : policies.fohL ≤ 1 ∧ policies.fohR ≤ 1 ∧ policies.stage ≤ 1 ∧ policies.mon ≤ 1
    · rw [if_pos inRange, if_pos inRange]
      obtain ⟨m, only, mains⟩ := s.applyPolicies_get (mutePolicies policies)
      refine ⟨m, mutePolicies policies, fun o => PerMain.get_map _ _ _, mains, ?_⟩
      dsimp only
      obtain ⟨fohL, fohR, stage, mon⟩ := inRange
      have codes : (mutePolicies policies).toList.map (fun x => Wire.u 1 x.code) =
          [.u 1 policies.fohL, .u 1 policies.fohR, .u 1 policies.stage, .u 1 policies.mon] := by
        simp only [mutePolicies, PerMain.map, PerMain.toList, List.map_cons, List.map_nil, mutePolicy_code fohL,
          mutePolicy_code fohR, mutePolicy_code stage, mutePolicy_code mon]
      rw [only, okOr_bne, codes, clampNat_eq aref (by decide), Tuner.settings_retuned]
      rfl
    · rw [if_neg inRange, if_neg inRange]; rfl

end Sys2Proof.Machine
end

section
/-! PROOFS. TUNER_ESTIMATE (R141, R144, R145). -/
namespace Sys2Proof.Machine

/-! ## TUNER_ESTIMATE -/

/-- R140: the state with the estimate that was due taken and the Tuner as given. -/
def State.estimated (u : State) (t : Tuner) : State := { u with tuner := { t with estimateDue := false } }

/-- R144: an estimate of reading r in LISTENING. -/
theorem State.qualify_eq (u : State) (r : Reading) :
    (u.estimated u.tuner).qualify r =
      (let run := trimRun (u.tuner.run ++ [(r.note, r.cents)])
       if run.length < 3 then u.estimated { u.tuner with run := run }
       else ((u.estimated { u.tuner with state := .tracking, weak := 0, run := [], last := some (r, .live) }).post
          (.tunerState .tracking u.tuner.engage u.selected (some (r, .live)))).post (.tunerReading r .new r.confidence)) := by
  unfold State.qualify
  dsimp only
  by_cases short : (trimRun (u.tuner.run ++ [(r.note, r.cents)])).length < 3
  · rw [if_pos short]
    exact if_neg (Nat.not_le.mpr short)
  · rw [if_neg short]
    exact if_pos (Nat.not_lt.mp short)

/-- R145: a weak estimate in TRACKING. -/
theorem State.weaken_eq (u : State) (confidence : Nat) :
    (u.estimated u.tuner).weaken confidence =
      (if u.tuner.weak + 1 < 4 then
        match u.tuner.last with
        | some (r, _) => (u.estimated { u.tuner with weak := u.tuner.weak + 1 }).post (.tunerReading r .held confidence)
        | none => u.estimated { u.tuner with weak := u.tuner.weak + 1 }
      else
        (u.estimated { u.tuner with state := .listening, weak := 0, run := [],
                                    last := u.tuner.last.map (fun p => (p.1, ReadingMark.stale)) }).post
          (.tunerState .listening u.tuner.engage u.selected
            (u.tuner.last.map (fun p => (p.1, ReadingMark.stale))))) := by
  unfold State.weaken
  by_cases early : u.tuner.weak + 1 < 4
  · rw [if_pos early]
    refine (if_pos early).trans ?_
    dsimp only
    rw [show (u.estimated u.tuner).tuner.last = u.tuner.last from rfl]
    cases u.tuner.last <;> rfl
  · rw [if_neg early]
    exact if_neg early

/-- Settles O47: no estimate due; else by the state of the Tuner and the reading found. -/
theorem estimatesMoveBetweenListeningAndTracking : Obligations.EstimatesMoveBetweenListeningAndTracking := by
  unfold Obligations.EstimatesMoveBetweenListeningAndTracking
  intro s frequency confidence running u t found put answers
  have run : exec (.tunerEstimate frequency confidence) s =
      .next (if (s.frameOpen && State.estimateDue s.endFrame) = true then u.estimate frequency confidence else s) :=
    congrArg _ (State.atFrameEnd_eq running _ _)
  by_cases no : s.frameOpen = false ∨ t.estimateDue = false
  · rw [if_pos no]
    have notDue : (s.frameOpen && State.estimateDue s.endFrame) = false := Bool.and_eq_false_iff.mpr no
    exact run.trans (by rw [notDue]; rfl)
  · rw [if_neg no]
    have due : (s.frameOpen && State.estimateDue s.endFrame) = true := by
      rw [← Bool.not_eq_false]
      exact fun h => no (Bool.and_eq_false_iff.mp h)
    have acts (v : State) (h : u.estimate frequency confidence = v) : answers v :=
      run.trans (by rw [due, if_pos rfl, h])
    have begun : u.estimate frequency confidence = (match t.state with
      | .off => u.estimated t
      | .listening => (u.estimated t).listen found confidence
      | .tracking => (u.estimated t).track found confidence) := rfl
    clear_value found
    cases state : t.state with
    | off => exact acts _ (by rw [begun, state]; rfl)
    | listening =>
      have listens : u.estimate frequency confidence = (u.estimated t).listen found confidence := by rw [begun, state]
      cases found with
      | none => exact acts _ (by rw [listens, ← state]; rfl)
      | some r =>
        dsimp only
        by_cases low : confidence < 60
        · rw [if_pos low]
          exact acts _ (by rw [listens, ← state]; exact if_neg (Nat.not_le.mpr low))
        · rw [if_neg low]
          have joins : u.estimate frequency confidence = (u.estimated t).qualify r :=
            listens.trans (if_pos (Nat.not_lt.mp low))
          rw [State.qualify_eq] at joins
          dsimp only at joins
          by_cases short : (trimRun (t.run ++ [(r.note, r.cents)])).length < 3
          · rw [if_pos short]
            exact acts _ (by rw [← state]; exact joins.trans (if_pos short))
          · rw [if_neg short]
            exact acts _ (joins.trans (if_neg short))
    | tracking =>
      have tracks : u.estimate frequency confidence = (u.estimated t).track found confidence := by rw [begun, state]
      have weak (h : u.estimate frequency confidence = (u.estimated t).weaken confidence) :
          if t.weak + 1 < 4 then
            match t.last with
            | some (r, _) =>
              answers ((put { t with state := .tracking, weak := t.weak + 1 }).post (.tunerReading r .held confidence))
            | none => answers (put { t with state := .tracking, weak := t.weak + 1 })
          else
            answers ((put { t with state := .listening, weak := 0, run := [],
                                   last := t.last.map (fun p => (p.1, ReadingMark.stale)) }).post
              (.tunerState .listening t.engage u.selected (t.last.map (fun p => (p.1, ReadingMark.stale))))) := by
        rw [State.weaken_eq] at h
        by_cases early : t.weak + 1 < 4
        · rw [if_pos early]
          have h := h.trans (if_pos early)
          rw [← state]
          cases last : t.last with
          | none =>
            rw [show u.tuner.last = none from last] at h
            exact acts _ (by rw [← last]; exact h)
          | some p =>
            rw [show u.tuner.last = some p from last] at h
            exact acts _ (by rw [← last]; exact h)
        · rw [if_neg early]
          exact acts _ (h.trans (if_neg early))
      by_cases low : confidence < 40
      · rw [if_pos low]
        refine weak ?_
        rw [tracks]
        cases found with
        | none => rfl
        | some r => exact if_neg (Nat.not_le.mpr low)
      · rw [if_neg low]
        cases found with
        | none => exact weak (by rw [tracks]; rfl)
        | some r => exact acts _ (by rw [tracks, ← state]; exact if_pos (Nat.not_lt.mp low))

end Sys2Proof.Machine
end

section
/-! PROOFS. The waits of a switch, GESTURE_TIMING and PEDAL_STATUS (R159 to R165, R170, R171). -/
namespace Sys2Proof.Machine

/-! ## The waits of a switch -/

/-- R159: a window that has run out. -/
theorem SwitchRecord.windowDue_iff (r : SwitchRecord) (state : GestureState) :
    r.windowDue state = true ↔ r.state = state ∧ r.window = some 0 := by
  simp [SwitchRecord.windowDue]

/-- R159: a hold timer that has run out. -/
theorem SwitchRecord.holdDue_iff (r : SwitchRecord) : r.holdDue = true ↔ r.state = .down ∧ r.hold = some 0 := by
  simp [SwitchRecord.holdDue]

/-- R5, log 2: an event of a frame's end whose condition is a conjunction. -/
theorem State.atFrameEnd_iff {s : State} (running : s.power = .running) {due : State → Bool} {p : Prop} [Decidable p]
    (iff : due s.endFrame = true ↔ p) (event : State → State) :
    s.ifRunning (fun s => s.atFrameEnd due event) = if s.frameOpen = true ∧ p then event s.endFrame else s := by
  rw [State.atFrameEnd_eq running]
  exact if_congr (by rw [Bool.and_eq_true, iff]) rfl rfl

theorem State.enterDown_eq (s : State) (l : Link) (n : Nat) :
    s.enterDown l n =
      if (entryFor (s.switchAt l n).entries n .hold).isSome then
        s.setSwitch l n { s.switchAt l n with state := .down, window := none }
      else if (entryFor (s.switchAt l n).entries n .double).isSome then
        s.setSwitch l n { s.switchAt l n with
          state := .doubleWait, window := some ((3 * (s.pedals.get l).doubleMs + 1) / 2) }
      else (s.setSwitch l n { s.switchAt l n with state := .down, window := none }).fire (s.switchAt l n).entries n .press := by
  unfold State.enterDown
  rw [msToFrames_eq]
  rfl

/-! ## GESTURE_TIMING and PEDAL_STATUS -/

/-- R170: the three settings of GESTURE_TIMING as the link takes them. -/
def PedalLink.timed (p : PedalLink) (combo holdTime double : Nat) : PedalLink :=
  { p with comboMs := max 10 (min 200 combo), holdMs := max 300 (min 2000 holdTime), doubleMs := max 100 (min 500 double) }

/-- R170: GESTURE_TIMING that writes. -/
theorem reqGestureTiming_write {s : State} {link : Nat} {l : Link} (known : linkOf link = some l) (c h d : Nat) :
    let p := (s.pedals.get l).timed c h d
    reqGestureTiming link (some c) (some h) (some d) s =
      answer { s with pedals := s.pedals.set l p }
        (if p.comboMs = c ∧ p.holdMs = h ∧ p.doubleMs = d then .ok else .clamped) (wTimings p) := by
  intro p
  unfold reqGestureTiming
  rw [known]
  dsimp only
  rw [clampNat_eq c (by decide), clampNat_eq h (by decide), clampNat_eq d (by decide)]
  have code : okOr (p.comboMs != c || p.holdMs != h || p.doubleMs != d) =
      if p.comboMs = c ∧ p.holdMs = h ∧ p.doubleMs = d then .ok else .clamped :=
    okOr_bne_three _ _ _ _ _ _
  rw [← code]
  rfl

/-- R171: the fields of a PEDAL_STATUS reply, with the lists written out. -/
theorem pedalFields_eq (p : PedalLink) (first : Nat) :
    pedalFields p first =
      wPresence p.identity ++ [.u 2 p.silence, .u 1 (switchNumbers p first).length] ++
        (switchNumbers p first).flatMap (fun n => wSwitch n (p.switch n)) ++ [.u 1 (pedalNumbers p).length] ++
        (pedalNumbers p).flatMap (fun n => wOpt 2 (p.positions.getD n none)) ++ wTimings p ++
        [.u 1 p.display.length, .u 2 p.framingErrors, .u 2 p.rejected] := by
  simp [pedalFields, wList]

/-- R171: PEDAL_STATUS with its operands in range. -/
theorem reqPedalStatus_read {s : State} {link first clear : Nat} {l : Link} (known : linkOf link = some l)
    (low : ¬ 31 < first) (flag : ¬ 1 < clear) :
    reqPedalStatus link first clear s =
      answer (if clear = 1 then
          { s with pedals := s.pedals.set l { s.pedals.get l with framingErrors := 0, rejected := 0 } }
        else s) .ok (pedalFields (s.pedals.get l) first) := by
  unfold reqPedalStatus
  rw [known, boolOf_of_le flag]
  dsimp only
  rw [if_neg low]
  by_cases one : clear = 1
  · rw [if_pos one, if_pos (beq_iff_eq.mpr one)]
    rfl
  · rw [if_neg one, if_neg (by simpa using one)]

theorem reqPedalStatus_refused {s : State} {link first clear : Nat} (h : 1 < link ∨ 31 < first ∨ 1 < clear) :
    reqPedalStatus link first clear s = refuse s .outOfRange := by
  unfold reqPedalStatus
  rw [linkOf_eq, boolOf_eq]
  split_ifs <;> first | rfl | omega

/-- Settles O50: each wait by its condition, then the two requests by their operands. -/
theorem gestureWaitsRunOutAndAreSet : Obligations.GestureWaitsRunOutAndAreSet := by
  unfold Obligations.GestureWaitsRunOutAndAreSet
  refine ⟨?waits, ?timing, ?status⟩
  case waits =>
    intro s l n running u p put r x pick fires
    refine ⟨?_, ?_, ?_⟩
    · refine congrArg Host.Outcome.next
        ((State.atFrameEnd_iff running (SwitchRecord.windowDue_iff r .comboWait) _).trans ?_)
      by_cases due : s.frameOpen = true ∧ r.state = .comboWait ∧ r.window = some 0
      · rw [if_pos due, if_pos due]
        exact State.enterDown_eq u l n
      · rw [if_neg due, if_neg due]
    · exact congrArg Host.Outcome.next (State.atFrameEnd_iff running (SwitchRecord.holdDue_iff r) _)
    · exact congrArg Host.Outcome.next (State.atFrameEnd_iff running (SwitchRecord.windowDue_iff r .doubleWait) _)
  case timing =>
    intro s tag link combo holdTime double ready l p refused
    have run := exec_of_ready ready (i := .gestureTiming tag link combo holdTime double) tag (.gestureTiming link combo holdTime double) rfl
    simp only [perform] at run
    have refuses (h : reqGestureTiming link combo holdTime double s = refuse s .outOfRange) : refused :=
      run.trans (by rw [h]; rfl)
    by_cases unknown : 1 < link
    · rw [if_pos unknown]
      refine refuses ?_
      unfold reqGestureTiming
      rw [linkOf_eq, if_pos unknown]
    · rw [if_neg unknown]
      have known : linkOf link = some l := by rw [linkOf_eq, if_neg unknown]
      cases combo <;> cases holdTime <;> cases double
      case none.none.none =>
        refine run.trans ?_
        unfold reqGestureTiming
        rw [known]
        rfl
      case some.some.some c h d => exact run.trans (by rw [reqGestureTiming_write known]; rfl)
      all_goals exact refuses (by unfold reqGestureTiming; rw [known])
  case status =>
    intro s tag link first clear ready l p presence switches pedals record settings counts held
    have run := exec_of_ready ready (i := .pedalStatus tag link first clear) tag (.pedalStatus link first clear) rfl
    simp only [perform] at run
    refine run.trans ?_
    by_cases bad : 1 < link ∨ 31 < first ∨ 1 < clear
    · rw [if_pos bad, reqPedalStatus_refused bad]
      rfl
    · rw [if_neg bad]
      simp only [not_or] at bad
      obtain ⟨low, few, flag⟩ := bad
      have known : linkOf link = some l := by rw [linkOf_eq, if_neg low]
      have fields : pedalFields p first = held := by
        rw [pedalFields_eq]
        have flags (n : Nat) : wSwitch n (p.switch n) = record n := by
          simp only [wSwitch, record, wFlag]
          rfl
        simp only [flags]
        rfl
      rw [reqPedalStatus_read known few flag, fields]
      rfl

end Sys2Proof.Machine
end

section
/-! PROOFS. MAP_WRITE, MAP_ERASE, MAP_READ and PERMIT (R172, R181 to R184). -/
namespace Sys2Proof.Machine

/-! ## Where a selector leads -/

/-- R182: the first target whose class lies outside a mask. -/
theorem firstDenied_eq (mask : BitVec 8) (k : Nat) (ts : List Target) :
    firstDenied mask k ts = (ts.findIdx? (fun t => !mask.getLsbD t.class.code)).map (· + k) := by
  induction ts generalizing k with
  | nil => rfl
  | cons t rest ih =>
    rw [firstDenied, List.findIdx?_cons, ih]
    unfold allowed
    cases mask.getLsbD t.class.code
    · simp
    · cases rest.findIdx? (fun t => !mask.getLsbD t.class.code) with
      | none => rfl
      | some n => simp; omega

/-- R183, R184: the index a selector names in a table, before it is looked at. -/
def selectorPlace (entries : List MapEntry) : EntrySelector → Option Nat
  | .index n => some n
  | .key k => (keyOf k).bind (indexOfKey entries)

/-- R183, R184: no table could hold what the selector names. -/
def selectorBad : EntrySelector → Bool
  | .index n => decide (95 < n)
  | .key k => (keyOf k).isNone

theorem selectorBad_eq (sel : EntrySelector) : selectorBad sel = !selectorOk sel := by
  cases sel with
  | index n => simp [selectorBad, selectorOk, ← decide_not]
  | key k => simp [selectorBad, selectorOk]

theorem findEntry_bad {sel : EntrySelector} (h : selectorBad sel = true) (entries : List MapEntry) :
    findEntry entries sel = .outOfRange := by
  cases sel with
  | index n => exact if_pos (of_decide_eq_true h)
  | key k =>
    simp only [findEntry]
    rw [Option.isNone_iff_eq_none.mp h]

/-- A key that is found stands at its index. -/
theorem indexOfKey_get {entries : List MapEntry} {k : MapKey} {n : Nat} (h : indexOfKey entries k = some n) :
    ∃ e, entries[n]? = some e := by
  obtain ⟨low, _⟩ := List.findIdx?_eq_some_iff_getElem.mp h
  exact ⟨entries[n], List.getElem?_eq_getElem low⟩

/-- R183, R184: what a selector comes to, by the index it names. -/
theorem findEntry_eq {sel : EntrySelector} (h : selectorBad sel = false) (entries : List MapEntry) :
    findEntry entries sel =
      match selectorPlace entries sel with
      | none => .notFound
      | some n =>
        match entries[n]? with
        | none => .beyond
        | some e => .entry n e := by
  cases sel with
  | index n => exact if_neg (of_decide_eq_false h)
  | key k =>
    simp only [findEntry, selectorPlace]
    cases key : keyOf k with
    | none => simp [selectorBad, key] at h
    | some k' =>
      dsimp only [Option.bind]
      cases place : indexOfKey entries k' with
      | none => rfl
      | some n =>
        obtain ⟨e, he⟩ := indexOfKey_get place
        dsimp only
        rw [he]

/-! ## The four requests -/

/-- R182: MAP_WRITE of an entry of good form. -/
theorem reqMapWrite_ok {key : RawKey} {targets : List RawTarget} {e : MapEntry} (form : entryOf key targets = .ok e)
    (s : State) :
    reqMapWrite key targets s =
      match e.targets.findIdx? (fun t => !(s.map.masks.get e.key.link).getLsbD t.class.code),
        indexOfKey s.map.entries e.key with
      | some n, _ => answer s .denied [.u 1 n]
      | none, some n =>
        answer (s.setEntries (s.map.entries.map (fun x => if x.key = e.key then e else x))) .replaced
          [.u 1 n, .u 2 ((s.map.changes + 1) % 65536)]
      | none, none =>
        if 96 ≤ s.map.entries.length then refuse s .full
        else answer (s.setEntries (s.map.entries ++ [e])) .ok
          [.u 1 s.map.entries.length, .u 2 ((s.map.changes + 1) % 65536)] := by
  unfold reqMapWrite
  rw [form]
  dsimp only
  rw [firstDenied_eq]
  cases e.targets.findIdx? (fun t => !(s.map.masks.get e.key.link).getLsbD t.class.code) with
  | some n => rfl
  | none => cases indexOfKey s.map.entries e.key <;> rfl

/-- R183: MAP_ERASE with a selector in range. -/
theorem reqMapErase_eq {sel : EntrySelector} (good : selectorBad sel = false) (s : State) :
    reqMapErase sel s =
      match selectorPlace s.map.entries sel with
      | none => refuse s .notFound
      | some n =>
        match s.map.entries[n]? with
        | none => refuse s .notFound
        | some e =>
          answer (s.setEntries (s.map.entries.eraseIdx n)) .ok
            (wKey e.key ++ [.u 1 (s.map.entries.length - 1), .u 2 ((s.map.changes + 1) % 65536)]) := by
  unfold reqMapErase
  rw [findEntry_eq good]
  cases selectorPlace s.map.entries sel with
  | none => rfl
  | some n =>
    dsimp only
    cases held : s.map.entries[n]? with
    | none => rfl
    | some e =>
      obtain ⟨low, _⟩ := List.getElem?_eq_some_iff.mp held
      have shorter : (s.map.entries.eraseIdx n).length = s.map.entries.length - 1 := List.length_eraseIdx_of_lt low
      dsimp only [State.setEntries]
      rw [shorter]
      rfl

/-- R184: a read of a table with a selector in range. -/
theorem readTable_eq {sel : EntrySelector} (good : selectorBad sel = false) (s : State) (entries : List MapEntry)
    (tail : List Wire) :
    readTable s entries sel tail =
      match selectorPlace entries sel with
      | none => refuse s .notFound
      | some n =>
        match entries[n]? with
        | none => answer s .endOfRecord [.u 1 entries.length]
        | some e =>
          answer s .ok ([.u 1 n, .u 1 entries.length] ++ wKey e.key ++ [.u 1 e.targets.length] ++
            e.targets.flatMap (fun t => wTarget t ++ [.u 1 t.class.code]) ++
            [.u 1 (outsideMask s.map.masks e).toNat] ++ tail) := by
  unfold readTable
  rw [findEntry_eq good]
  cases selectorPlace entries sel with
  | none => rfl
  | some n =>
    dsimp only
    cases entries[n]? with
    | none => rfl
    | some e => simp [wMapEntry, wList, wFlag]

/-- R172, R184: every reply of MAP_READ carries the change count, last. -/
theorem reqMapRead_eq (table : Nat) (sel : EntrySelector) (s : State) :
    reqMapRead table sel s =
      answer s (mapReading table sel s).2.code ((mapReading table sel s).2.fields ++ [.u 2 s.map.changes]) := by
  unfold reqMapRead
  dsimp only
  rw [mapReading_state]

/-- Settles O51: the form and the mask of an entry, then each table by what the selector names in it. -/
theorem mapRequestsWriteEraseAndRead : Obligations.MapRequestsWriteEraseAndRead := by
  unfold Obligations.MapRequestsWriteEraseAndRead
  intro s tag key targets sel table link mask ready held changed count place bad outside written erased read
  have writes {t : State} {c : ReplyCode} {fs : List Wire} (h : reqMapWrite key targets s = answer t c fs) :
      written c fs t :=
    (exec_of_ready ready (i := .mapWrite tag key targets) tag (.mapWrite key targets) rfl).trans
      (by simp only [perform]; rw [h]; rfl)
  have erases {t : State} {c : ReplyCode} {fs : List Wire} (h : reqMapErase sel s = answer t c fs) :
      erased c fs t :=
    (exec_of_ready ready (i := .mapErase tag sel) tag (.mapErase sel) rfl).trans (by simp only [perform]; rw [h]; rfl)
  have reads {c : ReplyCode} {fs : List Wire} (h : mapReading table sel s = answer s c fs) : read c fs :=
    (exec_of_ready ready (i := .mapRead tag table sel) tag (.mapRead table sel) rfl).trans
      (by simp only [perform]; rw [reqMapRead_eq, h]; rfl)
  clear_value written erased read
  refine ⟨?write, ?erase, ?read, ?permit⟩
  case write =>
    cases form : entryOf key targets with
    | error n =>
      have refuses : reqMapWrite key targets s = answer s .outOfRange (wOpt 1 n) := by
        unfold reqMapWrite
        rw [form]
      cases n with
      | none => exact writes refuses
      | some n => exact writes refuses
    | ok e =>
      have begun := reqMapWrite_ok form s
      change match e.targets.findIdx? (fun t => !(s.map.masks.get e.key.link).getLsbD t.class.code),
        indexOfKey s.map.entries e.key with
        | some n, _ => written .denied [.u 1 n] s
        | none, some n => written .replaced [.u 1 n, .u 2 count] (changed (held.map (fun x => if x.key = e.key then e else x)))
        | none, none =>
          if 96 ≤ held.length then written .full [] s
          else written .ok [.u 1 held.length, .u 2 count] (changed (held ++ [e]))
      cases denied : e.targets.findIdx? (fun t => !(s.map.masks.get e.key.link).getLsbD t.class.code) with
      | some n =>
        rw [denied] at begun
        exact writes begun
      | none =>
        rw [denied] at begun
        cases known : indexOfKey s.map.entries e.key with
        | some n =>
          rw [known] at begun
          exact writes begun
        | none =>
          rw [known] at begun
          dsimp only
          by_cases full : 96 ≤ held.length
          · rw [if_pos full]
            exact writes (begun.trans (if_pos full))
          · rw [if_neg full]
            exact writes (begun.trans (if_neg full))
  case erase =>
    by_cases wrong : selectorBad sel = true
    · refine (if_pos (c := bad = true) wrong).mpr (erases ?_)
      unfold reqMapErase
      rw [findEntry_bad wrong]
      rfl
    · refine (if_neg (c := bad = true) wrong).mpr ?_
      have begun := reqMapErase_eq (Bool.eq_false_iff.mpr wrong) s
      change match selectorPlace s.map.entries sel with
        | none => erased .notFound [] s
        | some n =>
          match s.map.entries[n]? with
          | none => erased .notFound [] s
          | some e => erased .ok (wKey e.key ++ [.u 1 (held.length - 1), .u 2 count]) (changed (held.eraseIdx n))
      cases at' : selectorPlace s.map.entries sel with
      | none =>
        rw [at'] at begun
        exact erases begun
      | some n =>
        rw [at'] at begun
        dsimp only at begun ⊢
        cases one : s.map.entries[n]? with
        | none =>
          rw [one] at begun
          exact erases begun
        | some e =>
          rw [one] at begun
          exact erases begun
  case read =>
    change if 1 < table ∨ selectorBad sel = true then read .outOfRange [] else _
    have legal : (1 < table ∨ selectorOk sel = false) ↔ (1 < table ∨ selectorBad sel = true) := by
      rw [selectorBad_eq, Bool.not_eq_true']
    by_cases wrong : 1 < table ∨ selectorBad sel = true
    · rw [if_pos wrong]
      exact reads (if_pos (legal.mpr wrong))
    · rw [if_neg wrong]
      have good : selectorBad sel = false := Bool.eq_false_iff.mpr fun h => wrong (Or.inr h)
      have begun : mapReading table sel s = _ := if_neg fun h => wrong (legal.mp h)
      have table_read {entries : List MapEntry} {tail : List Wire}
          (h : mapReading table sel s = readTable s entries sel tail) :
          match selectorPlace entries sel with
          | none => read .notFound []
          | some n =>
            match entries[n]? with
            | none => read .endOfRecord [.u 1 entries.length]
            | some e =>
              read .ok ([.u 1 n, .u 1 entries.length] ++ wKey e.key ++ [.u 1 e.targets.length] ++
                e.targets.flatMap (fun t => wTarget t ++ [.u 1 t.class.code]) ++ [.u 1 (outside e).toNat] ++ tail) := by
        rw [readTable_eq good] at h
        cases at' : selectorPlace entries sel with
        | none =>
          rw [at'] at h
          exact reads h
        | some n =>
          rw [at'] at h
          dsimp only at h ⊢
          cases one : entries[n]? with
          | none =>
            rw [one] at h
            exact reads h
          | some e =>
            rw [one] at h
            exact reads h
      by_cases global : table = 0
      · rw [if_pos global] at begun ⊢
        exact table_read begun
      · rw [if_neg global] at begun ⊢
        cases overlay : s.map.overlay with
        | none =>
          rw [overlay] at begun
          exact reads begun
        | some o =>
          rw [overlay] at begun
          exact table_read begun
  case permit =>
    intro l overlaid fields
    have run := exec_of_ready ready (i := .permit tag link mask) tag (.permit link mask) rfl
    simp only [perform, reqPermit, linkOf_eq] at run
    cases mask with
    | none =>
      refine run.trans ?_
      by_cases unknown : 1 < link
      · rw [if_pos unknown, if_pos unknown]
        rfl
      · rw [if_neg unknown, if_neg unknown]
        rfl
    | some v =>
      refine run.trans ?_
      by_cases unknown : 1 < link
      · rw [if_pos unknown, if_pos (Or.inl unknown)]
        rfl
      · rw [if_neg unknown]
        by_cases wide : 255 < v
        · rw [if_pos (Or.inr wide)]
          dsimp only
          rw [if_pos wide]
          rfl
        · rw [if_neg (not_or.mpr ⟨unknown, wide⟩)]
          dsimp only
          rw [if_neg wide]
          rfl

end Sys2Proof.Machine
end

section
/-! PROOFS. SAT_ADDR, SAT_SEND, SAT_BYPASS and SAT_STATUS (R188, R194, R195, R197, R198). -/
namespace Sys2Proof.Machine

/-! ## SAT_ADDR -/

/-- R188: an entry write that is acceptable. -/
theorem writeOk_iff (w : AddressWrite) :
    writeOk w = true ↔ w.logical ≤ 14 ∧ w.acknowledge ≤ 1 ∧ ∀ p, w.physical = some p → 1 ≤ p ∧ p ≤ 254 := by
  unfold writeOk
  rw [boolOf_eq]
  cases w.physical <;> by_cases flag : 1 < w.acknowledge <;>
    simp [flag, Nat.le_of_not_lt, Nat.not_le_of_lt]

/-- R188: the unit after SAT_ADDR, with the table and the timeout in force. -/
theorem Satellite.write_eq (u : Satellite) (write : Option AddressWrite) (timeout : Option Nat) :
    u.write write timeout = { u with
      table := match write with
        | none => u.table
        | some w => u.table.set w.logical { physical := w.physical, acknowledge := w.acknowledge == 1 }
      ackTimeout := (timeout.map (fun t => max 10 (min 500 t))).getD u.ackTimeout } := by
  unfold Satellite.write
  cases timeout with
  | none => cases write <;> rfl
  | some t =>
    dsimp only
    rw [clampNat_eq t (by decide)]
    cases write <;> rfl

/-- R188: the reply says CLAMPED exactly when the timeout held is not the one carried. -/
theorem okOr_ackTimeout (timeout : Option Nat) (held : Nat) :
    okOr (timeout.any (fun t => clampNat 10 500 t != t)) =
      let t := (timeout.map (fun t => max 10 (min 500 t))).getD held
      if t = timeout.getD t then .ok else .clamped := by
  cases timeout with
  | none => simp [okOr]
  | some t =>
    dsimp only [Option.any]
    rw [okOr_bne, clampNat_eq t (by decide)]
    rfl

/-- R188: SAT_ADDR by the entry it carries. -/
theorem reqSatAddr_eq (write : Option AddressWrite) (timeout : Option Nat) (s : State) :
    ((∀ w, write = some w → writeOk w = true) → reqSatAddr write timeout s =
      answer { s with sat := s.sat.write write timeout } (okOr (timeout.any (fun t => clampNat 10 500 t != t)))
        (addressFields (s.sat.write write timeout))) ∧
    (¬ (∀ w, write = some w → writeOk w = true) → reqSatAddr write timeout s = refuse s .outOfRange) := by
  have all : write.all writeOk = true ↔ ∀ w, write = some w → writeOk w = true := by
    cases write <;> simp
  unfold reqSatAddr
  exact ⟨fun h => if_pos (all.mpr h), fun h => if_neg fun k => h (all.mp k)⟩

/-! ## SAT_SEND -/

theorem Satellite.restartTimer_eq (u : Satellite) :
    u.restartTimer = { u with
      bypass := u.bypass.map (fun b => { b with remaining := b.timeout.map (fun ms => (3 * ms + 1) / 2) }) } := by
  unfold Satellite.restartTimer
  cases bypass : u.bypass with
  | none => exact congrArg (fun b => { u with bypass := b }) bypass
  | some b => rw [show msToFrames = fun ms => (3 * ms + 1) / 2 from funext msToFrames_eq]; rfl

/-- R194: SAT_SEND. -/
theorem reqSatSend_eq (tag : Byte) (physical acknowledge : Nat) (payload : List Byte) (s : State) :
    reqSatSend tag physical acknowledge payload s =
      if physical < 1 ∨ 254 < physical ∨ 1 < acknowledge ∨ payload.length < 1 ∨ 16 < payload.length then
        refuse s .outOfRange
      else if 16 ≤ s.sat.queue.length then answer { s with sat := s.sat.restartTimer } .queueFull []
      else
        answer { s with sat := { s.sat.restartTimer with
          queue := s.sat.queue ++ [rawFrame tag physical (acknowledge == 1) payload] } } .ok [.u 1 s.sat.queue.length] := by
  unfold reqSatSend
  have queue : s.sat.restartTimer.queue = s.sat.queue := by rw [Satellite.restartTimer_eq]
  by_cases flag : 1 < acknowledge
  · rw [boolOf_of_lt flag, if_pos (by simp [flag])]
  · rw [boolOf_of_le flag]
    simp only [flag, false_or, queue]
    rfl

/-! ## SAT_BYPASS -/

theorem timeoutOk_iff (t : Option Nat) :
    timeoutOk t = true ↔ ¬ (t ≠ none ∧ t ≠ some 250 ∧ t ≠ some 1000 ∧ t ≠ some 4000) := by
  cases t with
  | none => simp [timeoutOk]
  | some t =>
    simp only [timeoutOk, Bool.or_eq_true, beq_iff_eq, ne_eq, Option.some.injEq, reduceCtorEq, not_false_eq_true, true_and]
    omega

/-- R197: bypass ends, with the replay. -/
theorem State.endBypass_eq (s : State) :
    s.withSat s.sat.bypassEnd =
      match s.sat.bypass with
      | none => s.syncTest
      | some _ =>
        ({ s with sat := { s.sat.catchUp.foldl Satellite.replay s.sat with catchUp := [], bypass := none } } :
          State).syncTest := by
  unfold Satellite.bypassEnd
  cases s.sat.bypass <;> rfl

/-- R195, R197: SAT_BYPASS by its value, its timeout and whether a bypass runs. -/
theorem reqSatBypass_eq (value : Nat) (timeout : Option Nat) (s : State) :
    reqSatBypass value timeout s =
      if value = 0 then answer (s.withSat s.sat.bypassEnd) .ok []
      else if 1 < value ∨ timeout ≠ none ∧ timeout ≠ some 250 ∧ timeout ≠ some 1000 ∧ timeout ≠ some 4000 then
        refuse s .outOfRange
      else if s.sat.bypass.isSome then answer { s with sat := s.sat.bypassTimer timeout } .ok []
      else answer (s.withSat (s.sat.bypassOn timeout)) .ok [.u 1 (s.sat.bypassOn timeout).catchUp.length] := by
  unfold reqSatBypass
  by_cases off : value = 0
  · rw [if_pos off, off]
    rfl
  · rw [if_neg off]
    by_cases high : 1 < value
    · rw [boolOf_of_lt high, if_pos (Or.inl high)]
    · have one : value = 1 := by omega
      rw [boolOf_of_le high, one]
      by_cases bad : timeout ≠ none ∧ timeout ≠ some 250 ∧ timeout ≠ some 1000 ∧ timeout ≠ some 4000
      · rw [if_pos (Or.inr bad)]
        have unknown : timeoutOk timeout = false := Bool.eq_false_iff.mpr fun h => (timeoutOk_iff timeout).mp h bad
        exact if_pos (by rw [unknown]; rfl)
      · rw [if_neg (not_or.mpr ⟨by decide, bad⟩)]
        refine (if_neg (by rw [(timeoutOk_iff timeout).mpr bad]; decide)).trans ?_
        cases s.sat.bypass <;> rfl

/-! ## SAT_STATUS -/

theorem reqSatStatus_eq (clear : Nat) (s : State) :
    reqSatStatus clear s =
      if 1 < clear then refuse s .outOfRange
      else answer (if clear = 1 then
          { s with sat := { s.sat with unmapped := 0, dropped := 0, timeouts := 0, strayAcks := 0, framingErrors := 0 } }
        else s) .ok (satFields s.sat) := by
  unfold reqSatStatus
  by_cases high : 1 < clear
  · rw [boolOf_of_lt high, if_pos high]
  · rw [boolOf_of_le high, if_neg high]
    by_cases one : clear = 1 <;> simp [one]

/-- Settles O53: each request by its equation. -/
theorem satelliteRequestsSendAndBypass : Obligations.SatelliteRequestsSendAndBypass := by
  unfold Obligations.SatelliteRequestsSendAndBypass
  intro s tag write timeout physical acknowledge value clear payload ready u wait
  have frames : wait = fun t => t.map msToFrames := by
    rw [show msToFrames = fun ms => (3 * ms + 1) / 2 from funext msToFrames_eq]
  refine ⟨?addr, ?send, ?bypass, ?status⟩
  case addr =>
    intro acceptable t table
    have run := exec_of_ready ready (i := .satAddr tag write timeout) tag (.satAddr write timeout) rfl
    simp only [perform] at run
    have form : acceptable ↔ ∀ w, write = some w → writeOk w = true :=
      forall₂_congr fun w _ => (writeOk_iff w).symm
    obtain ⟨accepted, refused⟩ := reqSatAddr_eq write timeout s
    constructor
    · intro bad
      rw [run, refused fun h => bad (form.mpr h)]
      rfl
    · intro good
      have fields (e : AddressEntry) : wOpt 1 e.physical ++ [wFlag e.acknowledge] =
          (match e.physical with | none => [.u 1 0] | some p => [.u 1 1, .u 1 p]) ++ [.u 1 e.acknowledge.toNat] := by
        cases e.physical <;> rfl
      rw [run, accepted (form.mp good), okOr_ackTimeout timeout u.ackTimeout, Satellite.write_eq]
      simp only [addressFields, fields]
      rfl
  case send =>
    intro bypass f
    have run := exec_of_ready ready (i := .satSend tag physical acknowledge payload) tag
      (.satSend physical acknowledge payload) rfl
    simp only [perform, reqSatSend_eq, Satellite.restartTimer_eq] at run
    refine run.trans ?_
    split_ifs <;> rfl
  case bypass =>
    intro moved table on
    have run := exec_of_ready ready (i := .satBypass tag value timeout) tag (.satBypass value timeout) rfl
    simp only [perform, reqSatBypass_eq] at run
    refine run.trans ?_
    rw [show on = some { timeout := timeout, remaining := timeout.map msToFrames } by simp only [on, frames]]
    by_cases off : value = 0
    · rw [if_pos off, if_pos off, State.endBypass_eq] <;> rfl
    · rw [if_neg off, if_neg off]
      split_ifs <;> rfl
  case status =>
    intro fields flying condition bypassed catchUps counts held
    have run := exec_of_ready ready (i := .satStatus tag clear) tag (.satStatus clear) rfl
    simp only [perform, reqSatStatus_eq] at run
    refine ⟨run.trans ?_, State.syncTest_eq⟩
    have frame : wSatFrame = fields := by
      funext f
      simp [wSatFrame, fields, wFlag]
    have reads : satFields u = held := by
      have inFlight : wInFlight u.inFlight = flying := by
        simp only [flying]
        cases u.inFlight with
        | none => rfl
        | some x => simp [wInFlight, frame]
      have bypass : wBypass u.bypass = bypassed := by
        simp only [bypassed]
        cases u.bypass <;> rfl
      have marked : [.u 1 u.activationCount, wFlag u.condition] = condition := by
        simp only [condition, Satellite.condition, wFlag]
        by_cases some : 0 < u.activationCount <;> simp [some]
      unfold satFields wList
      rw [inFlight, bypass, marked, frame, show u.catchUp.flatMap wCatchUp = catchUps from rfl]
      simp [held, counts]
    by_cases high : 1 < clear
    · rw [if_pos high, if_pos high]
      rfl
    · rw [if_neg high, if_neg high, ← reads]
      rfl

end Sys2Proof.Machine
end

section
/-! PROOFS. The satellite lines (R191 to R193, R196, R197). -/
namespace Sys2Proof.Machine

/-! ## Frames on the satellite lines -/

/-- A command of the lines, in an open frame that has not begun to end. -/
theorem exec_inFrame {s : State} {i : Instr} (running : s.power = .running) (mid : s.midFrame) {f : State → State}
    (h : exec i s = .next (s.inFrame f)) : exec i s = .next (f s) := by
  rw [h, State.inFrame_eq running mid]

/-- R192: SAT_TX_START. -/
theorem Satellite.start_eq (u : Satellite) :
    u.start = match u.queue with
      | [] => u
      | f :: rest =>
        if u.lineBusy = false ∧ u.inFlight = none then
          { u with queue := rest, inFlight := some { frame := f, wait := none, bytes := f.bytes } }
        else u := by
  unfold Satellite.start Satellite.mayStart
  cases queue : u.queue with
  | nil => simp
  | cons f rest =>
    dsimp only
    cases u.lineBusy <;> cases u.inFlight <;> simp

/-- R192: what goes out frees a busy line first. -/
theorem Satellite.sent_busy {u : Satellite} (busy : u.lineBusy = true) : u.sent = { u with lineBusy := false } :=
  if_pos busy

/-- R192: with nothing on the line the end of a transmission changes nothing. -/
theorem Satellite.sent_idle {u : Satellite} (free : u.lineBusy = false)
    (none' : ∀ x, u.inFlight = some x → x.wait.isSome = true) : u.sent = u := by
  unfold Satellite.sent
  rw [free]
  split
  · contradiction
  · split
    · next f bytes h => exact absurd (none' _ h) Bool.false_ne_true
    · rfl

/-- R192: the frame on the line has gone out. -/
theorem Satellite.sent_frame {u : Satellite} {f : SatFrame} {bytes : List Byte} (free : u.lineBusy = false)
    (flying : u.inFlight = some { frame := f, wait := none, bytes := bytes }) :
    u.sent = if f.acknowledge then
        { u with inFlight := some { frame := f, wait := some ((3 * u.ackTimeout + 1) / 2), bytes := [] } }
      else { u with inFlight := none, activationCount := u.activationCount - f.mark.toNat } := by
  unfold Satellite.sent
  refine (if_neg (by rw [free]; decide)).trans ?_
  rw [flying, Satellite.finish_eq flying, msToFrames_eq] <;> rfl

/-- R193: an ACK from the address waited for. -/
theorem Satellite.ack_match {u : Satellite} {f : SatFrame} {n : Nat} {bytes : List Byte} {address : Nat}
    (flying : u.inFlight = some { frame := f, wait := some n, bytes := bytes }) (same : f.physical = address) :
    u.ack address = { u with inFlight := none, activationCount := u.activationCount - f.mark.toNat } := by
  unfold Satellite.ack
  rw [flying]
  exact (if_pos same).trans (Satellite.finish_eq flying)

/-- R193: any other ACK is stray. -/
theorem Satellite.ack_stray {u : Satellite} {address : Nat}
    (other : ∀ f n bytes, u.inFlight = some { frame := f, wait := some n, bytes := bytes } → f.physical ≠ address) :
    u.ack address = { u with strayAcks := bump u.strayAcks 1 } := by
  unfold Satellite.ack
  split
  · next f n bytes h => exact if_neg (other f n bytes h)
  · rfl

theorem badAddress_iff (address : Byte) : badAddress address = true ↔ address = 0 ∨ address = 255 := by
  simp [badAddress]

/-! ## The waits of the satellite lines -/

theorem Satellite.ackDue_iff (u : Satellite) :
    u.ackDue = true ↔ ∃ f bytes, u.inFlight = some { frame := f, wait := some 0, bytes := bytes } := by
  unfold Satellite.ackDue
  split
  · next f bytes h => exact ⟨fun _ => ⟨f, bytes, h⟩, fun _ => rfl⟩
  · next other => exact ⟨fun h => absurd h (by decide), fun ⟨f, bytes, h⟩ => absurd h (other f bytes)⟩

theorem Satellite.bypassDue_iff (u : Satellite) :
    u.bypassDue = true ↔ ∃ t, u.bypass = some { timeout := t, remaining := some 0 } := by
  unfold Satellite.bypassDue
  split
  · next t h => exact ⟨fun _ => ⟨t, h⟩, fun _ => rfl⟩
  · next other => exact ⟨fun h => absurd h (by decide), fun ⟨t, h⟩ => absurd h (other t)⟩

/-- R192: the ACK wait expires. -/
theorem State.satTimeout_eq {s : State} {x : InFlight} (flying : s.sat.inFlight = some x) :
    s.satTimeout =
      (({ s with sat := { s.sat with
          inFlight := none, activationCount := s.sat.activationCount - x.frame.mark.toNat,
          timeouts := min 65535 (s.sat.timeouts + 1) } } : State).syncTest).post
        (.satTimeout x.frame.physical x.frame.logical x.frame.origin x.frame.tag) (x.frame.tag.getD 0) := by
  unfold State.satTimeout
  rw [flying]
  dsimp only
  rw [Satellite.finish_eq flying]
  cases x.frame.tag <;> rfl

/-- Settles O54: each event of the lines by what is in flight. -/
theorem satelliteLinesFinishFrames : Obligations.SatelliteLinesFinishFrames := by
  unfold Obligations.SatelliteLinesFinishFrames
  intro s address payload running put finished framing u
  have closed : s.endFrame = u := rfl
  clear_value u
  refine ⟨fun mid => ?lines, State.syncTest_eq, ?ack, ?bypass⟩
  case lines =>
    have line {i : Instr} {f : State → State} (h : exec i s = .next (s.inFrame f)) : exec i s = .next (f s) :=
      exec_inFrame running mid h
    have framed {i : Instr} (h : exec i s = .next (s.inFrame fun s => { s with sat := s.sat.framing })) :
        exec i s = .next framing := line h
    have ended : exec .satTxEnd s = .next (s.withSat s.sat.sent) := line (f := fun s => s.withSat s.sat.sent) rfl
    have acked : exec (.satAck address) s = .next (s.takeAck address) := line (f := fun s => s.takeAck address) rfl
    refine ⟨?start, ?busy, ?idle, ?sent, ?unknown, ?known, ?data, framed rfl, framed rfl⟩
    case start =>
      refine (line rfl).trans ?_
      rw [Satellite.start_eq]
      cases queue : s.sat.queue with
      | nil => rfl
      | cons f rest =>
        dsimp only
        split_ifs <;> rfl
    case busy =>
      intro busy
      rw [ended, Satellite.sent_busy busy]
      rfl
    case idle =>
      intro free none'
      rw [ended, Satellite.sent_idle free none']
      rfl
    case sent =>
      intro free f bytes flying
      rw [ended, Satellite.sent_frame free flying]
      split_ifs <;> rfl
    case unknown => exact fun bad => acked.trans (congrArg Host.Outcome.next (if_pos ((badAddress_iff address).mpr bad)))
    case known =>
      intro low high
      have good : ¬ badAddress address = true := fun h => ((badAddress_iff address).mp h).elim low high
      have acks : exec (.satAck address) s = .next (s.withSat (s.sat.ack address.toNat)) :=
        acked.trans (congrArg Host.Outcome.next (if_neg good))
      constructor
      · intro f n bytes flying same
        rw [acks, Satellite.ack_match flying same]
        rfl
      · intro other
        rw [acks, Satellite.ack_stray other]
        rfl
    case data =>
      refine (line rfl).trans (congrArg Host.Outcome.next ?_)
      have bad : (address = 0 ∨ address = 255 ∨ payload.length < 1 ∨ 16 < payload.length) ↔
          (badAddress address = true ∨ payload.length < 1 ∨ 16 < payload.length) := by
        rw [badAddress_iff, or_assoc]
      exact (if_congr bad rfl rfl).symm
  case ack =>
    have run : exec .satAckTimeout s = _ :=
      congrArg Host.Outcome.next (State.atFrameEnd_eq running State.ackDue State.satTimeout)
    rw [closed] at run
    refine run.trans (congrArg Host.Outcome.next ?_)
    generalize result : (if (s.frameOpen && u.ackDue) = true then u.satTimeout else s) = r
    split
    · next f bytes opened flying =>
      have due : u.ackDue = true := (Satellite.ackDue_iff u.sat).mpr ⟨f, bytes, flying⟩
      rw [← result, opened, due, State.satTimeout_eq flying]
      rfl
    · next other =>
      refine result.symm.trans (if_neg fun due => ?_)
      obtain ⟨opened, due⟩ := Bool.and_eq_true_iff.mp due
      obtain ⟨f, bytes, flying⟩ := (Satellite.ackDue_iff u.sat).mp due
      exact other f bytes opened flying
  case bypass =>
    have run : exec .satBypassTimeout s = _ :=
      congrArg Host.Outcome.next (State.atFrameEnd_eq running State.bypassDue State.bypassEvent)
    rw [closed] at run
    refine run.trans (congrArg Host.Outcome.next ?_)
    generalize result : (if (s.frameOpen && u.bypassDue) = true then u.bypassEvent else s) = r
    split
    · next t opened timer =>
      have due : u.bypassDue = true := (Satellite.bypassDue_iff u.sat).mpr ⟨t, timer⟩
      exact result.symm.trans <| (if_pos (by rw [opened]; exact due)).trans ((State.endBypass_eq u).trans (by rw [timer]))
    · next other =>
      refine result.symm.trans (if_neg fun due => ?_)
      obtain ⟨opened, due⟩ := Bool.and_eq_true_iff.mp due
      obtain ⟨t, timer⟩ := (Satellite.bypassDue_iff u.sat).mp due
      exact other t opened timer

end Sys2Proof.Machine
end

section
/-! PROOFS. The control link: frames that arrive, the transmitters and the resets (R199 to R203, R208, R209). -/
namespace Sys2Proof.Machine

/-! ## Frames that arrive -/

/-- Log 8: a request command is the arrival of its frame. -/
theorem exec_request {i : Instr} {tag : Byte} {r : Request} (h : requestOf i = some (tag, r)) (s : State) :
    exec i s = .next (s.arrival tag r) := by
  cases i <;> cases h <;> rfl

/-- R200: a valid frame is taken, held, discarded as an overrun, or without effect. -/
theorem receive_eq (f : ControlFrame) (s : State) :
    receive f s =
      if s.control.gate ≠ .taking then s
      else if s.control.replies.length < 8 then takeFrame f s
      else if s.control.hold.length < 2 then { s with control := { s.control with hold := s.control.hold ++ [f] } }
      else { s with control := { s.control with overruns := min 65535 (s.control.overruns + 1) } } := by
  unfold receive
  cases gate : s.control.gate with
  | taking =>
    rw [if_neg (not_not.mpr rfl)]
    refine if_congr Iff.rfl rfl ?_
    exact apply_ite (fun c => ({ s with control := c } : State)) _ _ _
  | startDiscard => rfl
  | resetDiscard => rfl

/-- R199, R209: a frame that is not valid is counted, but not before READY has gone out. -/
theorem ControlLink.badFrame_eq (c : ControlLink) :
    c.badFrame =
      if c.gate = .startDiscard then c else { c with framingErrors := min 65535 (c.framingErrors + 1) } := by
  unfold ControlLink.badFrame
  cases c.gate <;> rfl

/-- Settles O55: a frame that arrives, by the gate and the two queues. -/
theorem requestsAreTakenHeldOrDiscarded : Obligations.RequestsAreTakenHeldOrDiscarded := by
  unfold Obligations.RequestsAreTakenHeldOrDiscarded
  intro s running mid taken arrives discarded
  have receives (f : ControlFrame) : receive f s = arrives f :=
    (receive_eq f s).trans (if_congr Iff.rfl rfl (if_congr Iff.rfl (takeFrame_eq f s) rfl))
  have bad : ({ s with control := s.control.badFrame } : State) = discarded := by
    rw [ControlLink.badFrame_eq]
    exact apply_ite (fun c => ({ s with control := c } : State)) _ _ _
  have line {i : Instr} {f : State → State} (h : exec i s = .next (s.inFrame f)) : exec i s = .next (f s) :=
    exec_inFrame running mid h
  have counts {i : Instr} (h : exec i s = .next (s.inFrame fun s => { s with control := s.control.badFrame })) :
      exec i s = .next discarded := (line h).trans (congrArg Host.Outcome.next bad)
  have frame (bytes : List Byte) : exec (.controlFrameReceived bytes) s =
      .next (match parseFrame bytes with
        | some f => receive f s
        | none => { s with control := s.control.badFrame }) :=
    line (f := fun s => match parseFrame bytes with
      | some f => receive f s
      | none => { s with control := s.control.badFrame }) rfl
  refine ⟨fun i tag r h => ?_, fun bytes f h => ?_, fun bytes h => ?_, counts rfl, counts rfl⟩
  · rw [exec_request h]
    exact congrArg Host.Outcome.next ((State.inFrame_eq running mid _).trans (receives _))
  · rw [frame, h]
    exact congrArg Host.Outcome.next (receives f)
  · rw [frame, h]
    exact congrArg Host.Outcome.next bad

/-! ## The transmitters -/

/-- R203: the head notice departs. -/
theorem NoticeQueue.depart_cons {q : NoticeQueue} {n : Notice} {more : List Notice} (head : q.queue = n :: more)
    (routed : Bool) (frame : Nat) :
    q.depart routed frame =
      if n.body.kind = .overflow then { q with queue := more, overflow := .clear }
      else
        match q.overflow with
        | .pending c =>
          if routed then
            { q with queue := more ++ [{ body := .overflow c, frame := frame, tag := 0 }], overflow := .queued }
          else { q with queue := more, overflow := .clear }
        | _ => { q with queue := more } := by
  unfold NoticeQueue.depart
  rw [head]
  obtain ⟨body, _, _⟩ := n
  cases body
  case overflow => rfl
  all_goals cases q.overflow <;> rfl

/-- R166: the head message leaves the display queue. -/
theorem PedalLink.displayStart_eq (p : PedalLink) :
    p.displayStart = match p.display with
      | [] => p
      | m :: rest =>
        if p.displayTx = none then { p with display := rest, displayTx := some { message := m, bytes := m.bytes } }
        else p := by
  unfold PedalLink.displayStart
  cases p.display with
  | nil => cases p.displayTx <;> rfl
  | cons m rest =>
    dsimp only
    cases p.displayTx <;> rfl

/-- A link unit put back as it is. -/
theorem State.setLink_self (s : State) (l : Link) : s.setLink l (s.pedals.get l) = s := by
  unfold State.setLink
  rw [PerLink.set_get]

/-- Settles O56: the outbound line by what waits for it, then the display lines. -/
theorem transmittersSendTheHeadOfTheirQueue : Obligations.TransmittersSendTheHeadOfTheirQueue := by
  unfold Obligations.TransmittersSendTheHeadOfTheirQueue
  intro s l running mid q sent answers
  have line {i : Instr} {f : State → State} (h : exec i s = .next (s.inFrame f)) : exec i s = .next (f s) :=
    exec_inFrame running mid h
  have starts {t : State} (h : txStart s = t) : answers t := (line (f := txStart) rfl).trans (by rw [h])
  clear_value answers
  refine ⟨?nothing, ?reply, ?notice, ?display⟩
  case nothing =>
    intro nothing
    refine starts ?_
    unfold txStart
    rcases nothing with busy | ⟨replies, queue⟩
    · obtain ⟨t, ht⟩ := Option.isSome_iff_exists.mp busy
      rw [ht]
    · rw [replies, show s.notices.queue = [] from queue]
      cases s.control.tx <;> rfl
  case reply =>
    intro free r more replies
    have begun : txStart s = sendReply s r more := by
      unfold txStart
      rw [free, replies]
    unfold sendReply takeHeld at begun
    cases hold : s.control.hold with
    | nil =>
      refine starts (begun.trans ?_)
      dsimp only
      rw [hold]
    | cons f rest =>
      refine starts (begun.trans ?_)
      dsimp only
      rw [hold]
      exact takeFrame_eq f _
  case notice =>
    intro free replies n more queue line'
    have begun : txStart s = sendNotice s n := by
      unfold txStart
      rw [free, replies, show s.notices.queue = n :: more from queue]
    have gone : line' = { s.control with tx := some { item := .notice n, bytes := n.bytes } } := by
      simp only [line', sent, ← replies]
    have departs {q' : NoticeQueue} (h : q.depart s.overflowRouted s.frameCounter = q') :
        answers { s with control := line', notices := q' } :=
      starts (begun.trans (by rw [gone, ← h]; rfl))
    have head := NoticeQueue.depart_cons queue s.overflowRouted s.frameCounter
    by_cases overflow : n.body.kind = .overflow
    · rw [if_pos overflow]
      exact departs (head.trans (if_pos overflow))
    · rw [if_neg overflow]
      have head := head.trans (if_neg overflow)
      cases state : q.overflow with
      | pending c =>
        rw [state] at head
        dsimp only
        by_cases routed : (s.destinations .overflow).control = true
        · rw [if_pos routed]
          exact departs (head.trans (if_pos routed))
        · rw [if_neg routed]
          exact departs (head.trans (if_neg routed))
      | clear =>
        rw [state] at head
        exact departs head
      | queued =>
        rw [state] at head
        exact departs head
  case display =>
    intro p put
    refine ⟨?_, line (f := fun s => s.onLink l PedalLink.displayEnd) rfl⟩
    refine (line (f := fun s => s.onLink l PedalLink.displayStart) rfl).trans (congrArg Host.Outcome.next ?_)
    unfold State.onLink
    rw [PedalLink.displayStart_eq]
    change s.setLink l (match p.display with
      | [] => p
      | m :: rest =>
        if p.displayTx = none then { p with display := rest, displayTx := some { message := m, bytes := m.bytes } }
        else p) = _
    have same : s.setLink l p = s := s.setLink_self l
    cases display : p.display with
    | nil => exact same
    | cons m rest =>
      dsimp only
      by_cases free : p.displayTx = none
      · rw [if_pos free, if_pos free]
        rfl
      · rw [if_neg free, if_neg free]
        exact same

/-! ## The resets -/

/-- R208: the frame on the line is the OK reply of a RESET. -/
theorem isResetReply_iff (r : Reply) : isResetReply (.reply r) = true ↔ r.kind = 0x2E ∧ r.code = .ok := by
  simp [isResetReply]

/-- R208, R209: the frame on the line is READY. -/
theorem isReady_iff (n : Notice) : isReady (.notice n) = true ↔ n.body.kind = .ready := by
  obtain ⟨body, _, _⟩ := n
  cases body <;> simp [isReady, NoticeBody.kind]

/-- R69: a record that was being measured is aborted, the other stands. -/
theorem LoopUnit.abort_eq (u : LoopUnit) :
    let aborted (l : LoopId) (r : LoopRecord) : LoopRecord :=
      match u.measuring with
      | none => r
      | some m => if m.loop = l then { r with status := .aborted } else r
    u.abort = { loop1 := aborted .one u.loop1, loop2 := aborted .two u.loop2, measuring := none } := by
  intro aborted
  unfold LoopUnit.abort
  obtain ⟨one, two, measuring⟩ := u
  cases measuring with
  | none => rfl
  | some m =>
    obtain ⟨loop, _, _, _⟩ := m
    cases loop <;> rfl

/-- Log 20: a frame whose transmission has begun is sent to its end. -/
theorem Satellite.softReset_eq (u : Satellite) :
    u.softReset = { Satellite.reset u.table with
      lineBusy := u.lineBusy || (match u.inFlight with | some x => x.wait.isNone | none => false) } := by
  unfold Satellite.softReset
  rcases u.inFlight with _ | ⟨f, _ | n, bytes⟩ <;> rfl

/-- Settles O57: the RESET request, the outbound line as it falls idle, and the power-on reset. -/
theorem resetsKeepWhatTheRulesName : Obligations.ResetsKeepWhatTheRulesName := by
  unfold Obligations.ResetsKeepWhatTheRulesName
  intro s tag
  refine ⟨fun ready => ?request, ?line, rfl, rfl, rfl⟩
  case request =>
    rw [exec_of_ready ready tag .reset rfl]
    rfl
  case line =>
    intro aborted link busy soft running mid
    have line {i : Instr} {f : State → State} (h : exec i s = .next (s.inFrame f)) : exec i s = .next (f s) :=
      exec_inFrame running mid h
    have ends : exec .controlTxEnd s = .next (txEnd s) := line (f := txEnd) rfl
    have resets : exec .softReset s = .next (if resetReplyLeaving s then softReset s else s) :=
      line (f := fun s => if resetReplyLeaving s then softReset s else s) rfl
    have softens : softReset s = soft := by
      unfold softReset LoopUnit.softReset
      rw [LoopUnit.abort_eq, Satellite.softReset_eq] <;> rfl
    unfold txEnd at ends
    unfold resetReplyLeaving at resets
    refine ⟨fun idle => ?idle, fun r bytes leaves => ?reply, fun n bytes leaves => ?notice⟩
    case idle =>
      rw [idle] at ends resets
      exact ⟨ends, resets⟩
    case reply =>
      rw [leaves] at ends resets
      dsimp only at ends resets
      by_cases reset : r.kind = 0x2E ∧ r.code = .ok
      · rw [if_pos reset, ends, resets, if_pos ((isResetReply_iff r).mpr reset),
          if_pos ((isResetReply_iff r).mpr reset), softens]
        exact ⟨rfl, rfl⟩
      · have other : ¬ isResetReply (.reply r) = true := fun h => reset ((isResetReply_iff r).mp h)
        rw [if_neg reset, ends, resets, if_neg other, if_neg other]
        exact ⟨rfl, rfl⟩
    case notice =>
      rw [leaves] at ends resets
      refine ⟨resets, ends.trans ?_⟩
      exact congrArg
        (fun gate => Host.Outcome.next { s with control := { s.control with tx := none, gate := gate } })
        (if_congr (isReady_iff n) rfl rfl)

end Sys2Proof.Machine
end

section
/-! PROOFS. SWITCH_DOWN and SWITCH_RELEASE (R158, R160 to R165). -/
namespace Sys2Proof.Machine

/-! ## Switch records -/

@[simp] theorem State.onLink_setLink (s : State) (l : Link) (p : PedalLink) (f : PedalLink → PedalLink) :
    (s.setLink l p).onLink l f = s.setLink l (f p) := by
  simp [State.onLink, State.setLink]

@[simp] theorem State.setSwitch_setLink (s : State) (l : Link) (p : PedalLink) (n : Nat) (r : SwitchRecord) :
    (s.setLink l p).setSwitch l n r = s.setLink l (p.setSwitch n r) :=
  s.onLink_setLink l p _

@[simp] theorem State.switchAt_setLink (s : State) (l : Link) (p : PedalLink) (n : Nat) :
    (s.setLink l p).switchAt l n = p.switch n := by
  simp [State.switchAt]

@[simp] theorem PedalLink.setSwitch_setSwitch (p : PedalLink) (n : Nat) (r x : SwitchRecord) :
    (p.setSwitch n r).setSwitch n x = p.setSwitch n x := by
  simp [PedalLink.setSwitch]

theorem PedalLink.switch_setSwitch {p : PedalLink} {n : Nat} (h : n < p.switches.length) (r : SwitchRecord) :
    (p.setSwitch n r).switch n = r := by
  simp [PedalLink.switch, PedalLink.setSwitch, h]

theorem PedalLink.switch_setSwitch_ne (p : PedalLink) {n t : Nat} (h : t ≠ n) (r : SwitchRecord) :
    (p.setSwitch n r).switch t = p.switch t := by
  simp [PedalLink.switch, PedalLink.setSwitch, List.getElem?_set_ne h.symm]

@[simp] theorem PedalLink.setSwitch_self (p : PedalLink) (n : Nat) : p.setSwitch n (p.switch n) = p := by
  obtain ⟨_, _, _, switches⟩ := p
  simp only [PedalLink.setSwitch, PedalLink.switch, PedalLink.mk.injEq, true_and, and_true]
  refine List.ext_getElem (by simp) fun k h k' => ?_
  rw [List.getElem_set]
  split_ifs with same
  · subst same
    simp [k']
  · rfl

/-- R160: the record of a switch is the same after a gesture fires. -/
theorem State.switchAt_fire (s : State) (snap : List MapEntry) (n : Nat) (g : Gesture) (l : Link) (k : Nat) :
    (s.fire snap n g).switchAt l k = s.switchAt l k := by
  unfold State.fire
  cases entryFor snap n g with
  | none => rfl
  | some e =>
    simp only [State.switchAt, PedalLink.switch]
    rw [State.dispatch_switches]

/-! ## The down event -/

/-- R162: the earlier of the best so far and one switch more. -/
def PedalLink.earlier (p : PedalLink) (best : Option Nat) (t : Nat) : Option Nat :=
  match best with
  | none => some t
  | some b => if (p.switch t).order < (p.switch b).order then some t else some b

theorem PedalLink.earliest_foldl (p : PedalLink) (ts : List Nat) : p.earliest ts = ts.foldl p.earlier none := rfl

theorem PedalLink.earlier_mem {p : PedalLink} {best : Option Nat} {t k : Nat} (h : p.earlier best t = some k) :
    best = some k ∨ k = t := by
  cases best with
  | none => exact Or.inr (Option.some.inj h).symm
  | some b =>
    unfold PedalLink.earlier at h
    dsimp only at h
    split_ifs at h
    · exact Or.inr (Option.some.inj h).symm
    · exact Or.inl h

theorem PedalLink.earlier_wins {p : PedalLink} {best : Option Nat} {t : Nat}
    (least : ∀ b, best = some b → b ≠ t → (p.switch t).order < (p.switch b).order) : p.earlier best t = some t := by
  cases best with
  | none => rfl
  | some b =>
    unfold PedalLink.earlier
    by_cases same : b = t
    · simp [same]
    · exact if_pos (least b rfl same)

theorem PedalLink.earlier_stays {p : PedalLink} {t k : Nat} (least : k ≠ t → (p.switch t).order < (p.switch k).order) :
    p.earlier (some t) k = some t := by
  by_cases same : k = t
  · rw [same]; exact PedalLink.earlier_wins fun b h other => absurd (Option.some.inj h).symm other
  · exact if_neg (Nat.not_lt.mpr (Nat.le_of_lt (least same)))

theorem PedalLink.foldl_earlier {p : PedalLink} {ts : List Nat} {t : Nat} (best : Option Nat)
    (mem : best = some t ∨ t ∈ ts)
    (least : ∀ k, best = some k ∨ k ∈ ts → k ≠ t → (p.switch t).order < (p.switch k).order) :
    ts.foldl p.earlier best = some t := by
  induction ts generalizing best with
  | nil => simpa using mem
  | cons k rest ih =>
    rw [List.foldl_cons]
    refine ih _ ?_ fun j hj => least j ?_
    · rcases mem with first | later
      · exact Or.inl (by rw [first]; exact PedalLink.earlier_stays (least k (by simp)))
      · rcases List.mem_cons.mp later with here | after
        · exact Or.inl (by rw [← here]; exact PedalLink.earlier_wins fun b hb => least b (Or.inl hb))
        · exact Or.inr after
    · rcases hj with chosen | after
      · rcases PedalLink.earlier_mem chosen with before | same
        · exact Or.inl before
        · exact Or.inr (by simp [same])
      · exact Or.inr (List.mem_cons_of_mem _ after)

/-- R162: the partner whose down event came earliest. -/
theorem PedalLink.earliest_eq {p : PedalLink} {ts : List Nat} {t : Nat} (mem : t ∈ ts)
    (least : ∀ k ∈ ts, k ≠ t → (p.switch t).order < (p.switch k).order) : p.earliest ts = some t :=
  PedalLink.foldl_earlier none (Or.inr mem) fun k h => least k (h.resolve_left (by simp))

/-- R162: switch t waits for a combination with switch n, whose snapshot is the one given. -/
def PedalLink.waits (p : PedalLink) (snap : List MapEntry) (n t : Nat) : Prop :=
  t ≠ n ∧ t < p.switches.length ∧ (p.switch t).state = .comboWait ∧
    ((entryFor snap n (.combo t)).isSome = true ∨ (entryFor snap t (.combo n)).isSome = true)

/-- R162: what the record of n holds is no matter of its partners. -/
theorem PedalLink.mem_partners (p : PedalLink) (snap : List MapEntry) (n t : Nat) (r : SwitchRecord) :
    t ∈ (p.setSwitch n r).partners snap n ↔ p.waits snap n t := by
  unfold PedalLink.partners PedalLink.waits pairedWith hasEntry
  rw [List.mem_filter, List.mem_range, show (p.setSwitch n r).switches.length = p.switches.length from List.length_set]
  by_cases same : t = n
  · simp [same]
  · rw [PedalLink.switch_setSwitch_ne p same]
    simp [same]

/-- R162: a COMBO fires with the entry of the switch that went down, if it holds one. -/
theorem comboEntry_own {snap : List MapEntry} {n t : Nat} {e : MapEntry}
    (own : entryFor snap n (.combo t) = some e) : comboEntry snap n t = some e := by
  unfold comboEntry
  rw [own]

/-- R162: else with the partner's. -/
theorem comboEntry_other {snap : List MapEntry} {n t : Nat} {e : MapEntry}
    (own : entryFor snap n (.combo t) = none) (other : entryFor snap t (.combo n) = some e) :
    comboEntry snap n t = some e := by
  unfold comboEntry
  rw [own]
  exact other

theorem hasCombo_iff (snap : List MapEntry) : hasCombo snap = true ↔ ∃ e ∈ snap, ∃ t, e.key.gesture = .combo t := by
  unfold hasCombo
  rw [List.any_eq_true]
  refine exists_congr fun e => and_congr_right fun _ => ?_
  cases e.key.gesture <;> simp

/-- R158, R162: the record of switch n as its down event begins. -/
def PedalLink.stamped (p : PedalLink) (n : Nat) (snap : List MapEntry) : SwitchRecord :=
  { p.switch n with
    isDown := true, snapshot := some snap, window := none,
    hold := if (entryFor snap n .hold).isSome then some ((3 * p.holdMs + 1) / 2) else none }

theorem PedalLink.stamp_eq (p : PedalLink) (n : Nat) (snap : List MapEntry) :
    p.stamp n snap = p.setSwitch n (p.stamped n snap) := by
  unfold PedalLink.stamp PedalLink.stamped
  rw [msToFrames_eq]
  rfl

section
variable {s : State} {l : Link} {p : PedalLink} {n : Nat}

/-- R162: a down event from UP, once its snapshot is taken. -/
theorem State.downFromUp_eq (s : State) (l : Link) (p : PedalLink) (n : Nat) :
    (s.setLink l p).downFromUp l n =
      let snap := (s.map.effective l).filter (bearsOn n)
      let q := p.setSwitch n (p.stamped n snap)
      match q.earliest (q.partners snap n) with
      | some t => (s.setLink l q).fireCombo l n t snap
      | none => if hasCombo snap then s.setLink l (q.comboWait n) else (s.setLink l q).enterDown l n := by
  unfold State.downFromUp
  dsimp only
  rw [State.onLink_setLink, PedalLink.stamp_eq, State.setLink_pedals, PerLink.get_set, State.onLink_setLink]
  rfl

/-- R162: the down event fires a COMBO with the earliest partner. -/
theorem State.downFromUp_combo {t : Nat} {e : MapEntry} (low : n < p.switches.length) :
    let snap := (s.map.effective l).filter (bearsOn n)
    p.waits snap n t → (∀ k, p.waits snap n k → k ≠ t → (p.switch t).order < (p.switch k).order) →
    comboEntry snap n t = some e →
    (s.setLink l p).downFromUp l n =
      (s.setLink l ((p.setSwitch n (p.stamped n snap).consume).setSwitch t (p.switch t).consume)).dispatch e 0 := by
  intro snap waits least entry
  rw [State.downFromUp_eq]
  dsimp only
  have partner : (p.setSwitch n (p.stamped n snap)).earliest ((p.setSwitch n (p.stamped n snap)).partners snap n) =
      some t := by
    refine PedalLink.earliest_eq ((p.mem_partners snap n t _).mpr waits) fun k hk other => ?_
    have waits' := (p.mem_partners snap n k _).mp hk
    rw [PedalLink.switch_setSwitch_ne p waits.1, PedalLink.switch_setSwitch_ne p waits'.1]
    exact least k waits' other
  rw [partner]
  dsimp only [State.fireCombo]
  rw [State.onLink_setLink, PedalLink.switch_setSwitch low, PedalLink.switch_setSwitch_ne p waits.1,
    PedalLink.setSwitch_setSwitch]
  change (match comboEntry snap n t with
    | none => _
    | some e => _) = _
  rw [entry]
  rfl

/-- R162: with no partner waiting, the switch waits for a combination or enters DOWN. -/
theorem State.downFromUp_alone :
    let snap := (s.map.effective l).filter (bearsOn n)
    (∀ t, ¬ p.waits snap n t) →
    (s.setLink l p).downFromUp l n =
      let q := p.setSwitch n (p.stamped n snap)
      if hasCombo snap then s.setLink l (q.comboWait n) else (s.setLink l q).enterDown l n := by
  intro snap alone
  rw [State.downFromUp_eq]
  dsimp only
  have none' : (p.setSwitch n (p.stamped n snap)).partners snap n = [] :=
    List.eq_nil_iff_forall_not_mem.mpr fun t h => alone t ((p.mem_partners snap n t _).mp h)
  rw [none']
  rfl

/-- R161: entering DOWN, by the snapshot of the switch. -/
theorem State.enterDown_setLink (s : State) (l : Link) (p : PedalLink) (n : Nat) :
    let r := p.switch n
    (s.setLink l p).enterDown l n =
      if (entryFor r.entries n .hold).isSome then s.setLink l (p.setSwitch n { r with state := .down, window := none })
      else if (entryFor r.entries n .double).isSome then
        s.setLink l (p.setSwitch n { r with state := .doubleWait, window := some ((3 * p.doubleMs + 1) / 2) })
      else (s.setLink l (p.setSwitch n { r with state := .down, window := none })).fire r.entries n .press := by
  intro r
  rw [State.enterDown_eq]
  simp only [State.switchAt_setLink, State.setSwitch_setLink, State.setLink_pedals, PerLink.get_set]
  rfl

/-! ## The release event -/

/-- R164: the row of DOWN. -/
theorem State.releaseRow_down (state : (s.switchAt l n).state = .down) :
    let r := s.switchAt l n
    let x := r.entries
    s.releaseRow l n =
      if (entryFor x n .hold).isSome then
        if (entryFor x n .double).isSome then
          (s.setSwitch l n { r with
            state := .doubleWait, isDown := false, hold := none,
            window := some ((3 * (s.pedals.get l).doubleMs + 1) / 2) }).fire x n .release
        else ((s.setSwitch l n r.up).fire x n .press).fire x n .release
      else (s.setSwitch l n r.up).fire x n .release := by
  intro r x
  unfold State.releaseRow
  dsimp only
  rw [state, msToFrames_eq]
  rfl

/-- R164: the row of DOUBLE_WAIT. -/
theorem State.releaseRow_doubleWait (state : (s.switchAt l n).state = .doubleWait) :
    s.releaseRow l n =
      (s.setSwitch l n { s.switchAt l n with isDown := false }).fire (s.switchAt l n).entries n .release := by
  unfold State.releaseRow
  dsimp only
  rw [state]

theorem State.releaseRow_held (state : (s.switchAt l n).state = .held) :
    s.releaseRow l n = (s.setSwitch l n (s.switchAt l n).up).fire (s.switchAt l n).entries n .release := by
  unfold State.releaseRow
  dsimp only
  rw [state]

theorem State.releaseRow_consumed (state : (s.switchAt l n).state = .consumed) :
    s.releaseRow l n = s.setSwitch l n (s.switchAt l n).up := by
  unfold State.releaseRow
  dsimp only
  rw [state]

/-- R164: an up frame outside COMBO_WAIT. -/
theorem State.takeUp_row (isDown : (s.switchAt l n).isDown = true) (other : (s.switchAt l n).state ≠ .comboWait) :
    s.takeUp l n = s.releaseRow l n := by
  unfold State.takeUp
  refine (if_pos isDown).trans ?_
  split
  · next h => exact absurd h other
  · rfl

/-- R164: an up frame in COMBO_WAIT enters DOWN first. -/
theorem State.takeUp_comboWait (isDown : (s.switchAt l n).isDown = true) (state : (s.switchAt l n).state = .comboWait) :
    s.takeUp l n = (s.enterDown l n).releaseRow l n := by
  unfold State.takeUp
  refine (if_pos isDown).trans ?_
  rw [state]

end

/-- Settles O49: the down event by the state of its switch and its partners, the release by the table. -/
theorem switchFramesFollowTheGestureTable : Obligations.SwitchFramesFollowTheGestureTable := by
  unfold Obligations.SwitchFramesFollowTheGestureTable
  intro s l number d running mid identity below low n p putLink record with1 put r pick fires frames down snap held
    comboRecord consumed waits hasHold hasDouble
  have heard : s.onLink l PedalLink.hear = putLink p := rfl
  have length : n < p.switches.length := low
  have frame (isDown : Bool) (i : Instr) (h : exec i s = .next (s.inFrame fun s => s.takeSwitch l number isDown)) :
      exec i s = .next (if isDown then (putLink p).takeDown l n else (putLink p).takeUp l n) := by
    refine (exec_inFrame running mid h).trans (congrArg Host.Outcome.next ?_)
    unfold State.takeSwitch
    rw [heard]
    dsimp only
    rw [show ((putLink p).pedals.get l).identity = some d by simp only [putLink, PerLink.get_set]; exact identity]
    exact if_neg (Nat.not_le.mpr below)
  have downs : exec (.switchDown l number) s = .next ((putLink p).takeDown l n) := frame true _ rfl
  have ups : exec (.switchRelease l number) s = .next ((putLink p).takeUp l n) := frame false _ rfl
  have rec' : (putLink p).switchAt l n = r := State.switchAt_setLink s l p n
  have begins (isUp : r.isDown = false) (state : r.state = .up) :
      exec (.switchDown l number) s = .next ((putLink p).downFromUp l n) := by
    rw [downs]
    unfold State.takeDown
    dsimp only
    rw [rec', isUp, state]
    rfl
  have stamp : p.stamped n ((s.map.effective l).filter (bearsOn n)) = held := rfl
  refine ⟨?same, ?sameUp, ?double, ?combo, ?wait, ?alone, ?release⟩
  case same =>
    intro isDown
    rw [downs]
    exact congrArg Host.Outcome.next (if_pos (by rw [rec', isDown]))
  case sameUp =>
    intro isUp
    rw [ups]
    exact congrArg Host.Outcome.next (if_neg (by rw [rec', isUp]; decide))
  case double =>
    intro isUp state
    rw [downs]
    refine congrArg Host.Outcome.next ?_
    unfold State.takeDown
    dsimp only
    rw [rec', isUp, state]
    exact congrArg (fun t => State.fire t r.entries n .double) (State.setSwitch_setLink s l p n _)
  case combo =>
    intro isUp state t hw least e entry
    rw [begins isUp state]
    refine congrArg Host.Outcome.next ?_
    refine (State.downFromUp_combo (e := e) length hw least ?_).trans rfl
    rcases entry with own | ⟨none', other⟩
    · exact comboEntry_own own
    · exact comboEntry_other none' other
  case wait =>
    intro isUp state alone combo
    rw [begins isUp state]
    refine congrArg Host.Outcome.next ?_
    refine (State.downFromUp_alone alone).trans ?_
    refine (if_pos ((hasCombo_iff snap).mpr combo)).trans ?_
    unfold PedalLink.comboWait
    rw [PedalLink.switch_setSwitch length, PedalLink.setSwitch_setSwitch, msToFrames_eq]
    rfl
  case alone =>
    intro isUp state alone none'
    have single : ¬ hasCombo snap = true := fun h => by
      obtain ⟨e, mem, t, combo⟩ := (hasCombo_iff snap).mp h
      exact none' e mem t combo
    have enters := (State.downFromUp_alone (s := s) alone).trans (if_neg single)
    rw [State.enterDown_setLink, stamp] at enters
    simp only [PedalLink.switch_setSwitch length, PedalLink.setSwitch_setSwitch] at enters
    have answers {t : State} (h : (s.setLink l p).downFromUp l n = t) : exec (.switchDown l number) s = .next t :=
      (begins isUp state).trans (congrArg Host.Outcome.next h)
    refine ⟨fun hold => answers (enters.trans (if_pos hold)), fun hold double => ?_, fun hold double => ?_⟩
    · exact answers (enters.trans ((if_neg hold).trans (if_pos double)))
    · exact answers (enters.trans ((if_neg hold).trans (if_neg double)))
  case release =>
    intro isDown x up waiting answers
    have row {t : State} (other : r.state ≠ .comboWait) (h : (putLink p).releaseRow l n = t) : answers t :=
      ups.trans (congrArg Host.Outcome.next ((State.takeUp_row (rec' ▸ isDown) (rec' ▸ other)).trans h))
    have enters {t : State} (state : r.state = .comboWait) (h : ((putLink p).enterDown l n).releaseRow l n = t) :
        answers t :=
      ups.trans (congrArg Host.Outcome.next ((State.takeUp_comboWait (rec' ▸ isDown) (rec' ▸ state)).trans h))
    have sets (v : SwitchRecord) : (putLink p).setSwitch l n v = put v := State.setSwitch_setLink s l p n v
    have again (v w : SwitchRecord) : (put v).setSwitch l n w = put w :=
      (State.setSwitch_setLink s l _ n w).trans (congrArg (s.setLink l) (p.setSwitch_setSwitch n v w))
    have same : put r = putLink p := congrArg putLink (p.setSwitch_self n)
    have reads (v : SwitchRecord) : (put v).switchAt l n = v :=
      (State.switchAt_setLink s l _ n).trans (PedalLink.switch_setSwitch length v)
    have fromDown (v : SwitchRecord) (state : v.state = .down) (snapshot : v.entries = x) :
        (put v).releaseRow l n =
          if (entryFor x n .hold).isSome then
            if (entryFor x n .double).isSome then
              fires (put { v with
                state := .doubleWait, isDown := false, hold := none, window := some (frames p.doubleMs) }) x .release
            else fires (fires (put v.up) x .press) x .release
          else fires (put v.up) x .release := by
      have begun := State.releaseRow_down (s := put v) (l := l) (n := n) ((reads v).symm ▸ state)
      have timing : ((put v).pedals.get l).doubleMs = p.doubleMs := by
        simp only [put, putLink, PerLink.get_set, with1]
      simp only [reads, snapshot, again, timing] at begun
      exact begun
    have entered := State.enterDown_setLink s l p n
    have fromRow {t : State} (state : r.state = .down) (h : (put r).releaseRow l n = t) : answers t :=
      row (by rw [state]; decide) (by rw [← same]; exact h)
    refine ⟨fun state hold => ?held, fun state hold => ?plain, fun state hold double => ?deferred,
      fun state hold double => ?pressed, fun state => ?released, fun state => ?waited, fun state => ?used⟩
    case released =>
      refine row (by rw [state]; decide) ((State.releaseRow_held (rec' ▸ state)).trans ?_)
      rw [rec', sets]
      rfl
    case waited =>
      refine row (by rw [state]; decide) ((State.releaseRow_doubleWait (rec' ▸ state)).trans ?_)
      rw [rec', sets]
      rfl
    case used =>
      refine row (by rw [state]; decide) ((State.releaseRow_consumed (rec' ▸ state)).trans ?_)
      rw [rec', sets]
      rfl
    case held =>
      have ends (v : SwitchRecord) (state : v.state = .down) (snapshot : v.entries = x) (isUp : v.up = up)
          (waits : { v with state := .doubleWait, isDown := false, hold := none, window := some (frames p.doubleMs) } =
            waiting) (answered : ∀ {t}, (put v).releaseRow l n = t → answers t) :
          (hasDouble x → answers (fires (put waiting) x .release)) ∧
          (¬ hasDouble x → answers (fires (fires (put up) x .press) x .release)) := by
        have begun := (fromDown v state snapshot).trans (if_pos hold)
        rw [waits, isUp] at begun
        exact ⟨fun double => answered (begun.trans (if_pos double)),
          fun double => answered (begun.trans (if_neg double))⟩
      rcases state with down | wait
      · exact ends r down rfl rfl rfl (fromRow down)
      · exact ends { r with state := .down, window := none } rfl rfl rfl rfl fun h =>
          enters wait ((congrArg (State.releaseRow · l n) (entered.trans (if_pos hold))).trans h)
    case plain => exact fromRow state ((fromDown r state rfl).trans (if_neg hold))
    case deferred =>
      have waits : (putLink p).enterDown l n = put { waiting with isDown := r.isDown, hold := r.hold } :=
        entered.trans ((if_neg hold).trans (if_pos double))
      refine enters state (((congrArg (State.releaseRow · l n) waits).trans
        (State.releaseRow_doubleWait (by rw [reads]))).trans ?_)
      rw [reads, again]
      rfl
    case pressed =>
      intro w q
      have pressed : (putLink p).enterDown l n = w := entered.trans ((if_neg hold).trans (if_neg double))
      have kept : w.switchAt l n = { r with state := .down, window := none } :=
        (State.switchAt_fire _ _ _ _ _ _).trans (reads _)
      refine enters state (((congrArg (State.releaseRow · l n) pressed).trans
        (State.releaseRow_down (by rw [kept]))).trans ?_)
      rw [kept]
      exact if_neg hold

end Sys2Proof.Machine
end

section
/-! PROOFS. Postings on the display lines (R166 to R168, R204). -/
namespace Sys2Proof.Machine

/-! ## The entries and lamps of a link -/

/-- R89: an overlay's entries for a link, if it holds any, stand before the global table's. -/
theorem effectiveFor_eq (overlay entries : List MapEntry) (l : Link) :
    effectiveFor overlay entries l =
      if overlay.filter (fun e => e.key.link == l) = [] then entries.filter (fun e => e.key.link == l)
      else overlay.filter (fun e => e.key.link == l) := by
  unfold effectiveFor entriesFor
  exact if_congr List.isEmpty_iff rfl rfl

/-- R168: the lamps below m, as a sum of powers, stay below 2^m. -/
theorem lampSum_lt (f : Nat → Bool) (m : Nat) :
    ((List.range m).map (fun k => if f k then 2 ^ k else 0)).sum < 2 ^ m := by
  induction m with
  | zero => simp
  | succ m ih =>
    rw [List.range_succ, List.map_append, List.sum_append, Nat.pow_succ]
    by_cases lit : f m = true <;> simp [lit] <;> omega

/-- R168: bit k of the sum is lamp k. -/
theorem lampSum_testBit (f : Nat → Bool) (m k : Nat) :
    ((List.range m).map (fun k => if f k then 2 ^ k else 0)).sum.testBit k = (decide (k < m) && f k) := by
  induction m with
  | zero => simp
  | succ m ih =>
    have low := lampSum_lt f m
    rw [List.range_succ, List.map_append, List.sum_append]
    simp only [List.map_cons, List.map_nil, List.sum_cons, List.sum_nil, Nat.add_zero]
    rcases Nat.lt_trichotomy k m with below | rfl | above
    · cases f m
      · simpa [below, Nat.lt_succ_of_lt below] using ih
      · simpa [Nat.add_comm _ (2 ^ m), Nat.testBit_two_pow_add_gt below, below, Nat.lt_succ_of_lt below] using ih
    · cases lit : f k
      · simpa using Nat.testBit_lt_two_pow low
      · simp [Nat.add_comm _ (2 ^ k), Nat.testBit_two_pow_add_eq, Nat.testBit_lt_two_pow low]
    · have next : (2 : Nat) ^ (m + 1) ≤ 2 ^ k := Nat.pow_le_pow_right (by decide) above
      rw [Nat.testBit_lt_two_pow]
      · simp [Nat.not_lt.mpr above]
      · rw [Nat.pow_succ] at next
        by_cases lit : f m = true <;> simp [lit] <;> omega

/-- R168: lamp k of a display with its switches. -/
theorem lamps_bit (entries : List MapEntry) (enables : List Bool) (switches : Nat) {k : Nat} (small : k < 32) :
    (lamps entries enables switches).getLsbD k = true ↔
      k < switches ∧ ∃ q, lampSlotOf entries k = some q ∧ enables.getD q false = true := by
  unfold lamps
  rw [BitVec.getLsbD_ofNat, lampSum_testBit]
  unfold lampLit
  cases lampSlotOf entries k <;> simp [small]

/-! ## Messages placed -/

/-- R166: a message that fits is placed on a PRESENT link. -/
theorem PedalLink.place_fits {p : PedalLink} {i : Identity} {m : DisplayMsg} (present : p.identity = some i)
    (fits : m.fits i.lines = true) : p.place m = { p with display := placeInQueue p.display m } := by
  unfold PedalLink.place
  rw [present]
  exact if_pos fits

/-- R166: a line the controller does not have is not placed. -/
theorem PedalLink.place_unfit {p : PedalLink} {i : Identity} {m : DisplayMsg} (present : p.identity = some i)
    (unfit : m.fits i.lines = false) : p.place m = p := by
  unfold PedalLink.place
  rw [present]
  exact if_neg (by rw [unfit]; decide)

/-- R204: the copy of a notice on a PRESENT link it is routed to. -/
theorem State.linkWith_routed {s : State} {body : NoticeBody} {l : Link} {i : Identity}
    (present : (s.pedals.get l).identity = some i) (routed : (s.destinations body.kind).pedal l = true) :
    s.linkWith body l = match render s l i body with
      | none => s.pedals.get l
      | some m => (s.pedals.get l).place m := by
  unfold State.linkWith
  rw [present]
  exact if_pos routed

/-- R204: nothing shows on an ABSENT link, or on one the kind is not routed to. -/
theorem State.linkWith_quiet {s : State} {body : NoticeBody} {l : Link}
    (h : (s.pedals.get l).identity = none ∨ (s.destinations body.kind).pedal l = false) :
    s.linkWith body l = s.pedals.get l := by
  unfold State.linkWith
  split
  · rfl
  · next i present =>
    exact if_neg (by rw [h.resolve_left (by simp [present])]; decide)

/-- Settles O59: the message of each kind of notice, and the place it takes. -/
theorem postingsShowOnTheDisplayLines : Obligations.PostingsShowOnTheDisplayLines := by
  unfold Obligations.PostingsShowOnTheDisplayLines
  intro s body tag l p after shows quiet digit line number
  have shown : after = s.linkWith body l := State.post_link s body tag l
  refine ⟨fun h => shown.trans (State.linkWith_quiet h), fun i present routed => ?_⟩
  have begun := shown.trans (State.linkWith_routed present routed)
  have silent (h : render s l i body = none) : quiet := begun.trans (by rw [h])
  have unfit {m : DisplayMsg} (h : render s l i body = some m) (unfit : m.fits i.lines = false) : quiet :=
    begun.trans (by rw [h]; exact PedalLink.place_unfit present unfit)
  have places {m : DisplayMsg} (h : render s l i body = some m) (fits : m.fits i.lines = true) : shows m :=
    begun.trans (by rw [h]; exact PedalLink.place_fits present fits)
  clear_value shows quiet
  clear begun shown
  cases body
  case presetActive b n name scene =>
    by_cases none' : i.lines = 0
    · exact (if_pos none').mpr (unfit rfl (by simp [presetText, DisplayMsg.fits, none']))
    · exact (if_neg none').mpr (places rfl (by simp [DisplayMsg.fits]; omega))
  case sceneActive b n k name clamped notMade =>
    by_cases none' : i.lines = 0
    · refine (if_pos none').mpr (unfit rfl ?_)
      simp [sceneText, DisplayMsg.fits, none']
    · refine (if_neg none').mpr ?_
      by_cases one : i.lines = 1
      · exact (if_pos one).mpr (places (congrArg some (if_pos one)) (by simp [DisplayMsg.fits, one]))
      · exact (if_neg one).mpr (places (congrArg some (if_neg one)) (by simp [DisplayMsg.fits]; omega))
  case slotState b n enables =>
    dsimp only
    refine ⟨_, places rfl rfl, fun k small => (lamps_bit _ enables i.switches small).trans ?_⟩
    rw [effectiveFor_eq]
    cases (s.buffers.get b).context <;> exact Iff.rfl
  case tunerReading r mark confidence => cases mark <;> exact places rfl rfl
  case tunerState state engage input last =>
    rcases state with _ | _ | _ <;> rcases last with _ | ⟨r, _ | _⟩
    case listening.some.live | tracking.none => exact ⟨_, rfl, places rfl rfl⟩
    all_goals exact places rfl rfl
  case beat => exact places rfl rfl
  all_goals exact silent rfl

end Sys2Proof.Machine
end

section
/-! PROOFS. The frames of a pedal link and its presence (R154 to R157, R169). -/
namespace Sys2Proof.Machine

/-! ## Presence -/

/-- R155: an identity that is acceptable. -/
theorem identityOf_eq (switches pedals lines : Byte) :
    let i : Identity := { switches := switches.toNat, pedals := pedals.toNat, lines := lines.toNat }
    identityOf switches pedals lines =
      if 1 ≤ i.switches ∧ i.switches ≤ 32 ∧ i.pedals ≤ 4 ∧ i.lines ≤ 2 then some i else none := by
  intro i
  unfold identityOf
  by_cases good : 1 ≤ i.switches ∧ i.switches ≤ 32 ∧ i.pedals ≤ 4 ∧ i.lines ≤ 2
  · rw [if_pos good]
    exact if_neg (by simp only [i] at good; omega)
  · rw [if_neg good]
    exact if_pos (by simp only [i] at good; omega)

/-- R166: a message placed on the queue of a controller with its display lines. -/
def placeOn (lines : Nat) (queue : List DisplayMsg) (m : DisplayMsg) : List DisplayMsg :=
  if m.fits lines then placeInQueue queue m else queue

/-- R166: messages placed on a PRESENT link. -/
theorem PedalLink.placeAll_eq {p : PedalLink} {i : Identity} (present : p.identity = some i) (ms : List DisplayMsg) :
    p.placeAll ms = { p with display := ms.foldl (placeOn i.lines) p.display } := by
  unfold PedalLink.placeAll
  induction ms generalizing p with
  | nil => rfl
  | cons m rest ih =>
    have one : p.place m = { p with display := placeOn i.lines p.display m } := by
      unfold placeOn
      cases fits : m.fits i.lines
      · exact PedalLink.place_unfit present fits
      · exact PedalLink.place_fits present fits
    rw [List.foldl_cons, List.foldl_cons, one]
    exact ih (p := { p with display := placeOn i.lines p.display m }) present

theorem Context.sceneRecord_name (c : Context) (n : Nat) :
    (c.sceneRecord n).name = ((c.scenes[n]?).map SceneRecord.name).getD [] := by
  unfold Context.sceneRecord Context.scene
  cases c.scenes[n]? <;> rfl

/-- R156: a link is lost. -/
theorem State.linkLost_eq (s : State) (l : Link) (i : Identity) (cause : LinkCause) :
    s.linkLost l i cause =
      let p := s.pedals.get l
      let e := s.tuner.engage
      ((s.setLink l { p with identity := none, switches := p.switches.map SwitchRecord.up, display := [] }).setEngage
        (match l with | .a => { e with pedalA := false } | .b => { e with pedalB := false })).post
          (.linkState l false i cause) := by
  cases l <;> rfl

theorem placeOn_eq (lines : Nat) :
    placeOn lines = fun d m =>
      if (match m with | .text n _ => decide (lines ≤ n) | _ => false) then d
      else if d.any (fun x => x.key == m.key) then d.map (fun x => if x.key == m.key then m else x)
      else d ++ [m] := by
  funext d m
  cases m with
  | text n chars =>
    by_cases fits : n < lines
    · simp [placeOn, DisplayMsg.fits, placeInQueue, fits]
    · simp [placeOn, DisplayMsg.fits, Nat.le_of_not_lt fits, fits]
  | leds _ | tunerView _ _ _ | beat _ => rfl

/-- R169: the messages of a refresh about the ACTIVE context. -/
theorem State.refreshContext_eq (s : State) (l : Link) (i : Identity) :
    s.refreshContext l i =
      match s.active with
      | none => []
      | some (b, c) =>
        let own : List MapEntry := match (s.buffers.get b).context with
          | none => []
          | some c => c.overlay.filter (fun e => e.key.link == l)
        let entries := if own = [] then s.map.entries.filter (fun e => e.key.link == l) else own
        let name (n : Nat) : List Byte := ((c.scenes[n]?).map SceneRecord.name).getD []
        (if (s.destinations .presetActive).pedal l then [presetText c.number c.header.name] else []) ++
        (match c.activeScene with
         | none => []
         | some n =>
           if (s.destinations .sceneActive).pedal l = false then []
           else if i.lines = 1 then
             [.text 0 (pad20 (threeDigits c.number ++ [0x20, 0x53, digit n, 0x20] ++ name n))]
           else [.text 1 (pad20 ([0x53, 0x43, 0x45, 0x4E, 0x45, 0x20, digit n, 0x20] ++ name n))]) ++
        (if (s.destinations .slotState).pedal l then [.leds (lamps entries (c.slots.map Slot.enabled) i.switches)]
         else []) := by
  unfold State.refreshContext
  cases s.active with
  | none => rfl
  | some x =>
    obtain ⟨b, c⟩ := x
    dsimp only [ledsOf]
    rw [effectiveFor_eq]
    congr 1
    · congr 1
      cases c.activeScene with
      | none => rfl
      | some n =>
        dsimp only
        rw [Context.sceneRecord_name]
        unfold sceneText
        cases (s.destinations .sceneActive).pedal l
        · rfl
        · by_cases one : i.lines = 1 <;> simp [one]
    · cases (s.buffers.get b).context <;> rfl

/-- R169: the view of the tuner in a refresh. -/
theorem tunerStateView_eq (state : TunerState) (last : Option (Reading × ReadingMark)) :
    tunerStateView state last =
      match state, last with
      | .off, _ => .tunerView none none .off
      | .listening, some (r, .stale) => .tunerView (some r.note) (some r.cents) .stale
      | _, some (r, _) => .tunerView (some r.note) (some r.cents) .live
      | _, none => .tunerView none none .search := by
  rcases state with _ | _ | _ <;> rcases last with _ | ⟨r, _ | _⟩ <;> rfl

/-- R155, R169: a link is found: LINK_STATE and the refresh. -/
theorem State.linkFound_eq (s : State) (l : Link) (i : Identity) :
    let p := s.pedals.get l
    let v := (s.setLink l { p with
      identity := some i, switches := p.switches.map SwitchRecord.up,
      positions := keepPositions p.positions i.pedals }).post (.linkState l true i .ident)
    s.linkFound l i = { v with pedals := v.pedals.set l { v.pedals.get l with
      display := (v.refreshContext l i ++ v.refreshTuner l).foldl (placeOn i.lines) (v.pedals.get l).display } } := by
  intro p v
  have present : (v.pedals.get l).identity = some i := by
    simp only [v]
    rw [State.post_unrendered _ (fun _ _ _ => rfl), State.setLink_pedals, PerLink.get_set]
  have found : s.linkFound l i = v.setLink l ((v.pedals.get l).placeAll (v.refreshContext l i ++ v.refreshTuner l)) := rfl
  rw [found, PedalLink.placeAll_eq present]
  rfl

/-- Settles O48: each frame of a pedal link by its fields and the presence held. -/
theorem pedalFramesMoveThePresence : Obligations.PedalFramesMoveThePresence := by
  unfold Obligations.PedalFramesMoveThePresence
  intro s l switches pedals lines number position running p put heard refused i acceptable digit line number' order
    found lost
  have finds (w : State) : w.linkFound l i = found w := by
    rw [State.linkFound_eq]
    dsimp only
    rw [State.refreshContext_eq, placeOn_eq]
    unfold State.refreshTuner
    rw [tunerStateView_eq]
    rfl
  have loses (w : State) (old : Identity) (cause : LinkCause) : w.linkLost l old cause = lost w old cause :=
    State.linkLost_eq w l old cause
  clear_value found lost
  have hears : s.onLink l PedalLink.hear = put heard := rfl
  have rejects : (put heard).onLink l PedalLink.reject = put refused := State.onLink_setLink s l heard _
  have reads : ((put heard).pedals.get l).identity = p.identity := by simp only [put, PerLink.get_set, heard]
  refine ⟨fun mid => ?frames, ?silence⟩
  case frames =>
    have line {i : Instr} {f : State → State} (h : exec i s = .next (s.inFrame f)) : exec i s = .next (f s) :=
      exec_inFrame running mid h
    have idents : exec (.pedalIdent l switches pedals lines) s = .next (s.takeIdent l switches pedals lines) :=
      line (f := fun s => s.takeIdent l switches pedals lines) rfl
    have known := identityOf_eq switches pedals lines
    refine ⟨fun bad => ?badIdent, fun good absent => ?firstIdent, fun good old present => ?nextIdent, fun above => ?switch,
      fun above => ?badExpr, fun d present low => ?expr, line (f := fun s => s.onLink l fun p => p.badFrame .framing) rfl,
      line (f := fun s => s.onLink l PedalLink.framing) rfl, line (f := fun s => s.onLink l fun p => p.badFrame .unknownForm) rfl,
      ?noPresence⟩
    case badIdent =>
      rw [idents]
      unfold State.takeIdent
      rw [hears, known.trans (if_neg bad)]
      exact congrArg Host.Outcome.next rejects
    case firstIdent =>
      rw [idents, ← finds]
      unfold State.takeIdent
      rw [hears, known.trans (if_pos good)]
      dsimp only
      rw [reads, absent]
    case nextIdent =>
      rw [idents, ← finds, ← loses]
      unfold State.takeIdent
      rw [hears, known.trans (if_pos good)]
      dsimp only
      rw [reads, present]
    case switch =>
      have refuses (isDown : Bool) : s.takeSwitch l number isDown = put refused := by
        unfold State.takeSwitch
        rw [hears]
        dsimp only
        rw [reads]
        cases present : p.identity with
        | none => exact rejects
        | some d => exact (if_pos (above d present)).trans rejects
      exact ⟨(line (f := fun s => s.takeSwitch l number true) rfl).trans (congrArg _ (refuses true)),
        (line (f := fun s => s.takeSwitch l number false) rfl).trans (congrArg _ (refuses false))⟩
    case badExpr =>
      refine (line (f := fun s => s.takeExpr l number position) rfl).trans (congrArg Host.Outcome.next ?_)
      unfold State.takeExpr
      rw [hears]
      dsimp only
      rw [reads]
      cases present : p.identity with
      | none => exact rejects
      | some d => exact (if_pos (above d present)).trans rejects
    case expr =>
      intro v
      refine (line (f := fun s => s.takeExpr l number position) rfl).trans (congrArg Host.Outcome.next ?_)
      unfold State.takeExpr
      rw [hears]
      dsimp only
      rw [reads.trans present]
      refine (if_neg (Nat.not_le.mpr low)).trans ?_
      have positions : ((put heard).pedals.get l).positions = p.positions := by simp only [put, PerLink.get_set, heard]
      rw [positions]
      refine if_congr Iff.rfl rfl ?_
      unfold State.takeMove
      rw [show (put heard).onLink l _ = _ from State.onLink_setLink s l heard _]
      rfl
    case noPresence =>
      refine (line (f := fun s => s.onLink l fun p => p.badFrame .noPresence) rfl).trans (congrArg Host.Outcome.next ?_)
      change s.setLink l (if p.identity.isNone then heard.reject else p) = _
      cases present : p.identity with
      | none => rfl
      | some d => exact s.setLink_self l
  case silence =>
    intro u
    have run : exec (.pedalSilenceTimeout l) s =
        .next (if (s.frameOpen && u.silenceDue l) = true then u.silenceEvent l else s) := congrArg Host.Outcome.next
      (State.atFrameEnd_eq running (fun t => t.silenceDue l) (fun t => t.silenceEvent l))
    clear_value u
    refine run.trans (congrArg Host.Outcome.next ?_)
    unfold State.silenceDue State.silenceEvent PedalLink.silent
    cases present : (u.pedals.get l).identity with
    | none =>
      refine if_neg ?_
      rw [Option.isSome_none, Bool.false_and, Bool.and_false]
      decide
    | some d =>
      refine if_congr ?_ (loses u d .silence) rfl
      rw [Option.isSome_some, Bool.true_and, Bool.and_eq_true, beq_iff_eq]
      rfl

end Sys2Proof.Machine
end

section
/-! PROOFS. The targets of a map entry (R175 to R179, R190). -/
namespace Sys2Proof.Machine

/-! ## PRESET_STEP -/

/-- R176: how far the step order goes before it reaches a location. -/
def stepRank (d : Direction) (start : Option Nat) (n : Nat) : Nat :=
  match d, start with
  | .up, some a => (n + 255 - a) % 256
  | .down, some a => (a + 255 - n) % 256
  | .up, none => n
  | .down, none => 255 - n

/-- R176: the location the step order reaches after so many others. -/
def stepAt (d : Direction) (start : Option Nat) (k : Nat) : Nat :=
  match d, start with
  | .up, some a => (a + 1 + k) % 256
  | .down, some a => (a + 255 - k) % 256
  | .up, none => k
  | .down, none => 255 - k

theorem stepOrder_eq (d : Direction) (start : Option Nat) :
    stepOrder d start = (List.range 256).map (stepAt d start) := by
  rcases d with _ | _ <;> rcases start with _ | a
  case up.none => exact (List.map_id _).symm
  case down.none => exact (congrArg List.reverse List.range_eq_range').trans (List.reverse_range' (s := 0))
  all_goals rfl

theorem stepAt_lt (d : Direction) (start : Option Nat) {k : Nat} (h : k < 256) : stepAt d start k < 256 := by
  rcases d with _ | _ <;> rcases start with _ | a <;> simp only [stepAt] <;> omega

theorem stepRank_lt (d : Direction) (start : Option Nat) {n : Nat} (h : n < 256) : stepRank d start n < 256 := by
  rcases d with _ | _ <;> rcases start with _ | a <;> simp only [stepRank] <;> omega

/-- R176: the order reaches each location once, after as many others as its rank says. -/
theorem stepAt_stepRank (d : Direction) (start : Option Nat) {n : Nat} (h : n < 256) :
    stepAt d start (stepRank d (start.map (· % 256)) n) = n := by
  rcases d with _ | _ <;> rcases start with _ | a <;> simp only [stepAt, stepRank, Option.map_some, Option.map_none] <;> omega

theorem stepRank_stepAt (d : Direction) (start : Option Nat) {k : Nat} (h : k < 256) :
    stepRank d (start.map (· % 256)) (stepAt d start k) = k := by
  rcases d with _ | _ <;> rcases start with _ | a <;> simp only [stepAt, stepRank, Option.map_some, Option.map_none] <;> omega

/-- R176: the first location of the order at which a preset is held. -/
theorem find_stepOrder {d : Direction} {start : Option Nat} {held : Nat → Bool} {n : Nat} (low : n < 256)
    (holds : held n = true)
    (least : ∀ m, m < 256 → held m = true → stepRank d (start.map (· % 256)) n ≤ stepRank d (start.map (· % 256)) m) :
    (stepOrder d start).find? held = some n := by
  have first : (List.range 256).find? (held ∘ stepAt d start) = some (stepRank d (start.map (· % 256)) n) := by
    refine List.find?_range_eq_some.mpr ⟨?_, List.mem_range.mpr (stepRank_lt _ _ low), fun j hj => ?_⟩
    · exact (congrArg held (stepAt_stepRank d start low)).trans holds
    · have small : j < 256 := Nat.lt_trans hj (stepRank_lt _ _ low)
      refine Bool.not_eq_true' _ |>.mpr (Bool.eq_false_iff.mpr fun h => ?_)
      have later := least _ (stepAt_lt d start small) h
      rw [stepRank_stepAt d start small] at later
      omega
  rw [stepOrder_eq, List.find?_map, first]
  exact congrArg some (stepAt_stepRank d start low)

theorem find_stepOrder_none {d : Direction} {start : Option Nat} {held : Nat → Bool}
    (nothing : ∀ m, m < 256 → held m = false) : (stepOrder d start).find? held = none := by
  rw [stepOrder_eq, List.find?_eq_none]
  intro m hm
  obtain ⟨k, hk, rfl⟩ := List.mem_map.mp hm
  simp [nothing _ (stepAt_lt d start (List.mem_range.mp hk))]

/-! ## Slots, parameters and messages -/

/-- R50: an enabled value that changes starts both bypass ramps and posts SLOT_STATE. -/
theorem State.setSlotEnabled_eq (s : State) (b : BufferId) (c : Context) (n : Nat) (x : Slot) (on : Bool) :
    let new : Slot := { x with
      enabled := on, wet := x.wet.retarget (if on then 192 else 0), dry := x.dry.retarget (if on then 0 else 192) }
    let c' : Context := { c with slots := c.slots.set n new }
    s.setSlotEnabled b c n x on =
      if x.enabled = on then s
      else (s.setContext b c').post (.slotState b c.number (c'.slots.map Slot.enabled)) := by
  intro new c'
  have changes (h : ¬ x.enabled = on) : x.setEnabled true on = new := by
    unfold Slot.setEnabled
    rw [if_neg h]
    cases on <;> rfl
  unfold State.setSlotEnabled
  by_cases same : x.enabled = on
  · rw [if_pos same, if_pos same]
  · rw [if_neg same, if_neg same, changes same]
    rfl

/-- R178: what a PARAM target comes to, by the reply of the write it makes. -/
theorem State.runParam_reply (s : State) (l : Link) (n i : Nat) (lo hi : Int) (p : Nat) :
    let r := reqParamSet n i (paramValue lo hi p) s
    s.runParam l n i lo hi p = match r.2.code with
      | .ok => (r.1, { clamped := false, emptyCurve := false })
      | .clamped => (r.1.countClamped l, { clamped := true, emptyCurve := false })
      | .missingCurve => (s.countUnapplied l, { clamped := false, emptyCurve := true })
      | _ => (s.countUnapplied l, { clamped := false, emptyCurve := false }) := by
  intro r
  simp only [r]
  unfold State.runParam reqParamSet
  cases s.active with
  | none => rfl
  | some x =>
    obtain ⟨b, c⟩ := x
    dsimp only
    cases c.slots[n]? with
    | none => rfl
    | some slot =>
      dsimp only
      by_cases out : slot.kind.paramCount ≤ i
      · rw [if_pos out, if_pos (Or.inl out)]
        rfl
      · rw [if_neg out]
        by_cases loop : slot.isLoopParam i = true
        · rw [if_pos loop, if_pos (Or.inr loop)]
          rfl
        · rw [if_neg loop, if_neg (not_or.mpr ⟨out, loop⟩)]
          generalize s.writeActive b c n slot i (paramValue lo hi p) = w
          by_cases empty : w.2.notMade = true
          · rw [if_pos empty, if_pos empty]
            rfl
          · rw [if_neg empty, if_neg empty]
            unfold okOr
            cases w.2.clamped <;> rfl

/-- R178: a PARAM target is the write of PARAM_SET, counted by its reply. -/
theorem State.runParam_eq (s : State) (l : Link) (n i : Nat) (lo hi : Int) (p : Nat) :
    let r := reqParamSet n i (paramValue lo hi p) s
    (s.runParam l n i lo hi p).1 = match r.2.code with
      | .ok => r.1
      | .clamped => r.1.countClamped l
      | _ => s.countUnapplied l := by
  intro r
  rw [State.runParam_reply]
  simp only [r]
  cases (reqParamSet n i (paramValue lo hi p) s).2.code <;> rfl

/-- R190: a frame of a map message is placed with no mark. -/
theorem Satellite.place_unmarked (u : Satellite) {f : SatFrame} (unmarked : f.mark = false) :
    u.place f =
      if u.queue.length < 16 then { u with queue := u.queue ++ [f] }
      else
        match newestFor u.queue f.physical with
        | none => { u with dropped := min 65535 (u.dropped + 1) }
        | some n =>
          { u with
            queue := u.queue.set n f,
            activationCount := u.activationCount - (match u.queue[n]? with | some old => old.mark.toNat | none => 0) } := by
  unfold Satellite.place
  rw [unmarked]
  rfl

/-- R189: placing a frame leaves the address table as it is. -/
theorem Satellite.place_entry (u : Satellite) (f : SatFrame) (a : Nat) : (u.place f).entry a = u.entry a := by
  rw [Satellite.place_only]
  rfl

/-- R189: the frames of a message are those of the table as it stands when the message is handed over. -/
theorem Satellite.foldl_place (u : Satellite) (payload : List Byte) (origin : SatOrigin) (mark : Bool) (as : List Nat)
    {v : Satellite} (same : ∀ a, v.entry a = u.entry a) :
    as.foldl (fun v a => v.place (v.frameFor a payload origin mark)) v =
      as.foldl (fun v a => v.place (u.frameFor a payload origin mark)) v := by
  induction as generalizing v with
  | nil => rfl
  | cons a rest ih =>
    have frame : v.frameFor a payload origin mark = u.frameFor a payload origin mark := by
      unfold Satellite.frameFor
      rw [same]
    rw [List.foldl_cons, List.foldl_cons, frame]
    exact ih fun b => (Satellite.place_entry v _ b).trans (same b)

theorem Satellite.countUnmapped_eq (u : Satellite) (a : Nat) :
    u.countUnmapped a = { u with unmapped := (u.countUnmapped a).unmapped } := by
  unfold Satellite.countUnmapped
  split <;> rfl

/-- R189, R196: an unmarked message is handed to the unit. -/
theorem Satellite.hand_eq (u : Satellite) (origin : SatOrigin) (mark : Bool) (m : SatMessage) :
    u.hand origin mark m =
      if u.bypass.isSome then
        { u.countUnmapped m.address with
          catchUp := (u.targets m.address).foldl
            (fun t a => putCatchUp t { address := a, payload := m.payload, origin := origin }) u.catchUp }
      else (u.targets m.address).foldl (fun v a => v.place (u.frameFor a m.payload origin mark))
        (u.countUnmapped m.address) := by
  unfold Satellite.hand
  cases u.bypass with
  | none =>
    exact Satellite.foldl_place u m.payload origin mark _ fun a => by rw [Satellite.countUnmapped_eq]; rfl
  | some b =>
    rw [Satellite.countUnmapped_eq]
    rfl

/-- R177: a SLOT target, by the slot it names. -/
theorem State.slotTarget_eq (s : State) (l : Link) (n : Nat) (want : Bool → Bool) :
    s.slotTarget l n want =
      match (match s.active with
        | none => none
        | some (b, c) => (c.slots[n]?).map (fun x => (b, c, x))) with
      | none => s.countUnapplied l
      | some (b, c, x) => s.setSlotEnabled b c n x (want x.enabled) := by
  unfold State.slotTarget
  cases s.active with
  | none => rfl
  | some y =>
    obtain ⟨b, c⟩ := y
    dsimp only
    cases c.slots[n]? <;> rfl

/-- R136: a TUNER target changes the member of its own link. -/
theorem State.tunerTarget_eq (s : State) (l : Link) (action : TunerAction) :
    s.tunerTarget l action =
      let e := s.tuner.engage
      s.setEngage (match l, action with
        | .a, .on => { e with pedalA := true }
        | .a, .off => { e with pedalA := false }
        | .a, .toggle => { e with pedalA := !e.pedalA }
        | .b, .on => { e with pedalB := true }
        | .b, .off => { e with pedalB := false }
        | .b, .toggle => { e with pedalB := !e.pedalB }) := by
  cases l <;> cases action <;> rfl

/-- Settles O52: the mask, then the effect of each kind of target. -/
theorem mapTargetsActAsTheirRequests : Obligations.MapTargetsActAsTheirRequests := by
  unfold Obligations.MapTargetsActAsTheirRequests
  intro s key targets t p w v l count unapplied asks slotOf enables
  have last : v = State.dispatchTarget key p w (t, targets.length) := State.dispatch_append s key targets t p
  refine ⟨rfl, fun denied => ?denied, fun allowed => ?allowed⟩
  case denied =>
    refine last.trans (if_neg ?_)
    rw [show w.permits key.link t = false from denied]
    decide
  case allowed =>
    have runs : v = w.runTarget key p t := last.trans (if_pos allowed)
    have requests (preset scene : Option Nat) (force : Bool)
        (h : w.runTarget key p t = w.pedalRequest l preset scene force) : asks preset scene force :=
      (runs.trans h).trans (State.pedalRequest_eq w l preset scene force)
    have slots (n : Nat) (want : Bool → Bool) (h : w.runTarget key p t = w.slotTarget l n want) : enables n want := by
      have target : v = match slotOf n with
        | none => w.countUnapplied l
        | some (b, c, x) => w.setSlotEnabled b c n x (want x.enabled) :=
        (runs.trans h).trans ((State.slotTarget_eq w l n want).trans rfl)
      simp only [enables]
      cases found : slotOf n with
      | none =>
        rw [found] at target
        exact target
      | some y =>
        obtain ⟨b, c, x⟩ := y
        rw [found] at target
        exact target.trans (State.setSlotEnabled_eq w b c n x (want x.enabled))
    clear_value v
    cases t with
    | preset n force => exact requests _ _ _ rfl
    | presetStep d =>
      have starts : w.active.map (fun x => x.2.number % 256) = (w.active.map (fun x => x.2.number)).map (· % 256) := by
        cases w.active <;> rfl
      change ((∀ n, n < 256 → w.presetAt n = none) → v = unapplied) ∧
        ∀ n, n < 256 → w.presetAt n ≠ none → (∀ m, m < 256 → w.presetAt m ≠ none →
          stepRank d (w.active.map (fun x => x.2.number % 256)) n ≤
            stepRank d (w.active.map (fun x => x.2.number % 256)) m) → asks (some n) none false
      rw [starts]
      constructor
      · intro nothing
        refine runs.trans ?_
        have none' : w.presetStep d = none := find_stepOrder_none fun m low => by
          rw [State.holdsPreset, nothing m low]
          rfl
        unfold State.runTarget
        dsimp only
        rw [none']
        rfl
      · intro n low holds least
        have found : w.presetStep d = some n := by
          refine find_stepOrder low (Option.isSome_iff_ne_none.mpr holds) fun m small held =>
            least m small (Option.isSome_iff_ne_none.mp held)
        refine requests _ _ _ ?_
        unfold State.runTarget
        dsimp only
        rw [found]
    | scene n => exact requests _ _ _ rfl
    | sceneStep d =>
      unfold State.runTarget at runs requests
      dsimp only at runs requests ⊢
      cases active : w.active with
      | none =>
        rw [active] at runs
        exact runs
      | some y =>
        obtain ⟨b, c⟩ := y
        refine requests _ _ _ ?_
        rw [active]
        rfl
    | slotToggle n => exact slots n (fun e => !e) rfl
    | slotSet n e => exact slots n (fun _ => e) rfl
    | param n i lo hi => exact runs.trans (State.runParam_eq w l n i lo hi p)
    | guitar choice =>
      refine runs.trans ?_
      rcases choice with ⟨_ | _⟩ | _
      · rfl
      · rfl
      · unfold State.runTarget
        dsimp only
        cases w.selected <;> rfl
    | tuner action => exact runs.trans (State.tunerTarget_eq w l action)
    | tap => exact runs
    | satMessage a payload =>
      dsimp only
      refine runs.trans (congrArg (fun u => State.syncTest { w with sat := u }) ?_)
      refine (Satellite.hand_eq w.sat .map false _).trans ?_
      refine if_congr Iff.rfl rfl ?_
      refine congrArg (fun f => List.foldl f (w.sat.countUnmapped a) (w.sat.targets a)) ?_
      funext y x
      exact Satellite.place_unmarked y rfl
    | hostNotice n => exact runs
    | panic => exact runs

end Sys2Proof.Machine
end

section
/-! PROOFS. IDENT, STATUS, NOTICE_ROUTE and the notice queue (R202 to R207). -/
namespace Sys2Proof.Machine

/-! ## The sections of STATUS -/

/-- R120: the pending switch, in the states that hold one. -/
theorem wPending_eq (e : Engine) :
    wPending e.pending =
      match e.state, e.current with
      | .loading, some c | .armed, some c | .cutting, some c => [.u 1 1] ++ wRequest c.request ++ [.u 1 c.buffer.code]
      | _, _ => [.u 1 0] := by
  unfold Engine.pending
  cases e.state <;> cases e.current <;> rfl

/-- R103: the frames that remain of a window. -/
def rateRest (now ms : Nat) (first : Option Nat) : Nat :=
  match first with
  | none => 0
  | some n => (3 * ms + 1) / 2 - frameDiff now n

/-- R103, R120: the frame at which RATE leaves the set. -/
theorem Engine.rateRelease_eq (e : Engine) (now : Nat) :
    e.rateRelease now =
      if e.holdOffs.rate then
        some ((now + max (rateRest now e.settings.w1 e.rateHistory.head?)
          (rateRest now e.settings.w2 e.rateHistory[e.settings.k - 1]?)) % 4294967296)
      else none := by
  unfold Engine.rateRelease Engine.rateRemaining rateRest
  rw [msToFrames_eq, msToFrames_eq] <;> rfl

/-- R120: a buffer by its role. -/
theorem wBuffer_eq (x : Buffer) :
    wBuffer x =
      [.u 1 x.role.code] ++ (match x.context with | none => [] | some c => [.u 1 c.number] ++ wOpt 1 c.activeScene) ++
      (match x.role with
        | .active => [.u 1 x.tOut.code, .u 1 x.tIn.code]
        | .outgoing => [.u 1 x.tOut.code, .u 1 x.tIn.code]
        | .cutting => [.u 1 x.tOut.code, .u 1 x.tIn.code]
        | .spill => [.u 1 x.tOut.code, .u 1 x.tIn.code, .u 2 x.spillFrames, .u 1 x.quietCount]
        | .loading => [.u 1 x.loadLeft]
        | _ => []) := by
  unfold wBuffer
  cases x.role <;> cases x.context <;> simp [Role.running]

theorem bufferFields_eq (s : State) :
    bufferFields s =
      wBuffer (s.buffers.get .b0) ++ wBuffer (s.buffers.get .b1) ++ wBuffer (s.buffers.get .b2) ++
      (if s.engine.state = .crossfading then [.u 1 1, .u 1 s.engine.fadeFrame, .u 1 s.engine.fadeLength] else [.u 1 0]) ++
      wLanes s.active ++
      [.u 1 s.mains.fohL.stored, .u 1 s.mains.fohR.stored, .u 1 s.mains.stage.stored, .u 1 s.mains.mon.stored] := by
  unfold bufferFields
  rw [show s.buffers.toList.flatMap wBuffer =
    wBuffer (s.buffers.get .b0) ++ (wBuffer (s.buffers.get .b1) ++ (wBuffer (s.buffers.get .b2) ++ [])) from rfl]
  rw [List.append_nil, ← List.append_assoc (wBuffer _) (wBuffer _) (wBuffer _)]
  rfl

/-- R186: the overlay in force holds an entry of a link. -/
theorem overlaid_eq (m : ControlMap) (l : Link) :
    (!(entriesFor m.overlayEntries l).isEmpty) =
      match m.overlay with | none => false | some o => o.entries.any (fun e => e.key.link == l) := by
  unfold ControlMap.overlayEntries entriesFor
  cases m.overlay with
  | none => rfl
  | some o =>
    dsimp only
    induction o.entries with
    | nil => rfl
    | cons e rest ih =>
      rw [List.filter_cons, List.any_cons, ← ih]
      cases e.key.link == l <;> rfl

/-! ## NOTICE_ROUTE -/

theorem noticeKindOf_code {n : Nat} {k : NoticeKind} (h : noticeKindOf n = some k) : k.code = n := by
  unfold noticeKindOf at h
  split at h <;> cases h <;> rfl

/-- R205: a destination set and its mask. -/
theorem destinationsOf_eq {m : Nat} (h : ¬ 7 < m) :
    let d : Destinations := { control := m % 2 == 1, pedalA := m / 2 % 2 == 1, pedalB := m / 4 == 1 }
    destinationsOf m = some d ∧ d.mask = m ∧ ((d.pedalA || d.pedalB) = true ↔ 1 < m) := by
  match m with
  | 0 | 1 | 2 | 3 | 4 | 5 | 6 | 7 => decide
  | n + 8 => omega

/-- R205: NOTICE_ROUTE that writes. -/
theorem reqNoticeRoute_write {n : Nat} {k : NoticeKind} (known : noticeKindOf n = some k) (m : Nat) (s : State) :
    reqNoticeRoute n (some m) s =
      if k = .ready then refuse s .readOnly
      else if 7 < m ∨ k.renderable = false ∧ 1 < m then refuse s .outOfRange
      else
        let d : Destinations := { control := m % 2 == 1, pedalA := m / 2 % 2 == 1, pedalB := m / 4 == 1 }
        answer { s with routing := s.routing.set n d } .ok [.u 1 m] := by
  unfold reqNoticeRoute
  rw [known]
  dsimp only
  refine if_congr Iff.rfl rfl ?_
  by_cases wide : 7 < m
  · rw [if_pos (Or.inl wide), destinationsOf, if_pos wide]
  · obtain ⟨set, mask, pedals⟩ := destinationsOf_eq wide
    rw [set]
    dsimp only
    rw [mask, noticeKindOf_code known]
    unfold routable
    by_cases bad : k.renderable = false ∧ 1 < m
    · rw [if_pos (Or.inr bad), bad.1, pedals.mpr bad.2]
      rfl
    · rw [if_neg (not_or.mpr ⟨wide, bad⟩)]
      refine if_pos ?_
      rw [Bool.or_eq_true, Bool.not_eq_true', ← Bool.not_eq_true, pedals]
      by_contra neither
      obtain ⟨dark, more⟩ := not_or.mp neither
      exact bad ⟨Bool.eq_false_iff.mpr dark, not_not.mp more⟩

/-! ## The notice queue -/

theorem removeOldestCoalescable_eq (q : List Notice) :
    removeOldestCoalescable q = q.eraseP (fun m => m.body.coalescable) := by
  induction q with
  | nil => rfl
  | cons n rest ih =>
    rw [removeOldestCoalescable, List.eraseP_cons, ih]
    cases n.body.coalescable <;> rfl

/-- R202, R203: a notice that finds no place is dropped and counted. -/
theorem NoticeQueue.drop_eq (q : NoticeQueue) (routed : Bool) :
    q.drop routed =
      { queue := if q.overflow = .queued then q.queue.map raiseOverflow else q.queue
        drops := min 65535 (q.drops + 1)
        overflow :=
          match q.overflow with
          | .queued => .queued
          | .pending c => .pending (min 65535 (c + 1))
          | .clear => if routed then .pending 1 else .clear } := by
  obtain ⟨queue, drops, overflow⟩ := q
  cases overflow <;> cases routed <;> rfl

/-- R202: what a posting leaves of the notice queue. -/
theorem NoticeQueue.post_eq (q : NoticeQueue) (routed : Bool) (n : Notice) :
    q.post routed n =
      if q.queue.any (fun m => m.body.sameKey n.body) then
        { q with queue := q.queue.map (fun m => if m.body.sameKey n.body then n else m) }
      else if q.queue.length < 32 then { q with queue := q.queue ++ [n] }
      else if q.queue.any (fun m => m.body.coalescable) then
        { q with queue := q.queue.eraseP (fun m => m.body.coalescable) ++ [n] }
      else q.drop routed := by
  unfold NoticeQueue.post
  rw [removeOldestCoalescable_eq]
  rfl

/-- R204: a posting that is not rendered. -/
theorem render_unrenderable {body : NoticeBody} (h : body.kind.renderable = false) (s : State) (l : Link) (i : Identity) :
    render s l i body = none := by
  cases body <;> first | rfl | cases h

/-- R204: a posting changes the display queue of a link alone. -/
theorem State.linkWith_display (s : State) (body : NoticeBody) (l : Link) :
    s.linkWith body l = { s.pedals.get l with display := (s.linkWith body l).display } := by
  unfold State.linkWith
  split
  · rfl
  · split
    · split
      · rfl
      · exact PedalLink.place_only _ _
    · rfl

/-- Settles O58: the three requests, then the law of posting. -/
theorem noticesGoWhereTheirKindIsRouted : Obligations.NoticesGoWhereTheirKindIsRouted := by
  unfold Obligations.NoticesGoWhereTheirKindIsRouted
  refine ⟨fun s tag part kind mask ready => ⟨?ident, ?status, ?route⟩, ?posting⟩
  case ident => exact exec_of_ready ready (i := .ident tag) tag .ident rfl
  case status =>
    intro fields identity loop tagOf request e x since rest code buffer p n overlaid mapOf
    have run := exec_of_ready ready (i := .status tag part) tag (.status part) rfl
    simp only [perform, reqStatus] at run
    have answers {xs : List Wire} (h : sectionFields s part = some xs) : fields xs := run.trans (by rw [h]; rfl)
    rcases part with _ | _ | _ | _ | _ | k
    · exact answers rfl
    · refine answers (congrArg some ?_)
      unfold engineFields
      dsimp only
      rw [wPending_eq, Engine.rateRelease_eq]
      rfl
    · refine answers (congrArg some ?_)
      rw [bufferFields_eq]
      have same (b : BufferId) : wBuffer (s.buffers.get b) = buffer b := by
        rw [wBuffer_eq]
        simp only [buffer, code]
        cases (s.buffers.get b).role <;> rfl
      rw [same, same, same]
      have lanes : wLanes s.active = match s.active with
          | none => [.u 1 0]
          | some (_, c) =>
            [.u 1 1, .u 2 c.lanes.lx, .u 2 c.lanes.ly, .u 2 c.lanes.compX, .u 2 c.lanes.compY, .u 2 c.lanes.total,
              .u 1 c.lanes.misaligned.toNat] := by
        cases s.active <;> rfl
      rw [lanes] <;> rfl
    · refine answers (congrArg some ?_)
      unfold tunerFields tempoFields
      dsimp only
      refine congrArg₂ _ rfl ?_
      rw [List.append_assoc _ (List.map _ _) _, List.append_assoc _ _ (List.map _ _ ++ _)]
      have last : wLast s.tuner.last = match s.tuner.last with
          | none => [.u 1 0]
          | some (r, m) =>
            [.u 1 1, .u 1 (match r.input with | .a => 0 | .b => 1), .u 1 r.note, .s 1 r.cents, .u 4 r.frequency,
              .u 1 r.confidence, .u 4 r.frame, .u 1 m.code] := by
        rcases s.tuner.last with _ | ⟨r, m⟩ <;> rfl
      rw [last] <;> rfl
    · refine answers (congrArg some ?_)
      unfold mapFields wMapLink
      dsimp only
      rw [overlaid_eq, overlaid_eq]
      rfl
    · exact run
  case route =>
    intro answers
    have run := exec_of_ready ready (i := .noticeRoute tag kind mask) tag (.noticeRoute kind mask) rfl
    simp only [perform] at run
    have tells {t : State} {code : ReplyCode} {fields : List Wire}
        (h : reqNoticeRoute kind mask s = answer t code fields) : answers code fields t := run.trans (by rw [h]; rfl)
    clear_value answers
    cases known : noticeKindOf kind with
    | none =>
      refine tells ?_
      unfold reqNoticeRoute
      rw [known] <;> rfl
    | some k =>
      cases mask with
      | none =>
        refine tells ?_
        unfold reqNoticeRoute
        rw [known] <;> rfl
      | some m =>
        have begun := reqNoticeRoute_write known m s
        dsimp only at begun ⊢
        split_ifs with ready' bad
        · exact tells (begun.trans (if_pos ready'))
        · exact tells (begun.trans ((if_neg ready').trans (if_pos bad)))
        · exact tells (begun.trans ((if_neg ready').trans (if_neg bad)))
  case posting =>
    intro s body tag t q n same
    refine ⟨State.post_only s body tag, fun dark => ?_, fun l => ?_, ?_⟩
    · simp only [t]
      rw [State.post_unrendered s (fun u l i => render_unrenderable dark u l i)]
    · simp only [t]
      rw [State.post_link]
      exact State.linkWith_display s body l
    · refine (State.post_notices s body tag).trans ?_
      unfold State.postControl
      cases routed : (s.destinations body.kind).control
      · rfl
      · refine (NoticeQueue.post_eq q s.overflowRouted n).trans ?_
        rw [NoticeQueue.drop_eq]
        rfl

end Sys2Proof.Machine
end

section
/-! PROOFS. Readers of the request payloads (R211). -/
namespace Sys2Proof.Machine

/-! ## Readers and what they read -/

/-- A reader reads a value from the bytes of its fields, where each field fits its width, and leaves what follows. -/
def Reads {α : Type} (r : Reader α) (x : α) (fields : List Wire) : Prop :=
  fields.all wireFits = true → ∀ rest, r (wireBytes fields ++ rest) = some (x, rest)

theorem wireBytes_append (a b : List Wire) : wireBytes (a ++ b) = wireBytes a ++ wireBytes b := by
  simp [wireBytes]

theorem Reads.pure {α : Type} (x : α) : Reads (pure x) x [] := fun _ _ => rfl

/-- One field list after the other. -/
theorem Reads.bind {α β : Type} {r : Reader α} {f : α → Reader β} {x : α} {y : β} {a b : List Wire} (first : Reads r x a)
    (next : Reads (f x) y b) : Reads (r >>= f) y (a ++ b) := by
  intro fits rest
  obtain ⟨left, right⟩ := Bool.and_eq_true_iff.mp (List.all_append.symm.trans fits)
  have step : (r >>= f) (wireBytes (a ++ b) ++ rest) = (r (wireBytes a ++ (wireBytes b ++ rest))).bind fun p => f p.1 p.2 := by
    rw [wireBytes_append, List.append_assoc]
    rfl
  rw [step, first left]
  exact next right rest

/-- One field, then the others. -/
theorem Reads.cons {α β : Type} {r : Reader α} {f : α → Reader β} {x : α} {y : β} {w : Wire} {b : List Wire}
    (first : Reads r x [w]) (next : Reads (f x) y b) : Reads (r >>= f) y (w :: b) := first.bind next

/-- The last field list of a record. -/
theorem Reads.last {α β : Type} {r : Reader α} {g : α → β} {x : α} {a : List Wire} (h : Reads r x a) :
    Reads (r >>= fun v => Pure.pure (g v)) (g x) a := by
  have whole := h.bind (f := fun v => Pure.pure (g v)) (Reads.pure (g x))
  rwa [List.append_nil] at whole

/-! ## Numbers -/

theorem getUFrom_numberBytes (w acc v : Nat) (rest : List Byte) :
    getUFrom w acc (numberBytes w v ++ rest) = some (acc * 256 ^ w + v % 256 ^ w, rest) := by
  induction w generalizing acc with
  | zero => simp [getUFrom, numberBytes, Nat.mod_one]; rfl
  | succ w ih =>
    have step : getUFrom (w + 1) acc (numberBytes (w + 1) v ++ rest) =
        getUFrom w (acc * 256 + (BitVec.ofNat 8 (v / 256 ^ w)).toNat) (numberBytes w v ++ rest) := rfl
    rw [step, ih, BitVec.toNat_ofNat, Nat.mod_pow_succ (b := 256) (k := w), Nat.pow_succ (n := 256) (m := w)]
    congr 2
    ring

/-- R211: a number that fits its width. -/
theorem reads_u (w v : Nat) : Reads (getU w) v [.u w v] := by
  intro fits rest
  have small : v < 256 ^ w := by simpa [wireFits] using fits
  have bytes : wireBytes [.u w v] = numberBytes w v := by simp [wireBytes, Wire.bytes]
  rw [bytes]
  refine (getUFrom_numberBytes w 0 v rest).trans ?_
  rw [Nat.zero_mul, Nat.zero_add, Nat.mod_eq_of_lt small]

/-- R211: two's complement, back. -/
theorem signed_back {m v : Int} (low : -m ≤ 2 * v) (high : 2 * v < m) :
    (if 2 * (v % m) < m then v % m else v % m - m) = v := by
  by_cases neg : v < 0
  · have wrapped : v % m = v + m := by
      rw [← Int.add_emod_right]
      exact Int.emod_eq_of_lt (by omega) (by omega)
    rw [wrapped, if_neg (by omega)]
    omega
  · rw [Int.emod_eq_of_lt (by omega) (by omega), if_pos high]

/-- R211: a signed number that fits its width. -/
theorem reads_s (w : Nat) (v : Int) : Reads (getS w) v [.s w v] := by
  intro fits rest
  obtain ⟨low, high⟩ : -(256 ^ w : Int) ≤ 2 * v ∧ 2 * v < (256 ^ w : Int) := by simpa [wireFits] using fits
  have modulus : ((256 ^ w : Nat) : Int) = (256 : Int) ^ w := by push_cast; rfl
  have positive : (0 : Int) < 256 ^ w := by positivity
  have nonneg : 0 ≤ v % (256 : Int) ^ w := Int.emod_nonneg _ (ne_of_gt positive)
  have below : v % (256 : Int) ^ w < 256 ^ w := Int.emod_lt_of_pos _ positive
  have unsigned : wireFits (.u w (v % (256 ^ w : Nat)).toNat) = true := by
    simp only [wireFits, decide_eq_true_eq]
    rw [modulus]
    zify
    rw [Int.toNat_of_nonneg nonneg]
    exact below
  have number := reads_u w (v % (256 ^ w : Nat)).toNat (by simpa using unsigned) rest
  have whole : getS w (wireBytes [.s w v] ++ rest) =
      (getU w (wireBytes [.u w (v % (256 ^ w : Nat)).toNat] ++ rest)).bind fun p =>
        some ((if 2 * p.1 < 256 ^ w then (p.1 : Int) else (p.1 : Int) - (256 ^ w : Nat)), p.2) := rfl
  rw [whole, number]
  dsimp only [Option.bind]
  congr 2
  have cast : (((v % (256 ^ w : Nat)).toNat : Nat) : Int) = v % (256 : Int) ^ w := by
    rw [modulus, Int.toNat_of_nonneg nonneg]
  have test : (2 * (v % (256 ^ w : Nat)).toNat < 256 ^ w) ↔ 2 * (v % (256 : Int) ^ w) < 256 ^ w := by
    rw [← cast]
    norm_cast
  rw [if_congr test rfl rfl, cast, modulus]
  exact signed_back low high

theorem reads_byte (b : Byte) : Reads getByte b [.u 1 b.toNat] := by
  intro fits rest
  have bytes : wireBytes [.u 1 b.toNat] = [b] := by simp [wireBytes, Wire.bytes, numberBytes]
  rw [bytes]
  rfl

/-! ## Optional fields and lists -/

theorem reads_absent : Reads getPresent false [.u 1 0] := fun _ _ => rfl

theorem reads_present : Reads getPresent true [.u 1 1] := fun _ _ => rfl

theorem reads_none {α : Type} (r : Reader α) : Reads (getOpt r) none [.u 1 0] := by
  unfold getOpt
  exact reads_absent.cons (Reads.pure none)

theorem reads_some {α : Type} {r : Reader α} {x : α} {a : List Wire} (h : Reads r x a) :
    Reads (getOpt r) (some x) (.u 1 1 :: a) := by
  unfold getOpt
  exact reads_present.cons h.last

theorem reads_opt (w : Nat) (o : Option Nat) : Reads (getOpt (getU w)) o (wOpt w o) := by
  cases o with
  | none => exact reads_none _
  | some v => exact reads_some (reads_u w v)

theorem reads_optS (w : Nat) (o : Option Int) : Reads (getOpt (getS w)) o (wOptS w o) := by
  cases o with
  | none => exact reads_none _
  | some v => exact reads_some (reads_s w v)

theorem reads_times {α : Type} {r : Reader α} {f : α → List Wire} (h : ∀ x, Reads r x (f x)) (xs : List α) :
    Reads (getTimes r xs.length) xs (xs.flatMap f) := by
  induction xs with
  | nil => exact Reads.pure []
  | cons x rest ih => exact (h x).bind ih.last

theorem reads_list {α : Type} {r : Reader α} {f : α → List Wire} (h : ∀ x, Reads r x (f x)) (xs : List α) :
    Reads (getList r) xs (wList f xs) :=
  (reads_u 1 xs.length).cons (reads_times h xs)

theorem reads_bytes (bs : List Byte) : Reads (getList getByte) bs (wBytes bs) := by
  have bytes : wBytes bs = wList (fun b => [.u 1 b.toNat]) bs := by
    simp [wBytes, wList, List.map_eq_flatMap]
  rw [bytes]
  exact reads_list reads_byte bs

/-! ## Records -/

theorem reads_get1 (f : Nat → Request) (a : Nat) : Reads (get1 f) (f a) [.u 1 a] := (reads_u 1 a).last

theorem reads_get2 (f : Nat → Nat → Request) (a b : Nat) : Reads (get2 f) (f a b) [.u 1 a, .u 1 b] :=
  (reads_u 1 a).cons (reads_u 1 b).last

theorem reads_get3 (f : Nat → Nat → Nat → Request) (a b c : Nat) :
    Reads (get3 f) (f a b c) [.u 1 a, .u 1 b, .u 1 c] :=
  (reads_u 1 a).cons ((reads_u 1 b).cons (reads_u 1 c).last)

theorem reads_row (r : MatrixRow) : Reads getRow r (wRow r) :=
  (reads_u 1 r.main).cons ((reads_u 1 r.dry).cons (reads_u 1 r.aux).last)

theorem reads_point (p : Int × Int) : Reads getPoint p [.s 3 p.1, .s 3 p.2] := (reads_s 3 p.1).cons (reads_s 3 p.2).last

theorem reads_override (o : Override) : Reads getOverride o [.u 1 o.position, .u 1 o.index, .s 2 o.value] :=
  (reads_u 1 o.position).cons ((reads_u 1 o.index).cons (reads_s 2 o.value).last)

/-- R172, R211: a key; its partner travels only with a COMBO. -/
theorem reads_key {k : RawKey} (shape : keyShape k = true) : Reads getKey k (wRawKey k) := by
  obtain ⟨link, sourceKind, number, gesture, partner⟩ := k
  refine (reads_u 1 link).cons ((reads_u 1 sourceKind).cons ((reads_u 1 number).cons ((reads_u 1 gesture).cons ?_)))
  by_cases combo : gesture = 4
  · rw [if_pos combo, if_pos combo]
    exact (reads_u 1 partner).last
  · rw [if_neg combo, if_neg combo]
    have alone : partner = 0 := by simpa [keyShape, combo] using shape
    rw [alone]
    exact Reads.pure _

theorem reads_selector {e : EntrySelector} (shape : selectorShape e = true) : Reads getSelector e (wSelector e) := by
  cases e with
  | key k => exact (reads_u 1 0).cons (reads_key shape).last
  | index n => exact (reads_u 1 1).cons (reads_u 1 n).last

/-- R173, R211: a target: its kind, then the fields of the kind. -/
theorem reads_target (t : RawTarget) : Reads getTarget t (wRawTarget t) := by
  cases t with
  | preset l f => exact (reads_u 1 0).cons ((reads_u 1 l).cons (reads_u 1 f).last)
  | presetStep d => exact (reads_u 1 1).cons (reads_s 1 d).last
  | scene n => exact (reads_u 1 2).cons (reads_u 1 n).last
  | sceneStep d => exact (reads_u 1 3).cons (reads_s 1 d).last
  | slotToggle p => exact (reads_u 1 4).cons (reads_u 1 p).last
  | slotSet p e => exact (reads_u 1 5).cons ((reads_u 1 p).cons (reads_u 1 e).last)
  | param p i lo hi =>
    exact (reads_u 1 6).cons ((reads_u 1 p).cons ((reads_u 1 i).cons ((reads_s 2 lo).cons (reads_s 2 hi).last)))
  | guitar c => exact (reads_u 1 7).cons (reads_u 1 c).last
  | tuner c => exact (reads_u 1 8).cons (reads_u 1 c).last
  | tap => exact (reads_u 1 9).cons (Reads.pure _)
  | satMessage a p => exact (reads_u 1 10).cons ((reads_u 1 a).cons (reads_bytes p).last)
  | hostNotice v => exact (reads_u 1 11).cons (reads_u 1 v).last
  | panic => exact (reads_u 1 12).cons (Reads.pure _)

end Sys2Proof.Machine
end

section
/-! PROOFS. Frames read back (R199, R210 to R212). -/
namespace Sys2Proof.Machine

/-! ## The payload of each request -/

theorem reads_header (h : HeaderFields) : Reads getHeader h (wHeaderFields h) := by
  unfold wHeaderFields
  simp only [List.append_assoc, List.cons_append, List.nil_append]
  exact (reads_bytes _).bind <| (reads_u 1 _).cons <| (reads_u 1 _).cons <| (reads_u 1 _).cons <| (reads_u 1 _).cons <|
    (reads_u 1 _).cons <| (reads_u 1 _).cons <| (reads_u 1 _).cons <| (reads_u 1 _).cons <| (reads_row _).bind <|
    (reads_row _).bind <| (reads_row _).bind <| (reads_row _).bind <| (reads_u 1 _).cons <| (reads_u 1 _).cons <|
    (reads_u 2 _).cons <| (reads_u 1 _).cons <| (reads_opt 2 _).bind (reads_u 1 _).last

theorem reads_addressWrite (w : AddressWrite) :
    Reads getAddressWrite w ([.u 1 w.logical] ++ wOpt 1 w.physical ++ [.u 1 w.acknowledge]) := by
  rw [List.append_assoc]
  exact (reads_u 1 _).bind ((reads_opt 1 _).bind (reads_u 1 _).last)

/-- R210, R211: a well-formed request is read from the bytes of its fields. -/
theorem request_read {r : Request} (shape : requestShape r = true) (fits : (requestFields r).all wireFits = true) :
    ∃ reader, requestReader (requestKind r).toNat = some reader ∧
      reader (wireBytes (requestFields r)) = some (r, []) := by
  have whole {reader : Reader Request} {fields : List Wire} (known : requestReader (requestKind r).toNat = some reader)
      (same : requestFields r = fields) (h : Reads reader r fields) : ∃ reader,
      requestReader (requestKind r).toNat = some reader ∧ reader (wireBytes (requestFields r)) = some (r, []) := by
    refine ⟨reader, known, ?_⟩
    have read := h (same ▸ fits) []
    rwa [List.append_nil, ← same] at read
  cases r with
  | mute s o => exact whole rfl rfl (reads_get2 .mute s o)
  | unmute s o => exact whole rfl rfl (reads_get2 .unmute s o)
  | meters c => exact whole rfl rfl (reads_get1 .meters c)
  | curveWrite i n ps =>
    refine whole rfl (List.cons_append ..) ((reads_u 1 i).cons ?_)
    exact (reads_bytes n).bind (reads_list reads_point ps).last
  | curveRead i => exact whole rfl rfl (reads_get1 .curveRead i)
  | curveErase i => exact whole rfl rfl (reads_get1 .curveErase i)
  | paramSet p i v => exact whole rfl rfl ((reads_u 1 p).cons ((reads_u 1 i).cons (reads_s 2 v).last))
  | slotSet p e => exact whole rfl rfl (reads_get2 .slotSet p e)
  | inputSelect i => exact whole rfl rfl (reads_get1 .inputSelect i)
  | loopMeasure l => exact whole rfl rfl (reads_get1 .loopMeasure l)
  | loopSet l v => exact whole rfl rfl ((reads_u 1 l).cons (reads_opt 2 v).last)
  | loopRead l => exact whole rfl rfl (reads_get1 .loopRead l)
  | presetBegin l h => exact whole rfl rfl ((reads_u 1 l).cons (reads_header h).last)
  | presetSlot s p =>
    refine whole rfl (List.append_assoc _ (wList (fun v => [.s 2 v]) s.values) (wOpt 1 p)) ?_
    exact (reads_u 1 s.kind).cons ((reads_u 1 s.enabled).cons
      ((reads_list (reads_s 2) s.values).bind (reads_opt 1 p).last))
  | presetScene s n =>
    refine whole rfl (by simp only [requestFields, List.append_assoc]; rfl) ?_
    exact (reads_bytes s.name).bind ((reads_list (reads_u 1) s.enables).bind
      ((reads_list reads_override s.overrides).bind (reads_opt 1 n).last))
  | presetMap k ts => exact whole rfl rfl ((reads_key shape).bind (reads_list reads_target ts).last)
  | presetSatmsg a p => exact whole rfl rfl ((reads_u 1 a).cons (reads_bytes p).last)
  | presetEnd => exact whole rfl rfl (Reads.pure _)
  | presetRead l p => exact whole rfl rfl (reads_get2 .presetRead l p)
  | presetErase l => exact whole rfl rfl (reads_get1 .presetErase l)
  | presetCopy s d => exact whole rfl rfl (reads_get2 .presetCopy s d)
  | switch p s f =>
    refine whole rfl (List.append_assoc ..) ?_
    exact (reads_opt 1 p).bind ((reads_opt 1 s).bind (reads_u 1 f).last)
  | scene s => exact whole rfl rfl (reads_get1 .scene s)
  | hold v => exact whole rfl rfl (reads_get1 .hold v)
  | switchSetup m w1 k w2 t s =>
    exact whole rfl rfl <| (reads_u 1 m).cons <| (reads_u 2 w1).cons <| (reads_u 1 k).cons <| (reads_u 2 w2).cons <|
      (reads_u 1 t).cons (reads_u 1 s).last
  | panic => exact whole rfl rfl (Reads.pure _)
  | history f => exact whole rfl rfl (reads_get1 .history f)
  | tempoSet t => exact whole rfl rfl (reads_u 2 t).last
  | tap => exact whole rfl rfl (Reads.pure _)
  | tempoLock v => exact whole rfl rfl (reads_get1 .tempoLock v)
  | tuner a => exact whole rfl rfl (reads_get1 .tuner a)
  | tunerProfile p t os =>
    have twelve : os.length = 12 := by simpa [requestShape] using shape
    have offsets : Reads (getTimes (getOpt (getS 1)) 12) os (os.flatMap (wOptS 1)) :=
      twelve ▸ reads_times (reads_optS 1) os
    exact whole rfl rfl ((reads_u 1 p).cons ((reads_optS 1 t).bind offsets.last))
  | tunerSetup a ps =>
    exact whole rfl rfl <| (reads_u 2 a).cons <| (reads_u 1 ps.fohL).cons <| (reads_u 1 ps.fohR).cons <|
      (reads_u 1 ps.stage).cons (reads_u 1 ps.mon).last
  | gestureTiming l c h d =>
    refine whole rfl (by simp only [requestFields, List.append_assoc, List.cons_append]; rfl) ?_
    exact (reads_u 1 l).cons ((reads_opt 1 c).bind ((reads_opt 2 h).bind (reads_opt 2 d).last))
  | pedalStatus l f c => exact whole rfl rfl (reads_get3 .pedalStatus l f c)
  | mapWrite k ts => exact whole rfl rfl ((reads_key shape).bind (reads_list reads_target ts).last)
  | mapErase e => exact whole rfl rfl (reads_selector shape).last
  | mapRead t e => exact whole rfl rfl ((reads_u 1 t).cons (reads_selector shape).last)
  | permit l m => exact whole rfl rfl ((reads_u 1 l).cons (reads_opt 1 m).last)
  | satAddr w t =>
    refine whole rfl rfl (Reads.bind ?_ (reads_opt 2 t).last)
    cases w with
    | none => exact reads_none _
    | some x => exact reads_some (reads_addressWrite x)
  | satSend p a d => exact whole rfl rfl ((reads_u 1 p).cons ((reads_u 1 a).cons (reads_bytes d).last))
  | satBypass v t =>
    by_cases on : v = 1
    · have timeout : Reads (getBypassTimeout v) t (wOpt 2 t) := fun fits rest => (if_pos on).trans (reads_opt 2 t fits rest)
      exact whole rfl (congrArg (fun fs => Wire.u 1 v :: fs) (if_pos on)) ((reads_u 1 v).cons timeout.last)
    · have absent : t = none := by simpa [requestShape, on] using shape
      have fields : requestFields (.satBypass v t) = [.u 1 v] :=
        congrArg (fun fs => Wire.u 1 v :: fs) (if_neg on)
      have nothing : getBypassTimeout v [] = some (none, []) := (if_neg on).trans (if_pos (Or.inr rfl))
      have number := reads_u 1 v (by simpa [fields] using fits) []
      rw [List.append_nil] at number
      have begun (bs : List Byte) : (do
          let x ← getU 1
          let y ← getBypassTimeout x
          pure (Request.satBypass x y) : Reader Request) bs =
          (getU 1 bs).bind fun p => (getBypassTimeout p.1 p.2).bind fun q => some (.satBypass p.1 q.1, q.2) := rfl
      refine ⟨_, rfl, (begun _).trans ?_⟩
      rw [fields, number]
      change (getBypassTimeout v []).bind _ = _
      rw [nothing, absent] <;> rfl
  | satStatus c => exact whole rfl rfl (reads_get1 .satStatus c)
  | ident => exact whole rfl rfl (Reads.pure _)
  | status p => exact whole rfl rfl (reads_get1 .status p)
  | reset => exact whole rfl rfl (Reads.pure _)
  | noticeRoute k d => exact whole rfl rfl ((reads_u 1 k).cons (reads_opt 1 d).last)

/-! ## Frames -/

/-- R210: the frame of a well-formed request is that request under its tag. -/
theorem parseFrame_requestFrame (tag : Byte) {r : Request} (wellFormed : requestWellFormed r = true) :
    parseFrame (requestFrame tag r) = some { tag := tag, body := .request r } := by
  obtain ⟨⟨shape, fits⟩, short⟩ : (requestShape r = true ∧ (requestFields r).all wireFits = true) ∧
      (wireBytes (requestFields r)).length ≤ 250 := by simpa [requestWellFormed] using wellFormed
  obtain ⟨reader, known, read⟩ := request_read shape fits
  have body : parseBody (requestKind r) (wireBytes (requestFields r)) = .request r := by
    unfold parseBody
    rw [known]
    dsimp only
    rw [read]
  generalize payload : wireBytes (requestFields r) = bytes at short body
  have bytes' : requestFrame tag r =
      (BitVec.ofNat 8 (tag :: requestKind r :: bytes).length :: (tag :: requestKind r :: bytes)) ++
        [0 - (BitVec.ofNat 8 (tag :: requestKind r :: bytes).length ::
          (tag :: requestKind r :: bytes)).foldl (fun a b => a + b) 0] := by
    unfold requestFrame
    rw [payload, zero_sub]
    rfl
  unfold parseFrame
  rw [bytes', frameBody_written (by simp) (by simp only [List.length_cons]; omega) (by decide)]
  dsimp only
  rw [body]

/-- R212: a position travels with its most significant byte first. -/
theorem position_bytes (b c : Byte) : (b ++ c : BitVec 16) = BitVec.ofNat 16 (256 * b.toNat + c.toNat) := by
  apply BitVec.eq_of_toNat_eq
  have high := b.isLt
  have low := c.isLt
  rw [BitVec.toNat_append, ← Nat.shiftLeft_add_eq_or_of_lt low, Nat.shiftLeft_eq, BitVec.toNat_ofNat]
  omega

/-- Settles O60: the requests, then the frames of the two other lines by their bodies. -/
theorem framesReadBack : Obligations.FramesReadBack := by
  unfold Obligations.FramesReadBack
  intro frame
  have pedal (l : Link) {body : List Byte} (least : 2 ≤ body.length) (most : body.length ≤ 22) :
      frameBody 22 (frame body) = some body := frameBody_written least most (by decide)
  have satellite {body : List Byte} (least : 2 ≤ body.length) (most : body.length ≤ 18) :
      frameBody 18 (frame body) = some body := frameBody_written least most (by decide)
  refine ⟨fun tag r => parseFrame_requestFrame tag, fun l a b c => ⟨?ident, ?down, ?up, ?expr⟩, ?form, ?satellite,
    ?discarded, fun l bytes bad => ?broken⟩
  case ident => unfold pedalCommand; rw [pedal l (by simp) (by simp)] <;> rfl
  case down => unfold pedalCommand; rw [pedal l (by simp) (by simp)] <;> rfl
  case up => unfold pedalCommand; rw [pedal l (by simp) (by simp)] <;> rfl
  case expr =>
    unfold pedalCommand
    rw [pedal l (by simp) (by simp), ← position_bytes] <;> rfl
  case form =>
    intro l kind fields some few notIdent notSwitch notExpr
    unfold pedalCommand
    rw [pedal l (by simp only [List.length_cons]; omega) (by simp only [List.length_cons]; omega)]
    dsimp only
    split
    · next h => cases h; exact absurd ⟨rfl, rfl⟩ notIdent
    · next h => cases h; exact absurd ⟨rfl, rfl⟩ notSwitch
    · next h => cases h; exact absurd ⟨rfl, rfl⟩ notExpr
    · rfl
  case satellite =>
    intro address payload some few outside
    unfold satelliteCommand
    constructor
    · rw [satellite (by simp) (by simp)] <;> rfl
    · rw [satellite (by simp only [List.length_cons]; omega) (by simp only [List.length_cons]; omega)]
      cases payload with
      | nil => simp at some
      | cons b rest => rfl
  case discarded =>
    intro address kind fields notData notAck few
    unfold satelliteCommand
    rw [satellite (by simp) (by simp only [List.length_cons]; omega)]
    split
    · next h => cases h; exact absurd ⟨rfl, rfl⟩ notAck
    · next h => cases h; exact absurd ⟨rfl, by simp⟩ notData
    · rfl
  case broken =>
    unfold pedalCommand satelliteCommand parseFrame
    rw [frameBody_bad_sum bad, frameBody_bad_sum bad, frameBody_bad_sum bad]
    exact ⟨rfl, rfl, rfl⟩

end Sys2Proof.Machine
end

section
/-! PROOFS. What a scene leaves of the engine (R88 to R90). -/
namespace Sys2Proof.Machine

theorem foldl_preserves {α β γ : Type} (f : β → γ) {g : β → α → β} (keeps : ∀ b a, f (g b a) = f b) (as : List α) (b : β) :
    f (as.foldl g b) = f b := by
  induction as generalizing b with
  | nil => rfl
  | cons a rest ih => exact (ih (g b a)).trans (keeps b a)

/-! ## What a scene leaves of the engine -/

theorem State.writeActive_engine (s : State) (b : BufferId) (c : Context) (p : Nat) (x : Slot) (i : Nat) (v : Int) :
    (s.writeActive b c p x i v).1.engine = s.engine := by
  unfold State.writeActive
  dsimp only
  split <;> rfl

theorem State.runParam_engine (s : State) (l : Link) (n i : Nat) (lo hi : Int) (p : Nat) :
    (s.runParam l n i lo hi p).1.engine = s.engine := by
  unfold State.runParam
  split
  · rfl
  · split
    · rfl
    · split
      · rfl
      · dsimp only
        split
        · rfl
        · split
          · exact State.writeActive_engine _ _ _ _ _ _ _
          · exact State.writeActive_engine _ _ _ _ _ _ _

theorem CatchUpRun.target_engine (r : CatchUpRun) (k : MapKey) (p : Nat) (it : Target × Nat) :
    (r.target k p it).state.engine = r.state.engine := by
  unfold CatchUpRun.target
  split
  · split
    · exact State.runParam_engine _ _ _ _ _ _ _
    · exact State.post_engine _ _ _
  · rfl

theorem CatchUpRun.entry_engine (r : CatchUpRun) (e : MapEntry) : (r.entry e).state.engine = r.state.engine := by
  unfold CatchUpRun.entry
  split
  · rfl
  · split
    · rfl
    · exact foldl_preserves (fun q : CatchUpRun => q.state.engine) (fun q it => CatchUpRun.target_engine q _ _ it) _ _

theorem CatchUpRun.link_engine (o : List MapEntry) (r : CatchUpRun) (l : Link) :
    (CatchUpRun.link o r l).state.engine = r.state.engine := by
  unfold CatchUpRun.link
  split
  · rfl
  · exact foldl_preserves (fun q : CatchUpRun => q.state.engine) CatchUpRun.entry_engine _ _

/-- R88 to R90: applying a scene leaves the engine as it is. -/
theorem State.applyScene_engine (s : State) (b : BufferId) (c : Context) (n : Nat) (rec : SceneRecord) :
    (s.applyScene b c n rec).engine = s.engine := by
  unfold State.applyScene
  dsimp only [List.foldl_cons, List.foldl_nil]
  split
  · rw [CatchUpRun.link_engine, CatchUpRun.link_engine]
    rfl
  · rw [State.post_engine, State.post_engine, State.setContext_engine, CatchUpRun.link_engine, CatchUpRun.link_engine]
    rfl

theorem State.applyScene_frameCounter (s : State) (b : BufferId) (c : Context) (n : Nat) (rec : SceneRecord) :
    (s.applyScene b c n rec).frameCounter = s.frameCounter :=
  ((State.base_eq_iff _ _).mp (s.applyScene_base b c n rec)).2.2.2.1

end Sys2Proof.Machine
end

section
/-! PROOFS. Starts and loads (R52, R60, R97, R98, R103, R106). -/
namespace Sys2Proof.Machine

/-! ## The context a load copies -/

theorem SlotKind.latency_eq (kind : SlotKind) (u : LoopUnit) (first : Int) :
    kind.latency u first =
      match kind with
      | .amp => 8
      | .pitch => 64
      | .loop => if first = 1 then u.loop1.latency.getD 0 else u.loop2.latency.getD 0
      | _ => 0 := by
  cases kind <;> rfl

theorem Param.load_eq (kind : SlotKind) (n : Nat) (v : Int) :
    Param.load kind n v = { value := v, ramp := Ramp.rest (if kind.isLevel n then v.toNat else 0) } := by
  unfold Param.load
  split <;> rfl

theorem SlotRecord.load_latency (u : LoopUnit) (x : SlotRecord) :
    (x.load u).latency = x.kind.latency u (x.values.getD 0 0) := rfl

/-- R60: the lane values, the larger lane written the same way for both. -/
theorem lanesOf_eq (h : Header) (ls : List Nat) :
    let lx := (h.xPart ls).sum
    let ly := (h.yPart ls).sum
    let compX := min 1024 (max lx ly - lx)
    let compY := min 1024 (max lx ly - ly)
    lanesOf h ls =
      { latencies := ls, lx := lx, ly := ly, compX := compX, compY := compY,
        misaligned := decide (1024 < max lx ly - min lx ly),
        total := (h.prePart ls).sum + max (lx + compX) (ly + compY) + (h.postPart ls).sum } := by
  intro lx ly compX compY
  have other : compensation (h.yPart ls).sum (h.xPart ls).sum = compY := by
    unfold compensation
    rw [Nat.max_comm]
    rfl
  simp only [lanesOf, other]
  rfl

theorem frameDiff_self (n : Nat) : frameDiff n n = 0 := by
  unfold frameDiff
  have below := Nat.mod_lt n (show 0 < frameModulus by decide)
  have split := Nat.div_add_mod n frameModulus
  rw [show n + (frameModulus - n % frameModulus) = frameModulus * (n / frameModulus + 1) by rw [Nat.mul_add]; omega]
  exact Nat.mul_mod_right _ _

/-! ## The references of a load -/

theorem curveHeld_moveRefs (cs : List CurveEntry) (up : Bool) (c : Context) (n : Nat) :
    curveHeld (moveRefs cs up c) n = curveHeld cs n := by
  unfold curveHeld moveRefs
  rw [List.getElem?_map, List.getElem?_zipIdx]
  cases cs[n]? <;> rfl

theorem curvesHeld_moveRefs (cs : List CurveEntry) (up : Bool) (c c' : Context) :
    curvesHeld (moveRefs cs up c) c' = curvesHeld cs c' := by
  unfold curvesHeld
  refine congrArg c'.slots.all (funext fun x => ?_)
  cases x.curve with
  | none => rfl
  | some n => exact curveHeld_moveRefs cs up c n

/-- R44: the references a load takes, its buffer gives back. -/
theorem moveRefs_back (cs : List CurveEntry) (c : Context) : moveRefs (moveRefs cs true c) false c = cs := by
  refine List.ext_getElem? fun n => ?_
  unfold moveRefs
  simp only [List.getElem?_map, List.getElem?_zipIdx]
  cases cs[n]? <;> simp

/-! ## The start -/

theorem State.editHistory_newest {t : State} {e : Engine} {h : HistoryRecord} {older : List HistoryRecord}
    (same : t.engine = { e with history := (h :: older).take 16 }) (f : HistoryRecord → HistoryRecord) :
    t.editHistory f = { t with engine := { e with history := (f h :: older).take 16 } } := by
  unfold State.editHistory
  rw [same]
  rfl

/-- R103, R118: the engine as a start enters the rate history and the switch history. -/
def Engine.started (e : Engine) (now : Nat) (h : HistoryRecord) : Engine :=
  let rated : Engine := { e with rateHistory := (now :: e.rateHistory).take 8 }
  { rated with
    holdOffs := { e.holdOffs with rate := rated.rateBroken now },
    history := (h :: e.history).take 16 }

theorem State.started_eq {s : State} (unrated : s.engine.holdOffs.rate = false) (h : HistoryRecord) :
    s.recordStart.pushHistory h = { s with engine := s.engine.started s.frameCounter h } := by
  unfold State.recordStart
  dsimp only
  rw [unrated]
  rfl

theorem State.setQueue_nil {s t : State} (idle : s.engine.state = .idle) (queue : s.engine.queue = [])
    (same : t = { s with engine := t.engine })
    (engine : t.engine = { s.engine with state := t.engine.state, queue := t.engine.queue })
    (resting : t.engine.state.resting = true) : t.setQueue [] = s := by
  rw [same]
  unfold State.setQueue State.setEngine Engine.settle
  dsimp only
  rw [if_pos resting, engine]
  dsimp only [List.isEmpty_nil]
  rw [if_pos rfl, ← idle, ← queue]

/-- R105: a request queued while the engine is idle is taken at once where its hold-offs allow it. -/
theorem State.enqueue_idle {s : State} (idle : s.engine.state = .idle) (queue : s.engine.queue = []) {r : SwitchRequest}
    (may : ({ s.engine with state := .waiting, queue := [r] } : Engine).mayTake r = true) :
    s.enqueue r = (match r.preset with | some n => s.startPreset r n | none => s.takeScene r) := by
  have queued : (s.setQueue [r]).engine = { s.engine with state := .waiting, queue := [r] } := by
    unfold State.setQueue Engine.settle
    dsimp only
    rw [if_pos (by rw [idle]; rfl)]
    rfl
  have emptied : (s.setQueue [r]).setQueue [] = s :=
    State.setQueue_nil idle queue rfl (by rw [queued]) (by rw [queued]; rfl)
  unfold State.enqueue State.headTest
  rw [queue, List.nil_append, queued]
  change State.headTestN 1 _ = _
  unfold State.headTestN
  rw [queued]
  dsimp only
  rw [if_pos may]
  unfold State.takeHead
  rw [emptied] <;> rfl

/-- R97, R105: with the engine idle and no hold-off, a request for a preset is started as it arrives. -/
theorem State.arrive_starts {s : State} (mode : s.engine.settings.mode = .collapse) (idle : s.engine.state = .idle)
    (queue : s.engine.queue = []) (free : s.engine.holdOffs.isEmpty = true) {r : SwitchRequest} {n : Nat}
    (preset : r.preset = some n) : s.arrive r = (s.startPreset r n, true) := by
  have cleared : s.setQueue [] = s := State.setQueue_nil idle queue rfl rfl (by rw [idle]; rfl)
  have nothingPending : s.engine.pending = none := by
    unfold Engine.pending
    rw [idle]
    rfl
  have may : ({ s.engine with state := .waiting, queue := [r] } : Engine).mayTake r = true := by
    unfold Engine.mayTake
    rw [preset]
    exact free
  have taken := State.enqueue_idle idle queue may
  rw [preset] at taken
  unfold State.arrive State.collapsePreset
  rw [mode, queue, preset]
  simp only [State.failAll, List.foldl_nil, cleared, nothingPending, Option.isSome_some, if_true]
  rw [taken]

/-- R98, R99, R105: with the engine idle, a scene request is taken as it arrives, in either mode. -/
theorem State.arrive_scene {s : State} (idle : s.engine.state = .idle) (queue : s.engine.queue = [])
    (unheld : s.engine.holdOffs.host = false) (unmeasured : s.engine.holdOffs.measure = false) {r : SwitchRequest}
    (preset : r.preset = none) : s.arrive r = (s.takeScene r, true) := by
  have nothingPending : s.engine.pending = none := by
    unfold Engine.pending
    rw [idle]
    rfl
  have may : ({ s.engine with state := .waiting, queue := [r] } : Engine).mayTake r = true := by
    unfold Engine.mayTake
    rw [preset]
    dsimp only
    rw [unheld, unmeasured]
    rfl
  have taken := State.enqueue_idle idle queue may
  rw [preset] at taken
  unfold State.arrive State.collapseScene
  cases s.engine.settings.mode with
  | sequence =>
    dsimp only
    rw [queue, taken] <;> rfl
  | collapse =>
    dsimp only
    rw [queue, preset, nothingPending]
    dsimp only
    rw [taken] <;> rfl

theorem Context.chooseScene_some (c : Context) (k : Nat) :
    c.chooseScene (some k) = (if k < c.scenes.length then k else c.header.defaultScene, decide (¬ k < c.scenes.length)) := by
  unfold Context.chooseScene Context.scene
  by_cases held : k < c.scenes.length <;> simp [held]

/-- R106, R116: a request that ends as a scene change of the ACTIVE context. -/
theorem State.sceneChange_eq {s : State} {e : Engine} {h : HistoryRecord} {older : List HistoryRecord}
    (newest : s.engine = { e with history := (h :: older).take 16 }) {r : SwitchRequest} (now : r.arrival = s.frameCounter)
    (single : r.merged = none) (b : BufferId) {c : Context} {k : Nat} {rec : SceneRecord}
    (held : c.scenes[if k < c.scenes.length then k else c.header.defaultScene]? = some rec) :
    let m := if k < c.scenes.length then k else c.header.defaultScene
    let status : SwitchStatus := if k < c.scenes.length then .ok else .sceneMissing
    s.sceneChange r b c k =
      ({ s.applyScene b c m rec with
          engine := { e with history := ({ h with
            scene := some m, status := status, activation := some s.frameCounter } :: older).take 16 } } : State).post
        (.switchDone r.source r.preset (some m) status b 0 c.activationTotal c.activationMisaligned) (tagByte r.tag) := by
  intro m status
  have chosen : c.chooseScene (some k) = (m, decide (¬ k < c.scenes.length)) := Context.chooseScene_some c k
  have state : (if decide (¬ k < c.scenes.length) = true then SwitchStatus.sceneMissing else .ok) = status := by
    by_cases low : k < c.scenes.length <;> simp [low, status]
  have record : c.sceneRecord m = rec := by
    unfold Context.sceneRecord Context.scene
    rw [held]
    rfl
  unfold State.sceneChange
  rw [chosen]
  dsimp only
  rw [state, record, State.editHistory_newest ((State.applyScene_engine _ _ _ _ _).trans newest)]
  unfold State.doneRequest
  rw [single]
  dsimp only
  rw [State.applyScene_frameCounter, now, frameDiff_self]

/-- R52, R60: the context a load copies, written out. -/
theorem Preset.load_eq (u : LoopUnit) (selected : Input) (n : Nat) (p : Preset) :
    p.load u selected n =
      let slots := p.slots.map (SlotRecord.load u)
      let lanes := lanesOf p.header (p.slots.map (fun x => x.kind.latency u (x.values.getD 0 0)))
      { number := n, header := p.header, scenes := p.scenes, overlay := p.overlay, messages := p.messages,
        slots := slots, started := false, fed := p.header.inputMode.fedAtLoad selected, follow := Ramp.rest 192,
        activeScene := none, lanes := lanes, pendingLanes := none, laneX := Ramp.rest 192, laneY := Ramp.rest 192,
        lineX := List.replicate lanes.compX 0, lineY := List.replicate lanes.compY 0, mergeClips := 0,
        freshMergeClips := 0, activationTotal := 0, activationMisaligned := false } := by
  have latencies : (p.slots.map (SlotRecord.load u)).map Slot.latency =
      p.slots.map (fun x => x.kind.latency u (x.values.getD 0 0)) := by
    rw [List.map_map]
    rfl
  unfold Preset.load
  dsimp only
  rw [latencies]
  rfl

/-- R106 case 3: the load, with what it takes and what a curve that is missing gives back. -/
theorem State.startLoad_eq {s : State} {b : BufferId} {more : List BufferId} (free : s.withRole .free = b :: more)
    (r : SwitchRequest) (n : Nat) (p : Preset) :
    let c := p.load s.loops s.selected n
    s.startLoad r n p =
      if curvesHeld s.curves c then
        { s with
          curves := moveRefs s.curves true c,
          buffers := s.buffers.set b (Buffer.load c),
          engine := { s.engine with
            state := .loading,
            current := some { request := r, buffer := b, sceneApplied := none, status := .inProgress } } }
      else ({ s with buffers := s.buffers.set b Buffer.free } : State).failStart r .missingCurve := by
  intro c
  have freed : State.freeBuffer
      ({ s.setBuffer b (Buffer.load c) with curves := moveRefs s.curves true c } : State) b =
        { s with buffers := s.buffers.set b Buffer.free } := by
    simp [State.freeBuffer, State.setBuffer, Buffer.load, moveRefs_back]
  unfold State.startLoad
  rw [free]
  dsimp only
  rw [curvesHeld_moveRefs, freed]
  rfl

end Sys2Proof.Machine
end

section
/-! PROOFS. SWITCH from IDLE (R94, R106). -/
namespace Sys2Proof.Machine

theorem State.alreadyActive_some {s : State} {b : BufferId} {c : Context} {r : SwitchRequest} {n : Nat}
    (active : s.active = some (b, c)) (same : c.number = n) (unforced : r.force = false) :
    s.alreadyActive r n = some (b, c) := by
  unfold State.alreadyActive
  rw [active]
  exact if_pos ⟨same, unforced⟩

theorem State.alreadyActive_none {s : State} {r : SwitchRequest} {n : Nat}
    (other : r.force = true ∨ ∀ b c, s.active = some (b, c) → c.number ≠ n) : s.alreadyActive r n = none := by
  unfold State.alreadyActive
  cases active : s.active with
  | none => rfl
  | some x =>
    obtain ⟨b, c⟩ := x
    refine if_neg fun ⟨same, unforced⟩ => ?_
    rcases other with forced | differs
    · rw [forced] at unforced
      cases unforced
    · exact differs b c active same

/-- R106: a start whose preset the ACTIVE context does not hold. -/
theorem State.startPreset_loads {s : State} (unrated : s.engine.holdOffs.rate = false) {r : SwitchRequest} {n : Nat}
    (other : r.force = true ∨ ∀ b c, s.active = some (b, c) → c.number ≠ n) :
    let u : State := { s with engine := s.engine.started s.frameCounter (r.record s.frameCounter none) }
    s.startPreset r n =
      match s.presetAt n with
      | none => u.failStart r .empty
      | some p => u.startLoad r n p := by
  intro u
  have differs : u.alreadyActive r n = none := State.alreadyActive_none other
  unfold State.startPreset
  dsimp only
  rw [State.started_eq unrated, differs] <;> rfl

/-- R106 case 1: a start for the preset of the ACTIVE context. -/
theorem State.startPreset_holds {s : State} (unrated : s.engine.holdOffs.rate = false) {r : SwitchRequest} {n : Nat}
    {b : BufferId} {c : Context} (active : s.active = some (b, c)) (same : c.number = n) (unforced : r.force = false) :
    let u : State := { s with engine := s.engine.started s.frameCounter (r.record s.frameCounter none) }
    s.startPreset r n =
      match r.scene with
      | some k => u.sceneChange r b c k
      | none => (u.editHistory (fun h => { h with status := .unchanged })).doneRequest r none .unchanged b 0 c := by
  intro u
  have holds : u.alreadyActive r n = some (b, c) := State.alreadyActive_some active same unforced
  unfold State.startPreset
  dsimp only
  rw [State.started_eq unrated, holds] <;> rfl

/-- Settles O32: the request is started as it arrives, and ends by the case of R106 that it meets. -/
theorem switchStartsALoadFromIdle : Obligations.SwitchStartsALoadFromIdle := by
  unfold Obligations.SwitchStartsALoadFromIdle
  intro s tag n force scene ready high flag scenes mode idle queue free r rates e record started answers
  have unrated : s.engine.holdOffs.rate = false := by rw [free]
  have starts (t : State) (h : s.startPreset r n = t) : answers t := by
    have legal : switchLegal (some n) scene force := ⟨flag, fun m hm => by cases hm; exact high, scenes, .inl nofun⟩
    have arrives : s.arrive r = (t, true) :=
      (State.arrive_starts mode idle queue (by rw [free]; rfl) rfl).trans (by rw [h])
    refine (exec_of_ready ready (i := .switch tag (some n) scene force) tag (.switch (some n) scene force) rfl).trans ?_
    simp only [perform]
    rw [reqSwitch_legal legal]
    rw [show s.newRequest (some n) scene (force == 1) .control (some tag) = r from rfl, arrives]
    rfl
  refine ⟨fun b c active same unforced => ?active, fun other => ?other⟩
  case active =>
    have held := State.startPreset_holds unrated (r := r) active same (beq_eq_false_iff_ne.mpr (by omega))
    cases scene with
    | none => exact starts _ (held.trans rfl)
    | some k =>
      intro rec found _
      exact starts _ (held.trans (State.sceneChange_eq (e := started (record .inProgress)) (h := record .inProgress) rfl rfl rfl b found))
  case other =>
    have loads := State.startPreset_loads unrated (r := r) (n := n)
      (other.imp_left fun forced => beq_iff_eq.mpr forced)
    cases found : s.presetAt n with
    | none =>
      rw [found] at loads
      exact starts _ (loads.trans rfl)
    | some p =>
      rw [found] at loads
      intro b more buffer h latency cleared param slot ls pre lx ly post compX compY lanes c
      have delays : latency = fun x => x.kind.latency s.loops (x.values.getD 0 0) :=
        funext fun x => (SlotKind.latency_eq x.kind s.loops (x.values.getD 0 0)).symm
      have slots : slot = SlotRecord.load s.loops := by
        funext x
        have params : param x = fun v => Param.load x.kind v.2 v.1 := funext fun v => (Param.load_eq x.kind v.2 v.1).symm
        simp only [slot, params, delays]
        unfold SlotRecord.load wetRest
        cases x.enabled <;> rfl
      have copied : c = p.load s.loops s.selected n := by
        rw [Preset.load_eq]
        simp only [c, lanes, compX, compY, lx, ly, ls, pre, post, slots, delays, lanesOf_eq]
        rfl
      clear_value c
      subst copied
      have started := State.startLoad_eq
        (s := { s with engine := s.engine.started s.frameCounter (r.record s.frameCounter none) }) buffer r n p
      by_cases complete : curvesHeld s.curves (p.load s.loops s.selected n) = true
      · refine (if_pos complete).mpr ?_
        exact starts _ (loads.trans (started.trans (if_pos complete)))
      · refine (if_neg complete).mpr ?_
        exact starts _ (loads.trans (started.trans (if_neg complete)))

end Sys2Proof.Machine
end

section
/-! PROOFS. Overrides and the write of a parameter (R26, R88). -/
namespace Sys2Proof.Machine

/-! ## Overrides -/

/-- R26: the parameters after a mode was written: the value it ranges is clamped. -/
def fittedParams (kind : SlotKind) (index : Nat) (ps : List Param) (mode other : Nat) : List Param :=
  let q := ps.getD other Param.absent
  if index = mode then
    ps.set other { q with value := kind.clamp ((ps.getD mode Param.absent).value) other q.value }
  else ps

/-- R26, R27: the slot after a write of a parameter that is no curve. -/
theorem Slot.put_fitMode_eq (x : Slot) (n : Nat) (v : Int) :
    let old := x.params.getD n Param.absent
    let ps := x.params.set n { value := v, ramp := if x.kind.isLevel n then old.ramp.retarget v.toNat else old.ramp }
    (x.put true n v).fitMode n =
      { x with params := match x.kind with
        | .modulation => fittedParams x.kind n ps 1 2
        | .delay => fittedParams x.kind n ps 0 1
        | _ => ps } := by
  intro old ps
  have put : x.put true n v = { x with params := ps } := rfl
  have fits {m d : Nat} (pair : x.kind.modePair = some (m, d)) (unlevel : x.kind.isLevel d = false) :
      (x.put true n v).fitMode n = { x with params := fittedParams x.kind n ps m d } := by
    unfold fittedParams
    by_cases mode : n = m
    · subst mode
      rw [put, Slot.fitMode_of_pair (y := { x with params := ps }) pair, Slot.value_eq, Slot.value_eq, if_pos rfl]
      unfold Slot.put
      dsimp only
      rw [unlevel]
      rfl
    · rw [put, if_neg mode]
      refine Slot.fitMode_of_none fun d' other => ?_
      exact mode (Prod.mk.inj (Option.some.inj (pair.symm.trans other))).1.symm
  have plain (none' : x.kind.modePair = none) : (x.put true n v).fitMode n = { x with params := ps } := by
    rw [put]
    exact Slot.fitMode_of_none fun d' some' => by rw [show x.kind.modePair = _ from some'] at none'; cases none'
  cases kind : x.kind with
  | modulation => exact (fits (by rw [kind]; rfl) (by rw [kind]; rfl)).trans (by rw [kind])
  | delay => exact (fits (by rw [kind]; rfl) (by rw [kind]; rfl)).trans (by rw [kind])
  | _ => exact (plain (by rw [kind]; rfl)).trans (by rw [kind])

theorem Slot.put_curve {x : Slot} {n : Nat} (curve : x.kind.isCurve n = true) (v : Int) :
    x.put true n v =
      { x with params := x.params.set n { x.params.getD n Param.absent with value := v } } := by
  have unlevel : x.kind.isLevel n = false := by
    rcases (SlotKind.isCurve_iff x.kind n).mp curve with ⟨kind | kind, rfl⟩ <;> rw [kind] <;> rfl
  unfold Slot.put
  dsimp only
  rw [unlevel]
  rfl

theorem Slot.setEnabled_running (x : Slot) (on : Bool) :
    x.setEnabled true on =
      if x.enabled = on then x
      else { x with
        enabled := on, wet := x.wet.retarget (if on then 192 else 0), dry := x.dry.retarget (if on then 0 else 192) } := by
  unfold Slot.setEnabled
  cases on <;> rfl

/-- R88 step 2: an override, by the cases of the write. -/
theorem OverrideRun.write_eq {r : OverrideRun} {o : Override} {x : Slot} (found : r.slots[o.position]? = some x) :
    let v := x.clamped o.index o.value
    let hit := r.clamped || decide (v ≠ o.value)
    r.write true o =
      if x.kind.isCurve o.index then
        if v = x.value o.index then { r with clamped := hit }
        else if curveHeld r.curves v.toNat then
          { slots := r.slots.set o.position (x.put true o.index v),
            curves := moveRef r.curves (x.value o.index).toNat v.toNat, clamped := hit, notMade := r.notMade }
        else { r with clamped := hit, notMade := r.notMade + 1 }
      else
        { slots := r.slots.set o.position ((x.put true o.index v).fitMode o.index), curves := r.curves, clamped := hit,
          notMade := r.notMade } := by
  intro v hit
  have same : r.slots.set o.position x = r.slots := by
    obtain ⟨low, rfl⟩ := List.getElem?_eq_some_iff.mp found
    exact List.set_getElem_self low
  unfold OverrideRun.write
  rw [found]
  dsimp only
  unfold Slot.write
  dsimp only
  by_cases curve : x.kind.isCurve o.index = true
  · rw [if_pos curve, if_pos curve]
    by_cases kept : v = x.value o.index
    · rw [if_pos kept, if_pos kept]
      exact congrArg (fun ys => ({ r with slots := ys, clamped := hit } : OverrideRun)) same
    · rw [if_neg kept, if_neg kept]
      by_cases held : curveHeld r.curves v.toNat = true
      · rw [if_pos held, if_pos held]
        rfl
      · rw [if_neg held, if_neg held]
        exact congrArg (fun ys => ({ r with slots := ys, clamped := hit, notMade := r.notMade + 1 } : OverrideRun)) same
  · rw [if_neg curve, if_neg curve]
    rfl

end Sys2Proof.Machine
end

section
/-! PROOFS. SCENE and the application of a scene (R88 to R90, R116, R180). -/
namespace Sys2Proof.Machine

/-! ## A scene applied -/

/-- What a run of overrides has come to, as a tuple. -/
def OverrideRun.parts (r : OverrideRun) : List Slot × List CurveEntry × Bool × Nat :=
  (r.slots, r.curves, r.clamped, r.notMade)

/-- What a catch-up has come to, as a tuple. -/
def CatchUpRun.parts (r : CatchUpRun) : State × Bool × Nat := (r.state, r.clamped, r.notMade)

/-- R180: a PARAM target within the mask, by the reply of its write. -/
theorem CatchUpRun.target_param (r : CatchUpRun) (key : MapKey) (p n i : Nat) (lo hi : Int) :
    let y := reqParamSet n i (paramValue lo hi p) r.state
    let w := r.state.runParam key.link n i lo hi p
    ({ state := w.1, clamped := r.clamped || w.2.clamped, notMade := r.notMade + w.2.emptyCurve.toNat } : CatchUpRun).parts =
      match y.2.code with
      | .ok => (y.1, r.clamped, r.notMade)
      | .clamped => (y.1.countClamped key.link, true, r.notMade)
      | .missingCurve => (r.state.countUnapplied key.link, r.clamped, r.notMade + 1)
      | _ => (r.state.countUnapplied key.link, r.clamped, r.notMade) := by
  intro y w
  simp only [w, CatchUpRun.parts]
  rw [State.runParam_reply]
  cases code : y.2.code <;> simp [y]

/-- R116: a scene request taken with no ACTIVE context. -/
theorem State.takeScene_none {s : State} (active : s.active = none) {r : SwitchRequest} (single : r.merged = none) :
    s.takeScene r =
      ({ s with engine := { s.engine with history :=
          ({ r.record s.frameCounter (some s.frameCounter) with status := .badState } :: s.engine.history).take 16 } } :
        State).post (.switchFailed r.source r.preset r.scene .badState) (tagByte r.tag) := by
  have inactive (e : Engine) : ({ s with engine := e } : State).active = none := active
  unfold State.takeScene State.pushHistory State.setEngine
  dsimp only
  rw [inactive]
  unfold State.failRequest
  dsimp only
  rw [single]
  rfl

/-- Settles O35: the application of a scene, override by override and target by target; then the request. -/
theorem sceneRequestAppliesItsScene : Obligations.SceneRequestAppliesItsScene := by
  unfold Obligations.SceneRequestAppliesItsScene
  intro none' enabled write count target entry link applied
  have enables (rec : SceneRecord) (slots : List Slot) :
      applyEnables true slots rec.enables = slots.zipIdx.map (enabled rec) :=
    List.map_congr_left fun x _ => Slot.setEnabled_running x.1 (rec.enables.getD x.2 x.1.enabled)
  have writes (r : OverrideRun) (o : Override) : write r.parts o = (r.write true o).parts := by
    cases found : r.slots[o.position]? with
    | none =>
      unfold OverrideRun.write
      simp only [write, OverrideRun.parts, found]
    | some x =>
      have steps := OverrideRun.write_eq (o := o) found
      dsimp only at steps
      simp only [write, OverrideRun.parts, found]
      rw [steps]
      by_cases curve : x.kind.isCurve o.index = true
      · rw [if_pos curve, if_pos curve]
        rw [Slot.put_curve curve]
        split_ifs <;> rfl
      · rw [if_neg curve, if_neg curve, Slot.put_fitMode_eq]
        rfl
  have targets (key : MapKey) (p : Nat) (r : CatchUpRun) (it : Target × Nat) :
      target key p r.parts it = (r.target key p it).parts := by
    obtain ⟨t, n⟩ := it
    cases t with
    | param position index lo hi =>
      refine Eq.trans ?_ (apply_ite CatchUpRun.parts _ _ _).symm
      exact if_congr Iff.rfl (CatchUpRun.target_param r key p position index lo hi).symm rfl
    | _ => rfl
  have entries (r : CatchUpRun) (e : MapEntry) : entry r.parts e = (r.entry e).parts := by
    simp only [entry]
    unfold CatchUpRun.entry
    cases e.key.source with
    | switch k => rfl
    | expr k =>
      dsimp only [CatchUpRun.parts]
      cases (r.state.pedals.get e.key.link).positions.getD k none with
      | none => rfl
      | some p => exact List.foldl_hom CatchUpRun.parts (targets e.key p)
  have links (overlay : List MapEntry) (r : CatchUpRun) (l : Link) :
      link overlay r.parts l = (CatchUpRun.link overlay r l).parts := by
    simp only [link]
    unfold CatchUpRun.link
    rw [effectiveFor_eq]
    cases identity : (r.state.pedals.get l).identity with
    | none => exact if_pos identity
    | some k =>
      refine (if_neg (by rw [show r.parts.1 = r.state from rfl, identity]; nofun)).trans ?_
      exact List.foldl_hom CatchUpRun.parts entries
  have applies (w : State) (b : BufferId) (c : Context) (n : Nat) (rec : SceneRecord) :
      w.applyScene b c n rec = applied w b c n rec := by
    have overridden (i : OverrideRun) : rec.overrides.foldl write i.parts = (rec.overrides.foldl (OverrideRun.write true) i).parts :=
      List.foldl_hom OverrideRun.parts writes
    have caught (i : CatchUpRun) : [Link.a, Link.b].foldl (link c.overlay) i.parts =
        ([Link.a, Link.b].foldl (CatchUpRun.link c.overlay) i).parts := List.foldl_hom CatchUpRun.parts (links c.overlay)
    have written := overridden { slots := applyEnables true c.slots rec.enables, curves := w.curves, clamped := false, notMade := 0 }
    rw [OverrideRun.parts, enables] at written
    simp only [applied]
    rw [written]
    unfold State.applyScene
    rw [enables]
    dsimp only
    generalize List.foldl (OverrideRun.write true) _ rec.overrides = o
    have ended := caught
      { state := { w.setContext b { c with slots := o.slots } with curves := o.curves }, clamped := o.clamped,
        notMade := o.notMade }
    simp only [CatchUpRun.parts, OverrideRun.parts] at ended ⊢
    rw [ended] <;> rfl
  refine ⟨applies, ?_⟩
  intro s tag number ready low idle queue unheld unmeasured f record recorded
  have takes (t : State) (h : s.takeScene (s.newRequest none (some number) false .control (some tag)) = t) :
      exec (.scene tag number) s = .next (t.replied tag 0x17 .accepted []) := by
    refine (exec_of_ready ready (i := .scene tag number) tag (.scene number) rfl).trans ?_
    simp only [perform]
    rw [reqScene, if_neg (Nat.not_lt.mpr low), State.arrive_scene idle queue unheld unmeasured rfl, h]
    rfl
  cases active : s.active with
  | none => exact takes _ ((State.takeScene_none active rfl).trans rfl)
  | some x =>
    obtain ⟨b, c⟩ := x
    intro rec found t
    have holds (e : Engine) : ({ s with engine := e } : State).active = some (b, c) := active
    have changed := State.sceneChange_eq (s := { s with engine := recorded (record number .inProgress) })
      (e := s.engine) (h := record number .inProgress) (older := s.engine.history) rfl
      (r := s.newRequest none (some number) false .control (some tag)) rfl rfl b found
    refine takes _ (Eq.trans ?_ (changed.trans ?_))
    · unfold State.takeScene State.pushHistory State.setEngine
      dsimp only
      rw [holds]
      rfl
    · rw [applies]
      rfl

end Sys2Proof.Machine
end

section
/-! PROOFS. The activation (R111). -/
namespace Sys2Proof.Machine

/-! ## What an application leaves of the buffers -/

/-- R88, R180: what is written under a scene goes into one buffer, whose role stays. -/
structure State.WritesOnly (b : BufferId) (s t : State) : Prop where
  others : ∀ k, k ≠ b → t.buffers.get k = s.buffers.get k
  role : (t.buffers.get b).role = (s.buffers.get b).role

/-- Only buffer b is ACTIVE, if any. -/
def State.soleActive (b : BufferId) (s : State) : Prop := ∀ k, (s.buffers.get k).role = .active → k = b

theorem State.WritesOnly.of_buffers {b : BufferId} {s t : State} (h : t.buffers = s.buffers) : State.WritesOnly b s t :=
  ⟨fun _ _ => by rw [h], by rw [h]⟩

theorem State.WritesOnly.trans {b : BufferId} {s t u : State} (h : State.WritesOnly b s t) (k : State.WritesOnly b t u) :
    State.WritesOnly b s u :=
  ⟨fun n ne => (k.others n ne).trans (h.others n ne), k.role.trans h.role⟩

theorem State.WritesOnly.soleActive {b : BufferId} {s t : State} (h : State.WritesOnly b s t) (sole : s.soleActive b) :
    t.soleActive b := fun k active => by
  by_cases same : k = b
  · exact same
  · exact sole k ((congrArg Buffer.role (h.others k same)).symm.trans active)

theorem State.setContext_writesOnly (s : State) (b : BufferId) (c : Context) : State.WritesOnly b s (s.setContext b c) :=
  ⟨fun _ ne => PerBuffer.get_set_ne _ _ ne.symm, by
    rw [show (s.setContext b c).buffers.get b = { s.buffers.get b with context := some c } from PerBuffer.get_set _ _ _]⟩

theorem State.runParam_writesOnly {b : BufferId} {s : State} (sole : s.soleActive b) (l : Link) (n i : Nat) (lo hi : Int)
    (p : Nat) : State.WritesOnly b s (s.runParam l n i lo hi p).1 := by
  have same : State.WritesOnly b s s := .of_buffers rfl
  unfold State.runParam
  split
  · exact .of_buffers rfl
  · next b' c active =>
    obtain rfl : b' = b := sole b' (State.active_eq_some active).1
    split
    · exact .of_buffers rfl
    · split
      · exact .of_buffers rfl
      · next slot _ _ =>
        have written : State.WritesOnly b' s (s.writeActive b' c n slot i (paramValue lo hi p)).1 := by
          unfold State.writeActive
          dsimp only
          split
          · exact same
          · exact (State.setContext_writesOnly s b' _).trans (.of_buffers rfl)
        dsimp only
        split
        · exact .of_buffers rfl
        · split
          · exact written.trans (.of_buffers rfl)
          · exact written

/-- A fold of catch-up steps that write only buffer b. -/
theorem CatchUpRun.foldl_writesOnly {α : Type} {b : BufferId} {f : CatchUpRun → α → CatchUpRun}
    (h : ∀ (r : CatchUpRun) (x : α), r.state.soleActive b → State.WritesOnly b r.state (f r x).state) (xs : List α)
    (r : CatchUpRun) (sole : r.state.soleActive b) : State.WritesOnly b r.state (xs.foldl f r).state := by
  induction xs generalizing r with
  | nil => exact .of_buffers rfl
  | cons x xs ih => exact (h r x sole).trans (ih _ ((h r x sole).soleActive sole))

theorem CatchUpRun.link_writesOnly {b : BufferId} (overlay : List MapEntry) (r : CatchUpRun) (l : Link)
    (sole : r.state.soleActive b) : State.WritesOnly b r.state (CatchUpRun.link overlay r l).state := by
  unfold CatchUpRun.link
  split
  · exact .of_buffers rfl
  · refine CatchUpRun.foldl_writesOnly (fun r e sole => ?_) _ r sole
    unfold CatchUpRun.entry
    split
    · exact .of_buffers rfl
    · split
      · exact .of_buffers rfl
      · next p _ =>
        refine CatchUpRun.foldl_writesOnly (fun r it sole => ?_) _ r sole
        unfold CatchUpRun.target
        split
        · split
          · exact State.runParam_writesOnly sole _ _ _ _ _ _
          · exact .of_buffers (State.post_buffers _ _ _)
        · exact .of_buffers rfl

/-- R88 to R90: a scene applied to the one ACTIVE buffer writes that buffer alone. -/
theorem State.applyScene_writesOnly {b : BufferId} {s : State} (sole : s.soleActive b) (c : Context) (n : Nat)
    (rec : SceneRecord) : State.WritesOnly b s (s.applyScene b c n rec) := by
  unfold State.applyScene
  extract_lets o held s1 r
  have start : State.WritesOnly b s s1 := (State.setContext_writesOnly s b _).trans (.of_buffers rfl)
  have caught : State.WritesOnly b s r.state := start.trans
    (CatchUpRun.foldl_writesOnly (fun r l sole => CatchUpRun.link_writesOnly c.overlay r l sole) [Link.a, Link.b]
      { state := s1, clamped := o.clamped, notMade := o.notMade } (start.soleActive sole))
  split
  · exact caught
  · next c' _ =>
    refine (caught.trans (State.setContext_writesOnly _ b { c' with activeScene := some n })).trans (.of_buffers ?_)
    dsimp only
    rw [State.post_buffers, State.post_buffers]

/-! ## The activation -/

/-- R191: the messages of an activation, handed over one by one. -/
theorem Satellite.hand_marked (u : Satellite) (m : SatMessage) :
    u.hand .activation true m =
      if u.bypass.isSome then
        { u.countUnmapped m.address with
          catchUp := (u.targets m.address).foldl
            (fun t a => putCatchUp t { address := a, payload := m.payload, origin := .activation }) u.catchUp }
      else (u.targets m.address).foldl (fun v a => v.place (v.frameFor a m.payload .activation true))
        (u.countUnmapped m.address) := by
  unfold Satellite.hand
  cases u.bypass with
  | none => rfl
  | some b =>
    rw [Satellite.countUnmapped_eq]
    rfl

/-- R126, R127: the clock after an activation. -/
theorem State.presetTempo_eq (s : State) (asked : Option Nat) :
    s.presetTempo asked = { s with tempo :=
      match asked with
      | none => s.tempo
      | some a =>
        if s.tempo.lock then s.tempo else { s.tempo.change s.nextFrameTime a .preset with taps := [] } } := by
  unfold State.presetTempo
  cases asked with
  | none => rfl
  | some a =>
    dsimp only
    by_cases lock : s.tempo.lock = true
    · rw [if_pos lock, if_pos lock]
    · rw [if_neg lock, if_neg lock]
      rfl

/-- R60, R111: the context of an activation, with the values of R60 that hold at it. -/
def Context.atActivation (c : Context) : Context :=
  { c with activationTotal := c.lanes.total, activationMisaligned := c.lanes.misaligned }

/-- R111: the state once the roles have changed and the crossfade has begun. -/
def State.fading (w : State) (cur : CurrentSwitch) (c : Context) : State :=
  let ch := c.chooseScene cur.request.scene
  { w with
    buffers := (w.buffers.map (fun (x : Buffer) => if x.role = .active then { x with role := .outgoing } else x)).set
      cur.buffer { w.buffers.get cur.buffer with role := .active, context := some c.atActivation },
    engine := { w.engine with
      state := .crossfading, fadeFrame := 0, fadeLength := c.header.frames,
      current := some { cur with sceneApplied := some ch.1, status := if ch.2 then .sceneMissing else .ok },
      history := w.engine.history.modifyHead
        (fun h => { h with activation := some w.frameCounter, scene := some ch.1 }) } }

theorem State.fading_here (w : State) (cur : CurrentSwitch) (c : Context) : (w.fading cur c).buffers.get cur.buffer =
    { w.buffers.get cur.buffer with role := .active, context := some c.atActivation } := PerBuffer.get_set _ _ _

theorem State.fading_other (w : State) {cur : CurrentSwitch} (c : Context) {b : BufferId} (ne : b ≠ cur.buffer) :
    (w.fading cur c).buffers.get b =
      if (w.buffers.get b).role = .active then { (w.buffers.get b) with role := .outgoing } else w.buffers.get b :=
  (PerBuffer.get_set_ne _ _ ne.symm).trans (PerBuffer.get_map _ _ _)

theorem State.fading_sole (w : State) (cur : CurrentSwitch) (c : Context) : (w.fading cur c).soleActive cur.buffer := by
  intro k active
  by_contra other
  rw [State.fading_other w c other] at active
  split at active
  · cases active
  · next inactive => exact inactive active

/-- R111: the activation, by what it applies once the roles have changed. -/
theorem State.activate_eq {w : State} {cur : CurrentSwitch} {c : Context}
    (held : (w.buffers.get cur.buffer).context = some c) :
    let n := (c.chooseScene cur.request.scene).1
    let v := (w.fading cur c).applyScene cur.buffer c.atActivation n (c.atActivation.sceneRecord n)
    w.activate cur =
      (((({ v with sat := v.sat.activate c.messages } : State).syncHoldOffs).presetTempo c.header.tempo).forceOverlay
        cur.buffer c.atActivation).post (.presetActive cur.buffer c.number c.header.name n) := by
  intro n v
  unfold State.activate
  rw [held]
  dsimp only
  rw [State.editHistory_engine]
  have stands : ((w.fading cur c).buffers.get cur.buffer).context = some c.atActivation := by rw [State.fading_here]
  generalize moved : State.setEngine _ _ = x
  obtain rfl : x = w.fading cur c := moved.symm.trans rfl
  rw [stands] <;> rfl

/-- R111: what an activation leaves, buffer by buffer and block by block. -/
theorem State.activate_leaves {w : State} {cur : CurrentSwitch} {c : Context}
    (held : (w.buffers.get cur.buffer).context = some c) :
    let t := w.activate cur
    (t.buffers.get cur.buffer).role = .active ∧
      (∀ b, b ≠ cur.buffer → t.buffers.get b =
        (if (w.buffers.get b).role = .active then { (w.buffers.get b) with role := .outgoing } else w.buffers.get b)) ∧
      t.engine.state = .crossfading ∧ t.engine.fadeFrame = 0 ∧ t.engine.fadeLength = c.header.frames ∧
      t.engine.queue = w.engine.queue ∧
      t.map.overlay = some { buffer := cur.buffer, preset := c.number, entries := c.overlay } ∧
      t.mains = w.mains ∧ t.loops = w.loops ∧ t.library = w.library ∧ t.tuner = w.tuner ∧ t.selected = w.selected ∧
      t.frameCounter = w.frameCounter ∧ t.control = w.control := by
  intro t
  have stages := State.activate_eq held
  extract_lets n v at stages
  have written : State.WritesOnly cur.buffer (w.fading cur c) v :=
    State.applyScene_writesOnly (w.fading_sole cur c) c.atActivation n (c.atActivation.sceneRecord n)
  have engine : v.engine = (w.fading cur c).engine := State.applyScene_engine _ _ _ _ _
  obtain ⟨-, -, -, counter, -, -, mains, -, selected, loops, library, -, -, tuner, -, control, -⟩ :=
    (State.base_eq_iff v (w.fading cur c)).mp (State.applyScene_base _ _ _ _ _)
  have role : ((w.fading cur c).buffers.get cur.buffer).role = .active := by rw [State.fading_here]
  rw [show t = _ from stages, State.presetTempo_eq]
  refine ⟨?_, fun b ne => ?_, ?_, ?_, ?_, ?_, ?_, ?_, ?_, ?_, ?_, ?_, ?_, ?_⟩
  · rw [State.post_buffers]; exact written.role.trans role
  · rw [State.post_buffers]; exact (written.others b ne).trans (w.fading_other c ne)
  · rw [State.post_engine]; exact (congrArg Engine.state engine :)
  · rw [State.post_engine]; exact (congrArg Engine.fadeFrame engine :)
  · rw [State.post_engine]; exact (congrArg Engine.fadeLength engine :)
  · rw [State.post_engine]; exact (congrArg Engine.queue engine :)
  · rw [State.post_map]; rfl
  · rw [State.post_mains]; exact mains
  · rw [State.post_loops]; exact loops
  · rw [State.post_library]; exact library
  · rw [State.post_tuner]; exact tuner
  · rw [State.post_selected]; exact selected
  · rw [State.post_frameCounter]; exact counter
  · rw [State.post_control]; exact control

end Sys2Proof.Machine
end

section
/-! PROOFS. LOAD_COMPLETE (R107, R109 to R111). -/
namespace Sys2Proof.Machine

theorem Context.chooseScene_eq (c : Context) (scene : Option Nat) :
    c.chooseScene scene =
      (match scene with
        | none => c.header.defaultScene
        | some k => if k < c.scenes.length then k else c.header.defaultScene,
       match scene with
        | none => false
        | some k => decide (¬ k < c.scenes.length)) := by
  cases scene with
  | none => rfl
  | some k => exact Context.chooseScene_some c k

/-- Settles O39: the load that completes, then where its context goes, and the activation written out. -/
theorem loadCompletesAndProceeds : Obligations.LoadCompletesAndProceeds := by
  unfold Obligations.LoadCompletesAndProceeds
  intro place handed messaged paced activated
  have hands : handed = fun u m => u.hand .activation true m :=
    funext fun u => funext fun m => (Satellite.hand_marked u m).symm
  have messages (u : Satellite) (ms : List SatMessage) : messaged u ms = u.activate ms :=
    congrArg (fun f => List.foldl f _ ms) hands
  have tempo (w : State) (asked : Option Nat) : w.presetTempo asked = { w with tempo := paced w asked } := by
    rw [State.presetTempo_eq]
    cases asked with
    | none => rfl
    | some a =>
      have floor : w.nextFrameTime % 137438953472 = w.nextFrameTime := Nat.mod_mod _ _
      simp only [paced]
      rw [Tempo.change_eq, floor]
      rfl
  have activates (w : State) (cur : CurrentSwitch) (c : Context) (held : (w.buffers.get cur.buffer).context = some c) :
      w.activate cur = activated w cur c := by
    have status (scene : Option Nat) :
        (if (match scene with | none => false | some k => decide (¬ k < c.scenes.length)) = true then
          SwitchStatus.sceneMissing else .ok) =
        (match scene with | none => .ok | some k => if k < c.scenes.length then .ok else .sceneMissing) := by
      cases scene with
      | none => rfl
      | some k => by_cases low : k < c.scenes.length <;> simp [low]
    have history (f : HistoryRecord → HistoryRecord) (hs : List HistoryRecord) :
        hs.modifyHead f = (match hs with | [] => [] | h :: older => f h :: older) := by
      cases hs <;> rfl
    rw [State.activate_eq held, tempo]
    unfold State.fading
    rw [Context.chooseScene_eq]
    dsimp only
    rw [status, history]
    simp only [activated]
    rw [messages] <;> rfl
  refine ⟨activates, ?_⟩
  intro s running u
  have run : exec .loadComplete s =
      .next (if (s.frameOpen && State.loadDue u) = true then State.loadEvent u else s) :=
    congrArg _ (State.atFrameEnd_eq running _ _)
  clear_value u
  refine ⟨fun idle => ?idle, fun cur c isOpen loading current held => ?loading⟩
  case idle =>
    rw [run, if_neg]
    intro due
    obtain ⟨isOpen, due⟩ := Bool.and_eq_true_iff.mp due
    rcases idle with closed | notLoading
    · rw [closed] at isOpen
      cases isOpen
    · unfold State.loadDue at due
      split at due
      · next loading _ => exact notLoading loading
      · cases due
  case loading =>
    intro ready
    have due : (s.frameOpen && State.loadDue u) = true ↔ (u.buffers.get cur.buffer).loadLeft = 0 := by
      unfold State.loadDue
      rw [isOpen, loading, current]
      exact beq_iff_eq
    have event : State.loadEvent u = (match c.header.quantize with
        | .off => ready.proceed cur
        | _ => { ready with engine := { u.engine with state := .armed } }) := by
      unfold State.loadEvent
      rw [current]
      dsimp only
      rw [held] <;> rfl
    have still : (ready.buffers.get cur.buffer).context = some c := by
      rw [show ready.buffers.get cur.buffer = _ from PerBuffer.get_set _ _ _]
      exact held
    by_cases left : (u.buffers.get cur.buffer).loadLeft = 0
    · refine (if_neg (not_not.mpr left)).mpr ?_
      rw [run, if_pos (due.mpr left), event]
      by_cases free : c.header.quantize = .off
      · refine (if_neg (not_not.mpr free)).mpr ?_
        rw [free]
        dsimp only
        rw [State.proceed_eq]
        cases spill : ready.withRole .spill with
        | cons b more => rfl
        | nil =>
          cases cutting : ready.withRole .cutting with
          | cons b more => exact (if_pos (List.cons_ne_nil _ _)).mpr rfl
          | nil =>
            refine (if_neg (not_not.mpr rfl)).mpr ?_
            have leaves := State.activate_leaves still
            rw [activates ready cur c still] at leaves
            obtain ⟨role, others, leaves⟩ := leaves
            refine ⟨congrArg Host.Outcome.next (activates ready cur c still), role, fun b ne => ?_, leaves⟩
            rw [others b ne, show ready.buffers.get b = u.buffers.get b from PerBuffer.get_set_ne _ _ ne.symm]
      · refine (if_pos free).mpr ?_
        cases quantize : c.header.quantize with
        | off => exact absurd quantize free
        | _ => rfl
    · refine (if_pos left).mpr ?_
      rw [run, if_neg fun h => left (due.mp h)]

end Sys2Proof.Machine
end

section
/-! PROOFS. The power state through the end of a frame (R5). -/
namespace Sys2Proof.Machine

/-! ## The power state through the end of a frame -/

theorem State.power_of_base {s t : State} (h : s.base = t.base) : s.power = t.power := by
  obtain ⟨-, -, power, -⟩ := (State.base_eq_iff s t).mp h
  exact power

theorem State.ifDue_power {s : State} (due : State → Bool) {event : State → State} (h : ∀ t, (event t).power = t.power) :
    (s.ifDue due event).power = s.power := by
  unfold State.ifDue
  split
  · exact h s
  · rfl

/-! ### The operations an event runs -/

theorem State.syncTest_power (s : State) : s.syncTest.power = s.power := State.power_of_base (State.syncTest_base s)

theorem State.withSat_power (s : State) (u : Satellite) : (s.withSat u).power = s.power := State.syncTest_power _

theorem State.freeRole_power (s : State) (r : Role) : (s.freeRole r).power = s.power :=
  foldl_preserves State.power (fun t b => State.freeBuffer_power t b) _ _

theorem State.panic_power (s : State) : s.panic.power = s.power := by
  have aborts (t : State) : t.abortMeasure.power = t.power := by
    unfold State.abortMeasure
    split
    · rfl
    · rw [State.post_power]
      rfl
  have switch (t : State) : t.panicSwitch.power = t.power := by
    unfold State.panicSwitch
    split
    · rfl
    · split
      · rw [State.power_of_base (State.endSwitch_base _ _ _), State.freeRole_power]
      · exact State.power_of_base (State.abandonPending_base _ _ _)
  unfold State.panic
  dsimp only
  rw [State.setEngine_power, aborts, State.freeRole_power, State.freeRole_power, switch,
    State.power_of_base (State.setQueue_base _ _), State.power_of_base (State.failAll_base _ _ _)]
  rfl

theorem State.setEngage_power (s : State) (e : EngageSet) : (s.setEngage e).power = s.power := by
  unfold State.setEngage
  dsimp only
  split
  · rfl
  · split
    · exact State.post_power _ _ _
    · split
      · exact (State.post_power _ _ _).trans (State.syncTest_power _)
      · exact State.post_power _ _ _

theorem State.selectInput_power (s : State) (i : Input) : (s.selectInput i).power = s.power := by
  unfold State.selectInput
  split
  · rfl
  · unfold State.tunerInput
    split
    · rfl
    · exact State.post_power _ _ _

theorem State.slotTarget_power (s : State) (l : Link) (n : Nat) (f : Bool → Bool) : (s.slotTarget l n f).power = s.power := by
  unfold State.slotTarget
  split
  · rfl
  · split
    · rfl
    · unfold State.setSlotEnabled
      split
      · rfl
      · exact State.post_power _ _ _

theorem State.runTarget_power (s : State) (k : MapKey) (p : Nat) (t : Target) : (s.runTarget k p t).power = s.power := by
  have requested (l : Link) (preset scene : Option Nat) (force : Bool) :
      (s.pedalRequest l preset scene force).power = s.power := State.power_of_base (State.pedalRequest_base _ _ _ _ _)
  unfold State.runTarget
  split
  · exact requested _ _ _ _
  · split
    · rfl
    · exact requested _ _ _ _
  · exact requested _ _ _ _
  · split
    · rfl
    · exact requested _ _ _ _
  · exact State.slotTarget_power _ _ _ _
  · exact State.slotTarget_power _ _ _ _
  · exact State.power_of_base (State.runParam_base _ _ _ _ _ _ _)
  · exact State.selectInput_power _ _
  · unfold State.tunerTarget
    split <;> exact State.setEngage_power _ _
  · rfl
  · exact State.syncTest_power _
  · exact State.post_power _ _ _
  · exact State.panic_power _

theorem State.fire_power (s : State) (es : List MapEntry) (n : Nat) (g : Gesture) : (s.fire es n g).power = s.power := by
  unfold State.fire
  split
  · rfl
  · refine foldl_preserves State.power (fun t it => ?_) _ _
    unfold State.dispatchTarget
    split
    · exact State.runTarget_power _ _ _ _
    · exact State.power_of_base (State.denyTarget_base _ _ _ _ _)

theorem State.activate_power (s : State) (cur : CurrentSwitch) : (s.activate cur).power = s.power := by
  cases held : (s.buffers.get cur.buffer).context with
  | none =>
    unfold State.activate
    rw [held]
  | some c =>
    have applied := State.power_of_base ((s.fading cur c).applyScene_base cur.buffer c.atActivation
      (c.chooseScene cur.request.scene).1 (c.atActivation.sceneRecord (c.chooseScene cur.request.scene).1))
    rw [State.activate_eq held, State.post_power, State.presetTempo_eq]
    exact applied

theorem State.proceed_power (s : State) (cur : CurrentSwitch) : (s.proceed cur).power = s.power := by
  unfold State.proceed
  split
  · rfl
  · split
    · exact State.activate_power s cur
    · rfl

theorem State.resume_power (s : State) (b : BufferId) : (s.freeBuffer b).resumeCutting.power = s.power := by
  unfold State.resumeCutting
  split
  · exact State.activate_power _ _
  · rfl

/-! ### The events -/

theorem State.rateExpiry_power (s : State) : s.rateExpiry.power = s.power :=
  (State.power_of_base (State.headTest_base _)).trans rfl

theorem State.measureEvent_power (s : State) : s.measureEvent.power = s.power := by
  unfold State.measureEvent
  split
  · rfl
  · unfold State.measureDone
    dsimp only
    rw [State.post_power, State.power_of_base (State.syncTest_base _), State.setLoop_only]

theorem State.beatEvent_power (s : State) : s.beatEvent.power = s.power := by
  unfold State.beatEvent
  dsimp only
  rw [State.post_power]
  unfold State.engineBeat
  split
  · split
    · split
      · rfl
      · exact State.proceed_power _ _
    · rfl
  · rfl

theorem State.loadEvent_power (s : State) : s.loadEvent.power = s.power := by
  unfold State.loadEvent
  split
  · rfl
  · split
    · rfl
    · unfold State.loadDone
      dsimp only
      split
      · exact State.proceed_power _ _
      · rfl

theorem State.fadeEvent_power (s : State) : s.fadeEvent.power = s.power := by
  have ended (t : State) (b : BufferId) : (t.endOutgoing b).power = t.power := by
    unfold State.endOutgoing
    split
    · rfl
    · split <;> rfl
  unfold State.fadeEvent
  split
  · rfl
  · unfold State.fadeDone
    dsimp only
    rw [State.power_of_base (State.restEngine_base _), State.power_of_base (State.endSwitch_base _ _ _)]
    exact foldl_preserves State.power ended _ _

theorem State.limitEvent_power (s : State) : s.limitEvent.power = s.power := by
  unfold State.limitEvent
  split <;> rfl

theorem State.quietEvent_power (s : State) : s.quietEvent.power = s.power := by
  unfold State.quietEvent
  split
  · rfl
  · exact State.resume_power s _

theorem State.cutEvent_power (s : State) : s.cutEvent.power = s.power := by
  unfold State.cutEvent
  split
  · rfl
  · exact State.resume_power s _

theorem State.flushEngine_power (s : State) : s.flushEngine.power = s.power := by
  unfold State.flushEngine
  rw [State.ifDue_power _ State.limitEvent_power, State.ifDue_power _ State.quietEvent_power,
    State.ifDue_power _ State.fadeEvent_power, State.ifDue_power _ State.cutEvent_power,
    State.ifDue_power _ State.loadEvent_power, State.ifDue_power _ State.beatEvent_power,
    State.ifDue_power _ State.measureEvent_power,
    State.ifDue_power _ State.rateExpiry_power]

theorem State.estimate_power (s : State) (f c : Nat) : (s.estimate f c).power = s.power := by
  have weaker (t : State) : (t.weaken c).power = t.power := by
    unfold State.weaken
    split
    · dsimp only
      split
      · rfl
      · exact State.post_power _ _ _
    · exact State.post_power _ _ _
  have qualified (t : State) (r : Reading) : (t.qualify r).power = t.power := by
    unfold State.qualify
    dsimp only
    split
    · exact (State.post_power _ _ _).trans (State.post_power _ _ _)
    · rfl
  unfold State.estimate
  dsimp only
  split
  · rfl
  · unfold State.listen
    split
    · split
      · exact qualified _ _
      · rfl
    · rfl
  · unfold State.track
    split
    · split
      · exact State.post_power _ _ _
      · exact weaker _
    · exact weaker _

theorem State.silenceEvent_power (s : State) (l : Link) : (s.silenceEvent l).power = s.power := by
  unfold State.silenceEvent
  split
  · rfl
  · exact (State.post_power _ _ _).trans (State.setEngage_power _ _)

theorem State.switchEvents_power (l : Link) (s : State) (n : Nat) : (State.switchEvents l s n).power = s.power := by
  unfold State.switchEvents
  have down (t : State) : (t.comboExpiry l n).power = t.power := by
    unfold State.comboExpiry State.enterDown
    dsimp only
    split
    · rfl
    · split
      · rfl
      · exact State.fire_power _ _ _ _
  have held (t : State) : (t.holdExpiry l n).power = t.power := State.fire_power _ _ _ _
  have second (t : State) : (t.doubleExpiry l n).power = t.power := State.fire_power _ _ _ _
  rw [State.ifDue_power _ second, State.ifDue_power _ held, State.ifDue_power _ down]

theorem State.flushLink_power (s : State) (l : Link) : (s.flushLink l).power = s.power := by
  unfold State.flushLink
  dsimp only
  rw [foldl_preserves State.power (State.switchEvents_power l), State.ifDue_power _ fun t => State.silenceEvent_power t l]

theorem State.endFrame_power (s : State) : s.endFrame.power = s.power := by
  unfold State.endFrame
  split
  · rw [State.settleFrame_only]
  · rfl

theorem State.satTimeout_power (s : State) : s.satTimeout.power = s.power := by
  unfold State.satTimeout
  split
  · rfl
  · exact (State.post_power _ _ _).trans (State.withSat_power _ _)

theorem State.flush_power (s : State) : s.flush.power = s.power := by
  unfold State.flush
  have bypass (t : State) : t.bypassEvent.power = t.power := State.withSat_power _ _
  have estimate (t : State) : t.flushEstimate.power = t.power :=
    State.ifDue_power _ fun u => State.estimate_power u _ _
  rw [State.ifDue_power _ bypass, State.ifDue_power _ State.satTimeout_power, estimate, State.flushEngine_power, State.flushLink_power,
    State.flushLink_power, State.endFrame_power]

theorem State.closeFrame_power (s : State) : s.closeFrame.power = s.power := by
  unfold State.closeFrame
  split
  · have flushed := s.flush_power
    generalize s.flush = t at flushed ⊢
    exact flushed
  · rfl

end Sys2Proof.Machine
end

section
/-! PROOFS. The end of a frame (R5, R7, R8, R20, R23). -/
namespace Sys2Proof.Machine

/-! ## The end of a frame -/

theorem setMeter_get (ms : PerOut Meter) (o p : Out) (m : Meter) :
    (setMeter ms o m).get p = if p = o then m else ms.get p := PerOut.get_of _ p

theorem State.postClip_meters (s : State) (o : Out) :
    (s.postClip o).meters = if (s.meters.get o).clipDue then setMeter s.meters o (s.meters.get o).posted else s.meters := by
  unfold State.postClip
  dsimp only
  split <;> rfl

/-- R8: the CLIP notices due together, posted one after the other, each by its own meter. -/
theorem State.foldl_postClip {w v : State} (same : w.SameNotices v) {outs : List Out} (once : outs.Nodup) :
    ((outs.filter (fun o => (v.meters.get o).clipDue)).foldl
        (fun u o => u.post (.clip o (v.meters.get o).clips)) w).SameNotices (outs.foldl State.postClip v) ∧
      ∀ p, (outs.foldl State.postClip v).meters.get p =
        if p ∈ outs ∧ (v.meters.get p).clipDue = true then (v.meters.get p).posted else v.meters.get p := by
  induction outs generalizing w v with
  | nil => exact ⟨same, fun p => (if_neg (by simp)).symm⟩
  | cons o rest ih =>
    obtain ⟨fresh, once⟩ := List.nodup_cons.mp once
    have kept (p : Out) (h : p ≠ o) : (v.postClip o).meters.get p = v.meters.get p := by
      rw [State.postClip_meters]
      split
      · rw [setMeter_get, if_neg h]
      · rfl
    have others : ∀ p ∈ rest, (v.postClip o).meters.get p = v.meters.get p :=
      fun p hp => kept p fun e => fresh (e ▸ hp)
    have filtered : rest.filter (fun p => ((v.postClip o).meters.get p).clipDue) =
        rest.filter (fun p => (v.meters.get p).clipDue) := List.filter_congr fun p hp => by rw [others p hp]
    have posts (u : State) : (rest.filter (fun p => (v.meters.get p).clipDue)).foldl
          (fun u p => u.post (.clip p ((v.postClip o).meters.get p).clips)) u =
        (rest.filter (fun p => (v.meters.get p).clipDue)).foldl (fun u p => u.post (.clip p (v.meters.get p).clips)) u :=
      List.foldl_ext _ _ _ fun u p hp => by rw [others p (List.mem_of_mem_filter hp)]
    have step (u : State) (h : u.SameNotices (v.postClip o)) := ih h once
    simp only [filtered, posts] at step
    by_cases due : (v.meters.get o).clipDue = true
    · have posted : (w.post (.clip o (v.meters.get o).clips)).SameNotices (v.postClip o) := by
        unfold State.postClip
        rw [if_pos due]
        exact same.post _ _
      obtain ⟨notices, meters⟩ := step _ posted
      refine ⟨?_, fun p => ?_⟩
      · rw [List.filter_cons_of_pos (p := fun o => (v.meters.get o).clipDue) due]
        exact notices
      · refine (meters p).trans ?_
        by_cases here : p = o
        · subst here
          rw [if_neg fun h => fresh h.1, State.postClip_meters, if_pos due, setMeter_get, if_pos rfl,
            if_pos ⟨List.mem_cons_self, due⟩]
        · rw [kept p here]
          simp only [List.mem_cons, here, false_or]
    · have unposted : v.postClip o = v := if_neg due
      obtain ⟨notices, meters⟩ := step w (by rw [unposted]; exact same)
      refine ⟨?_, fun p => ?_⟩
      · rw [List.filter_cons_of_neg (p := fun o => (v.meters.get o).clipDue) due]
        exact notices
      · refine (meters p).trans ?_
        rw [unposted]
        by_cases here : p = o
        · subst here
          rw [if_neg fun h => due h.2, if_neg fun h => due h.2]
        · simp only [List.mem_cons, here, false_or]

/-- R5: the end of a frame that has not been taken. -/
theorem State.endFrame_open {s : State} (isOpen : s.frameOpen = true) (untaken : s.frameEnded = false) :
    s.endFrame = { s.settleFrame with frameEnded := true } := by
  unfold State.endFrame
  rw [isOpen, untaken]
  rfl

theorem State.endFrame_taken {s : State} (taken : s.frameOpen = false ∨ s.frameEnded = true) : s.endFrame = s := by
  unfold State.endFrame
  rcases taken with closed | ended
  · rw [closed]; rfl
  · rw [ended, Bool.not_true, Bool.and_false]; rfl

theorem State.endFrame_endFrame (s : State) : s.endFrame.endFrame = s.endFrame := by
  by_cases taken : s.frameOpen = false ∨ s.frameEnded = true
  · rw [State.endFrame_taken taken, State.endFrame_taken taken]
  · obtain ⟨isOpen, untaken⟩ := not_or.mp taken
    refine State.endFrame_taken (.inr ?_)
    rw [State.endFrame_open (Bool.eq_true_of_not_eq_false isOpen) (Bool.eq_false_of_not_eq_true untaken)]

/-! ## Commands that are taken within a frame -/

/-- log 1: every command that neither times the frame nor resets the part is taken by `inFrame`. -/
theorem exec_of_inFrame {c : Instr} (within : timesTheFrame c = false) :
    ∃ f : State → State, ∀ s, exec c s = .next (s.inFrame f) := by
  cases c
  case frame | measureComplete | beatEvent | loadComplete | cutComplete | crossfadeComplete | spillQuietEnd |
    spillLimitReached | tunerEstimate | pedalSilenceTimeout | comboWindowExpiry | holdTimerExpiry | doubleWindowExpiry |
    satAckTimeout | satBypassTimeout | powerOnReset | resetPinRelease | initComplete => cases within
  all_goals exact ⟨_, fun _ => rfl⟩

theorem State.late_power (s : State) : s.late.power = s.power := by
  unfold State.late
  split
  · exact State.closeFrame_power s
  · rfl

theorem exec_late {s : State} (running : s.power = .running) {c : Instr} (within : timesTheFrame c = false) :
    exec c s = exec c s.late := by
  obtain ⟨f, runs⟩ := exec_of_inFrame within
  rw [runs, runs, State.inFrame_eq (s.late_power.trans running) s.late_midFrame]
  unfold State.inFrame
  rw [State.ifRunning_eq running]

/-! ## What the blocks count -/

theorem Buffer.frameEnd_eq (x : Buffer) :
    x.frameEnd =
      let context := x.context.map Context.settle
      match x.role, x.rowPeak with
      | .spill, some p =>
        { x with
          spillFrames := x.spillFrames + 1, quietCount := if p < 264 then x.quietCount + 1 else 0,
          rowPeak := none, context := context }
      | _, _ => { x with rowPeak := none, context := context } := by
  unfold Buffer.frameEnd Buffer.settle
  cases x.rowPeak <;> cases x.role <;> rfl

theorem Measurement.take_eq (m : Measurement) :
    m.take = match m.block with
      | none => m
      | some xs =>
        { m with
          taken := m.taken + xs.length, block := none,
          found := if m.found.isSome then m.found
            else (xs.findIdx? (fun x => decide (83886 ≤ x.natAbs))).map (fun n => m.taken + n) } := by
  unfold Measurement.take
  cases m.block with
  | none => rfl
  | some xs => cases m.found <;> rfl

/-- Settles O16: the end is taken once, counts by the laws of the blocks, and is done before a later command. -/
theorem frameEndOnlyCounts : Obligations.FrameEndOnlyCounts := by
  unfold Obligations.FrameEndOnlyCounts
  refine ⟨fun s => ?_, fun c s running within => ⟨exec_late running within, State.late_eq, fun isOpen ended => ?_⟩⟩
  · intro t
    refine ⟨State.endFrame_endFrame s, State.endFrame_taken, ?_⟩
    intro isOpen untaken counted due outputs
    have ends : t = { s.settleFrame with frameEnded := true } := State.endFrame_open isOpen untaken
    let v : State := { s with
      buffers := s.buffers.map Buffer.frameEnd, loops := s.loops.settle, tuner := s.tuner.collect,
      pedals := { a := s.pedals.a.settle, b := s.pedals.b.settle }, sat := s.sat.settle,
      mains := s.mains.map MuteStage.settle, meters := s.meters.map Meter.settle }
    have same : s.SameNotices v := ⟨rfl, rfl, rfl⟩
    obtain ⟨notices, meters⟩ := State.foldl_postClip same (outs := allOuts) (by decide)
    have settled (o : Out) : v.meters.get o = counted (s.meters.get o) := PerOut.get_map _ _ o
    have folded : s.settleFrame = allOuts.foldl State.postClip v := rfl
    have every (o : Out) : o ∈ allOuts := by rcases o with ⟨_ | _ | _ | _⟩ | _ | _ <;> decide
    have only := State.settleFrame_only s
    simp only [settled] at notices meters
    rw [← folded] at notices meters
    clear_value t
    subst ends
    refine ⟨fun o => ?_, notices.1, fun o => ?_, fun b => ?_, ?_, ?_, fun l => ?_, ?_, ?_⟩
    · refine (meters o).trans ?_
      exact if_congr (and_iff_right (every o)) rfl rfl
    · exact (congrArg (fun u : State => u.mains.get o) only).trans (PerMain.get_map _ _ o)
    · exact (congrArg (fun u : State => u.buffers.get b) only).trans
        ((PerBuffer.get_map _ _ b).trans (Buffer.frameEnd_eq _))
    · refine (congrArg State.loops only).trans ?_
      exact congrArg (fun f => ({ s.loops with measuring := s.loops.measuring.map f } : LoopUnit)) (funext Measurement.take_eq)
    · exact congrArg State.tuner only
    · refine (congrArg (fun u : State => u.pedals.get l) only).trans ?_
      cases l <;> rfl
    · exact congrArg State.sat only
    · rw [only]
  · unfold State.late
    rw [isOpen, ended]
    rfl

end Sys2Proof.Machine
end

section
/-! PROOFS. Codes, contexts and buffers as a frame begins (R9 to R12, R58, R59, R62, R63, R92). -/
namespace Sys2Proof.Machine

/-! ## Codes as a frame begins -/

theorem muteCode_eq (sources : MuteSet) (code : Nat) :
    muteCode sources code =
      if sources.panic then 0
      else if sources.start || sources.tuner || sources.host then code - 24
      else min 192 (code + 24) := by
  obtain ⟨start, panic, tuner, host⟩ := sources
  cases panic with
  | true => rfl
  | false =>
    unfold muteCode MuteSet.isEmpty
    dsimp only
    cases start <;> cases tuner <;> cases host <;> rfl

theorem Ramp.advance_eq (r : Ramp) :
    r.advance =
      if r.done < 4 then
        { r with code := ((r.start : Int) + ((r.target : Int) - r.start) * (r.done + 1) / 4).toNat, done := r.done + 1 }
      else r := rfl

/-- R92: the codes a role gives, the cut code written by R12. -/
theorem Buffer.takeCodes_eq (e : Engine) (x : Buffer) :
    let fading := e.state == .crossfading
    let p : Nat × Nat := match x.context with
      | none => (x.tOut.code, x.tIn.code)
      | some c =>
        match x.role, c.header.policy with
        | .active, _ => (if fading then 192 * e.fadeFrame / e.fadeLength else 192, 192)
        | .outgoing, .spill => (192, 192 - 192 * e.fadeFrame / e.fadeLength)
        | .outgoing, .cut => (192 - 192 * e.fadeFrame / e.fadeLength, 192)
        | .spill, _ => (192, 0)
        | .cutting, _ => (192 - 192 * x.cutFrames / 4, x.tIn.code)
        | _, _ => (0, 192)
    x.takeCodes e = { x with tOut := { x.tOut with code := p.1 }, tIn := { x.tIn with code := p.2 } } := by
  intro fading p
  unfold Buffer.takeCodes
  cases held : x.context with
  | none =>
    simp only [p, held]
    rw [← held]
  | some c =>
    simp only [p, held]
    unfold roleCodes
    cases x.role with
    | outgoing => cases c.header.policy <;> rfl
    | _ => rfl

/-! ## Contexts as a frame begins -/

theorem Context.start_eq (selected : Input) (c : Context) :
    c.start selected =
      if c.started then c
      else { c with started := true, fed := if c.header.inputMode = .follow then selected else c.fed } := by
  unfold Context.start Context.followAtOnce
  cases c.header.inputMode <;> rfl

theorem Context.followStep_eq (selected : Input) (c : Context) :
    c.followStep selected =
      if c.header.inputMode = .follow then
        let i := if c.follow.code = 0 then selected else c.fed
        { c with fed := i, follow := c.follow.toward (if i = selected then 192 else 0) }
      else c := by
  unfold Context.followStep
  cases c.header.inputMode <;> rfl

theorem Context.affectsX_eq (c : Context) (p : Lanes) :
    let differ (first count : Nat) : Bool := (p.latencies.drop first).take count != (c.lanes.latencies.drop first).take count
    c.affectsX p = (p.compX != c.lanes.compX || differ c.header.nPre c.header.nX ||
      (differ 0 c.header.nPre || differ (c.header.nPre + c.header.nX + c.header.nY) c.header.nPost)) := by
  exact Bool.or_assoc _ _ _

theorem Context.affectsY_eq (c : Context) (p : Lanes) :
    let differ (first count : Nat) : Bool := (p.latencies.drop first).take count != (c.lanes.latencies.drop first).take count
    c.affectsY p = (p.compY != c.lanes.compY || differ (c.header.nPre + c.header.nX) c.header.nY ||
      (differ 0 c.header.nPre || differ (c.header.nPre + c.header.nX + c.header.nY) c.header.nPost)) := by
  exact Bool.or_assoc _ _ _

/-- R62, R63: a pending change of the lanes, applied once the lanes it affects are silent. -/
def Context.settleLanes (c : Context) : Context :=
  match c.pendingLanes with
  | none => c
  | some p =>
    if (c.affectsX p = true → c.laneX.code = 0) ∧ (c.affectsY p = true → c.laneY.code = 0) then c.applyLanes p else c

theorem Context.laneStep_eq (c : Context) :
    let d := c.settleLanes
    c.laneStep = { d with
      laneX := d.laneX.toward (match d.pendingLanes with | some p => if d.affectsX p then 0 else 192 | none => 192),
      laneY := d.laneY.toward (match d.pendingLanes with | some p => if d.affectsY p then 0 else 192 | none => 192) } := by
  intro d
  have silent (affects : Bool) (code : Nat) : (!affects || code == 0) = true ↔ (affects = true → code = 0) := by
    cases affects <;> simp
  cases pending : c.pendingLanes with
  | none =>
    have kept : d = c := by simp only [d, Context.settleLanes, pending]
    unfold Context.laneStep
    rw [kept, pending]
    dsimp only
    rw [pending] <;> rfl
  | some p =>
    have ready : ((!c.affectsX p || c.laneX.code == 0) && (!c.affectsY p || c.laneY.code == 0)) = true ↔
        (c.affectsX p = true → c.laneX.code = 0) ∧ (c.affectsY p = true → c.laneY.code = 0) := by
      rw [Bool.and_eq_true, silent, silent]
    have settled : d = if (!c.affectsX p || c.laneX.code == 0) && (!c.affectsY p || c.laneY.code == 0) then
        c.applyLanes p else c := by
      simp only [d, Context.settleLanes, pending]
      exact if_congr ready.symm rfl rfl
    unfold Context.laneStep
    rw [settled, pending]
    dsimp only
    split
    · rfl
    · rw [pending]

/-! ## A buffer and the engine as a frame begins -/

theorem Buffer.tick_eq (x : Buffer) :
    x.tick = { x with
      loadLeft := if x.role = .loading then x.loadLeft - 1 else x.loadLeft,
      cutFrames := if x.role = .cutting then min 4 (x.cutFrames + 1) else x.cutFrames } := by
  obtain ⟨role, _, _, _, _, _, _, _, _⟩ := x
  cases role <;> rfl

theorem Engine.tick_eq (e : Engine) :
    e.tick = { e with
      fadeFrame := if e.state == .crossfading then min e.fadeLength (e.fadeFrame + 1) else e.fadeFrame } := by
  obtain ⟨state, _, _, _, _, _, _, _, _⟩ := e
  cases state <;> rfl

end Sys2Proof.Machine
end

section
/-! PROOFS. FRAME: codes, counts and waits (R5). -/
namespace Sys2Proof.Machine

/-! ## A frame computed -/

theorem State.computeFrame_buffer (s : State) (input : FrameInput) (b : BufferId) :
    (s.computeFrame input).buffers.get b =
      ((s.buffers.get b).afterRun ((s.buffers.get b).run (contextEnv s input))).passCodes := by
  cases b <;> rfl

theorem peakOf_eq (block : List Int) : peakOf block = (block.map Int.natAbs).foldl max 0 := List.foldl_map.symm

/-- A slot that has run one frame of some block. -/
def Slot.framed (env : SlotEnv) (old new : Slot) : Prop := ∃ block, new = (old.beginFrame.runFrame env block).1

theorem runSeries_framed (env : SlotEnv) (slots : List Slot) (block : List Int) :
    List.Forall₂ (Slot.framed env) slots (runSeries env slots block).slots := by
  induction slots generalizing block with
  | nil => exact .nil
  | cons x rest ih => exact .cons ⟨block, rfl⟩ (ih _)

/-- R53: the sections, one after the other, are the slots the header counts. -/
theorem Header.parts_eq {α : Type} (h : Header) (xs : List α) :
    h.prePart xs ++ h.xPart xs ++ h.yPart xs ++ h.postPart xs = xs.take (h.nPre + h.nX + h.nY + h.nPost) := by
  unfold Header.prePart Header.xPart Header.yPart Header.postPart
  rw [List.take_add, List.take_add, List.take_add]

theorem Context.runFrame_framed (env : ContextEnv) (tIn : Gain) (c : Context) :
    List.Forall₂ (Slot.framed env.slotEnv) (c.slots.take (c.header.nPre + c.header.nX + c.header.nY + c.header.nPost))
      (c.runFrame env tIn).context.slots := by
  rw [← Header.parts_eq]
  exact List.rel_append (List.rel_append (List.rel_append (runSeries_framed _ _ _) (runSeries_framed _ _ _))
    (runSeries_framed _ _ _)) (runSeries_framed _ _ _)

/-- R9, R27: what a frame leaves of a slot, from the slot before it. -/
theorem Slot.framed_eq {env : SlotEnv} {old new : Slot} (h : old.framed env new) :
    new.memory.gate.code = old.memory.gate.advance.code ∧
    new.memory.gate.prev = gainFactor old.memory.gate.advance.code ∧
    new = { old with
      params := old.params.map (fun p => { p with ramp := p.ramp.advance.passed }),
      wet := old.wet.advance.passed, dry := old.dry.advance.passed,
      freshClips := new.freshClips, line := new.line, memory := new.memory } := by
  obtain ⟨block, rfl⟩ := h
  obtain ⟨code, prev, rest⟩ := Slot.runFrame_frame env old.beginFrame block
  have params : old.beginFrame.params.map (fun p => { p with ramp := p.ramp.passed }) =
      old.params.map (fun p => { p with ramp := p.ramp.advance.passed }) := List.map_map
  refine ⟨code, prev, rest.trans ?_⟩
  rw [params]
  rfl

theorem Buffer.begun_eq (e : Engine) (selected : Input) (x : Buffer) :
    ((x.tick.takeCodes e).beginContext selected) =
      { x.tick.takeCodes e with context :=
        if x.role.running then x.context.map (fun c => ((c.start selected).followStep selected).laneStep)
        else x.context } := by
  obtain ⟨role, context⟩ := Buffer.takeCodes_role e x.tick
  have sameRole : (x.tick.takeCodes e).role = x.role := by rw [role, Buffer.tick_eq]
  have sameContext : (x.tick.takeCodes e).context = x.context := by rw [context, Buffer.tick_eq]
  unfold Buffer.beginContext
  rw [← sameRole, ← sameContext]
  split <;> rfl

/-- R140: the block that waits for the frame's end. -/
theorem Tuner.feed_eq (t : Tuner) (selected : Input) (input : FrameInput) :
    t.feed selected input = { t with
      block := if t.state = .off then t.block
        else some (Block.ints (match selected with | .a => input.inA | .b => input.inB)) } := by
  unfold Tuner.feed
  split
  · next off => rw [if_pos off]
  · next on => rw [if_neg on] <;> rfl

/-- Settles O14: the end of the frame before, the codes and counts of the new one, and what a computed frame leaves. -/
theorem frameMovesCodesCountsAndWaits : Obligations.FrameMovesCodesCountsAndWaits := by
  unfold Obligations.FrameMovesCodesCountsAndWaits
  intro s input running
  refine ⟨s.runFrame input, congrArg Host.Outcome.next (State.ifRunning_eq running _), ?_⟩
  intro u v ended samples link moved toward kept fading T k cut codes started fed differ both hitsX hitsY applied ramped
    began
  refine ⟨?close, fun o => ?mute, fun b => ?begins, ?prepared, fun o => ?passed, fun b => ?buffer, fun o => ?meter, ?rest⟩
  case close =>
    have flushed : s.flush = ended := rfl
    clear_value ended
    simp only [u]
    unfold State.closeFrame
    rw [flushed]
    rfl
  case mute =>
    refine (PerMain.get_map _ _ o).trans ?_
    unfold MuteStage.begin
    rw [muteCode_eq]
  case begins =>
    have moves (target : Nat) (r : Ramp) : toward target r = r.toward target := rfl
    have startsHere : started = Context.start u.selected := funext fun c => (Context.start_eq u.selected c).symm
    have follows : fed = Context.followStep u.selected := funext fun c => (Context.followStep_eq u.selected c).symm
    have affectsX : hitsX = Context.affectsX := funext fun c => funext fun p => (Context.affectsX_eq c p).symm
    have affectsY : hitsY = Context.affectsY := funext fun c => funext fun p => (Context.affectsY_eq c p).symm
    have settles : applied = Context.settleLanes := by
      simp only [applied, affectsX, affectsY] <;> rfl
    have steps (c : Context) : ramped (c.settleLanes) = c.laneStep := by
      rw [Context.laneStep_eq]
      simp only [ramped, affectsX, affectsY, moves] <;> rfl
    have code := Buffer.takeCodes_eq u.engine.tick (u.buffers.get b).tick
    rw [Engine.tick_eq, Buffer.tick_eq] at code
    refine (PerBuffer.get_map _ _ b).trans ((Buffer.begun_eq _ _ _).trans ?_)
    rw [Engine.tick_eq, Buffer.tick_eq, code]
    simp only [began, settles, follows, startsHere, steps]
    rfl
  case prepared =>
    simp only [v]
    unfold State.prepareFrame
    rw [Engine.tick_eq]
    rfl
  case passed => exact PerMain.get_map _ _ o
  case buffer =>
    intro x y
    have ran : y = (x.afterRun (x.run (contextEnv v input))).passCodes := State.computeFrame_buffer v input b
    clear_value y
    subst ran
    refine ⟨?same, fun idle => ?idle, fun runs c held => ?runs⟩
    case same => cases x.run (contextEnv v input) <;> rfl
    case idle =>
      have unrun : x.run (contextEnv v input) = none := by
        unfold Buffer.run
        rcases idle with rest | empty
        · exact if_neg (by rw [rest]; exact Bool.false_ne_true)
        · rw [empty]
          exact ite_self _
      rw [unrun]
      exact ⟨rfl, rfl⟩
    case runs =>
      have run : x.run (contextEnv v input) = some (c.runFrame (contextEnv v input) x.tIn) := by
        unfold Buffer.run
        rw [if_pos runs, held]
        rfl
      rw [run]
      have framed := c.runFrame_framed (contextEnv v input) x.tIn
      refine ⟨?peak, _, rfl, rfl, ?count, fun n new found => ?slot⟩
      case peak =>
        unfold Buffer.afterRun Buffer.passCodes
        dsimp only
        split
        · next spill => exact ⟨fun _ => spill, fun _ => rfl⟩
        · next other => exact ⟨nofun, fun spill => absurd spill other⟩
      case count =>
        rw [← framed.length_eq, List.length_take, Nat.min_comm]
      case slot =>
        obtain ⟨low, rfl⟩ := List.getElem?_eq_some_iff.mp found
        have below := low.trans_eq framed.length_eq.symm
        rw [List.length_take] at below
        refine ⟨c.slots[n], List.getElem?_eq_getElem (by omega), ?_⟩
        have pair := framed.get (low.trans_eq framed.length_eq.symm) low
        simp only [List.get_eq_getElem, List.getElem_take] at pair
        exact Slot.framed_eq pair
  case meter =>
    have metered : (s.runFrame input).meters.get o =
        (u.meters.get o).frame (outputBlock v (v.buffers.map (Buffer.run (contextEnv v input))) o) := PerOut.get_of _ o
    rw [metered]
    unfold Meter.frame
    rw [peakOf_eq]
  case rest =>
    have tuner := Tuner.feed_eq u.tuner u.selected input
    exact (congrArg (fun x => ({ s.runFrame input with tuner := x } : State)) tuner :)

end Sys2Proof.Machine
end

section
/-! PROOFS. Blocks, series and the runs of a frame (R6, R9, R17, R18, R39, R53). -/
namespace Sys2Proof.Machine

/-! ## Clamps and sums of blocks -/

theorem clampSample_eq (v : Int) : clampSample v = max (-8388608) (min 8388607 v) := by
  unfold clampSample
  split_ifs <;> omega

theorem clampBlock_eq (xs : List Int) : clampBlock xs = xs.map (fun x => max (-8388608) (min 8388607 x)) :=
  List.map_congr_left fun x _ => clampSample_eq x

theorem clipsOf_eq (xs : List Int) :
    clipsOf xs = xs.countP (fun x => decide (max (-8388608) (min 8388607 x) ≠ x)) := by
  have folded (n : Nat) : xs.foldl (fun n v => n + clipOf v) n =
      n + xs.countP (fun x => decide (max (-8388608) (min 8388607 x) ≠ x)) := by
    induction xs generalizing n with
    | nil => rfl
    | cons x rest ih =>
      rw [List.foldl_cons, ih, List.countP_cons, clipOf, clampSample_eq]
      by_cases same : max (-8388608) (min 8388607 x) = x
      · simp [same]
      · simp [same, Nat.add_assoc, Nat.add_comm]
  exact (folded 0).trans (Nat.zero_add _)

theorem addBlocks_nil (xs : List Int) : addBlocks xs [] = xs := by
  cases xs <;> rfl

theorem addBlocks_assoc (xs ys zs : List Int) : addBlocks (addBlocks xs ys) zs = addBlocks xs (addBlocks ys zs) := by
  induction xs generalizing ys zs with
  | nil => rfl
  | cons x xs ih =>
    cases ys with
    | nil => rfl
    | cons y ys =>
      cases zs with
      | nil => rfl
      | cons z zs => simp [addBlocks, ih, Int.add_assoc]

theorem addBlocks_length {xs ys : List Int} (h : xs.length = ys.length) : (addBlocks xs ys).length = xs.length := by
  rw [addBlocks_zip h, List.length_zipWith, h, Nat.min_self]

/-- R9: a block under a code that moves through the frame. -/
theorem levelBlock_moving (code : Nat) (prev : Int) (xs : List Int) :
    levelBlock (sampleFactor prev (gainFactor code)) xs =
      xs.zipIdx.map (fun q => (q.1 * (prev + (gainFactor code - prev) * ((q.2 : Int) + 1) / 32) + 524288) / 1048576) := rfl

theorem foldl_max_eq (xs : List Nat) (a : Nat) : xs.foldl max a = max a (xs.foldl max 0) := by
  induction xs generalizing a with
  | nil => exact (Nat.max_zero a).symm
  | cons x rest ih => rw [List.foldl_cons, List.foldl_cons, ih, ih (max 0 x), Nat.zero_max, Nat.max_assoc]

/-- R115: the largest magnitude of several blocks together. -/
theorem foldl_max_flatMap {α : Type} (f : α → List Nat) (as : List α) :
    (as.flatMap f).foldl max 0 = (as.map (fun a => (f a).foldl max 0)).foldl max 0 := by
  induction as with
  | nil => rfl
  | cons a rest ih =>
    rw [List.flatMap_cons, List.foldl_append, foldl_max_eq, ih, List.map_cons, List.foldl_cons, foldl_max_eq _ (max 0 _),
      Nat.zero_max]

/-! ## Slots in series -/

theorem runSeries_out_length (env : SlotEnv) (slots : List Slot) (block : List Int) :
    (runSeries env slots block).out.length = block.length := by
  rw [runSeries_out, series_length]

/-- R53: the slots after a series, gathered as the block goes through. -/
theorem runSeries_slots (env : SlotEnv) (slots : List Slot) (block : List Int) :
    (runSeries env slots block).slots =
      (slots.foldl (fun q y => (q.1 ++ [(y.beginFrame.runFrame env q.2).1], (y.beginFrame.runFrame env q.2).2))
        (([] : List Slot), block)).1 := by
  have gathered (done : List Slot) : (slots.foldl
      (fun q y => (q.1 ++ [(y.beginFrame.runFrame env q.2).1], (y.beginFrame.runFrame env q.2).2)) (done, block)).1 =
      done ++ (runSeries env slots block).slots := by
    induction slots generalizing done block with
    | nil => exact (List.append_nil _).symm
    | cons x rest ih => rw [List.foldl_cons, ih, List.append_assoc]; rfl
  exact (gathered []).symm

/-- R18: the send of a loop. -/
def SeriesRun.send (r : SeriesRun) : LoopId → List Int
  | .one => r.send1
  | .two => r.send2

def ContextRun.send (r : ContextRun) : LoopId → List Int
  | .one => r.send1
  | .two => r.send2

theorem Slot.loop_iff (y : Slot) (l : LoopId) :
    y.loop = some l ↔ y.kind = .loop ∧ (y.value 0 = 1 ↔ l = .one) := by
  unfold Slot.loop
  cases kind : y.kind <;> cases l <;> simp

theorem Slot.beginFrame_value (y : Slot) (n : Nat) : y.beginFrame.value n = y.value n := by
  unfold Slot.value Slot.beginFrame
  dsimp only
  rw [List.map_map]
  rfl

theorem Slot.beginFrame_loop (y : Slot) : y.beginFrame.loop = y.loop := by
  unfold Slot.loop
  rw [Slot.beginFrame_value]
  rfl

theorem runSeries_send_cons (env : SlotEnv) (l : LoopId) (y : Slot) (rest : List Slot) (block : List Int) :
    (runSeries env (y :: rest) block).send l =
      addBlocks (y.beginFrame.sendTerms l block) ((runSeries env rest (y.beginFrame.runFrame env block).2).send l) := by
  cases l <;> rfl

/-- R39: a sum of sends with the term of a slot added. -/
theorem Slot.sendTerms_add (y : Slot) (l : LoopId) {a block : List Int} (same : a.length = block.length) :
    addBlocks a (y.beginFrame.sendTerms l block) =
      if y.kind = .loop ∧ (y.value 0 = 1 ↔ l = .one) then
        List.zipWith (fun x y => x + y) a
          (levelBlock (sampleFactor (y.beginFrame.ramp 1).prev (gainFactor (y.beginFrame.ramp 1).code)) block)
      else a := by
  unfold Slot.sendTerms
  rw [Slot.beginFrame_loop]
  by_cases named : y.loop = some l
  · rw [if_pos named, if_pos ((Slot.loop_iff y l).mp named)]
    exact addBlocks_zip (same.trans (levelBlock_length _ _).symm)
  · rw [if_neg named, if_neg fun h => named ((Slot.loop_iff y l).mpr h), addBlocks_nil]

/-- R18, R39: a sum of sends with those of a series added, slot by slot. -/
theorem runSeries_send (env : SlotEnv) (l : LoopId) (slots : List Slot) {a block : List Int} (same : a.length = block.length) :
    let total := (slots.foldl (fun (q : List Int × List Int) y =>
      (if y.kind = .loop ∧ (y.value 0 = 1 ↔ l = .one) then
        List.zipWith (fun x y => x + y) q.1
          (levelBlock (sampleFactor (y.beginFrame.ramp 1).prev (gainFactor (y.beginFrame.ramp 1).code)) q.2)
       else q.1, (y.beginFrame.runFrame env q.2).2)) (a, block)).1
    total = addBlocks a ((runSeries env slots block).send l) ∧ total.length = a.length := by
  induction slots generalizing a block with
  | nil => exact ⟨(by cases l <;> exact (addBlocks_nil a).symm), rfl⟩
  | cons y rest ih =>
    have term := Slot.sendTerms_add y l same
    have length : (addBlocks a (y.beginFrame.sendTerms l block)).length = a.length := by
      unfold Slot.sendTerms
      split
      · exact addBlocks_length (same.trans (levelBlock_length _ _).symm)
      · rw [addBlocks_nil]
    obtain ⟨sum, kept⟩ := ih (length.trans (same.trans (Slot.runFrame_length env y.beginFrame block).symm))
    rw [List.foldl_cons, ← term, runSeries_send_cons, ← addBlocks_assoc]
    exact ⟨sum, kept.trans length⟩

/-! ## The runs of the frame -/

/-- R92: the buffers in a running role, in order, with their contexts. -/
def runningOf (buffers : PerBuffer Buffer) : List (Buffer × Context) :=
  bufferIds.filterMap (fun b =>
    let x := buffers.get b
    if x.role.running then x.context.map (fun c => (x, c)) else none)

theorem Buffer.run_eq (env : ContextEnv) (x : Buffer) :
    x.run env = (if x.role.running then x.context.map (fun c => (x, c)) else none).map
      (fun q => q.2.runFrame env q.1.tIn) := by
  unfold Buffer.run
  split
  · rw [Option.map_map]; rfl
  · rfl

/-- R17, R18: what is gathered over the runs of a frame, over the running contexts. -/
theorem foldl_runs {α : Type} (buffers : PerBuffer Buffer) (env : ContextEnv) (g : α → Buffer → ContextRun → α) (init : α) :
    bufferIds.foldl (fun a b => ((buffers.get b).run env).elim a (g a (buffers.get b))) init =
      (runningOf buffers).foldl (fun a q => g a q.1 (q.2.runFrame env q.1.tIn)) init := by
  unfold runningOf
  rw [List.foldl_filterMap]
  refine List.foldl_ext _ _ _ fun a b _ => ?_
  rw [Buffer.run_eq]
  by_cases runs : (buffers.get b).role.running = true
  · rw [if_pos runs]
    cases (buffers.get b).context <;> rfl
  · rw [if_neg runs]
    rfl

end Sys2Proof.Machine
end

section
/-! PROOFS. A context's frame, the mixer and the sends (R17, R18, R53 to R56, R61). -/
namespace Sys2Proof.Machine

/-! ## A context's frame, section by section -/

/-- R53: the pre section's run. -/
def Context.preRun (env : ContextEnv) (tIn : Gain) (c : Context) : SeriesRun :=
  runSeries env.slotEnv (c.header.prePart c.slots) (c.inputBlock env tIn)

def Context.xRun (env : ContextEnv) (tIn : Gain) (c : Context) : SeriesRun :=
  runSeries env.slotEnv (c.header.xPart c.slots) (c.preRun env tIn).out

def Context.yRun (env : ContextEnv) (tIn : Gain) (c : Context) : SeriesRun :=
  runSeries env.slotEnv (c.header.yPart c.slots) (c.preRun env tIn).out

/-- R55: the sums of the merge. -/
def Context.mergeSums (env : ContextEnv) (tIn : Gain) (c : Context) : List Int :=
  addBlocks (scaleBlock c.header.gX (levelBlock c.laneX.factor (delayBlock c.lineX (c.xRun env tIn).out).2))
    (scaleBlock c.header.gY (levelBlock c.laneY.factor (delayBlock c.lineY (c.yRun env tIn).out).2))

def Context.postRun (env : ContextEnv) (tIn : Gain) (c : Context) : SeriesRun :=
  runSeries env.slotEnv (c.header.postPart c.slots) (clampBlock (c.mergeSums env tIn))

/-- R56: the sums of a row of the output matrix. -/
def Context.outputSums (env : ContextEnv) (tIn : Gain) (c : Context) (o : MainOut) : List Int :=
  rowSums (c.header.outputMatrix.get o) (c.postRun env tIn).out (c.inputBlock env tIn)
    (levelBlock tIn.factor env.aux)

theorem Context.runFrame_row (env : ContextEnv) (tIn : Gain) (c : Context) (o : MainOut) :
    (c.runFrame env tIn).rows.get o = clampBlock (c.outputSums env tIn o) ∧
      (c.runFrame env tIn).rowClips.get o = clipsOf (c.outputSums env tIn o) := by
  cases o <;> exact ⟨rfl, rfl⟩

theorem Context.runFrame_send (env : ContextEnv) (tIn : Gain) (c : Context) (l : LoopId) :
    (c.runFrame env tIn).send l = addBlocks ((c.preRun env tIn).send l) (addBlocks ((c.xRun env tIn).send l)
      (addBlocks ((c.yRun env tIn).send l) ((c.postRun env tIn).send l))) := by
  cases l <;> rfl

theorem Context.runFrame_context (env : ContextEnv) (tIn : Gain) (c : Context) :
    (c.runFrame env tIn).context = { c with
      slots := (c.preRun env tIn).slots ++ (c.xRun env tIn).slots ++ (c.yRun env tIn).slots ++ (c.postRun env tIn).slots,
      lineX := (delayBlock c.lineX (c.xRun env tIn).out).1, lineY := (delayBlock c.lineY (c.yRun env tIn).out).1,
      freshMergeClips := clipsOf (c.mergeSums env tIn),
      follow := c.follow.passed, laneX := c.laneX.passed, laneY := c.laneY.passed } := rfl

/-! ### Blocks of one length -/

theorem scaleBlock_length (code : Nat) (xs : List Int) : (scaleBlock code xs).length = xs.length := List.length_map _

theorem clampBlock_length (xs : List Int) : (clampBlock xs).length = xs.length := List.length_map _

theorem delayBlock_length (line block : List Int) : (delayBlock line block).2.length = block.length := by
  rw [delayBlock_eq, List.length_take, List.length_append]
  omega

/-- A frame's inputs are blocks of 32 samples. -/
structure ContextEnv.ofFrame (env : ContextEnv) : Prop where
  inA : env.inA.length = 32
  inB : env.inB.length = 32
  aux : env.aux.length = 32

theorem Block.ints_length (b : Block) : (Block.ints b).length = 32 := by
  unfold Block.ints
  rw [List.length_map, Vector.length_toList]

theorem contextEnv_ofFrame (s : State) (input : FrameInput) : (contextEnv s input).ofFrame :=
  ⟨Block.ints_length _, Block.ints_length _, Block.ints_length _⟩

section
variable {env : ContextEnv} (frame : env.ofFrame) (tIn : Gain) (c : Context)
include frame

theorem Context.inputBlock_length : (c.inputBlock env tIn).length = 32 := by
  unfold Context.inputBlock
  rw [levelBlock_length, scaleBlock_length, levelBlock_length]
  cases c.fed
  · exact frame.inA
  · exact frame.inB

theorem Context.preRun_length : (c.preRun env tIn).out.length = 32 :=
  (runSeries_out_length _ _ _).trans (Context.inputBlock_length frame tIn c)

theorem Context.xRun_length : (c.xRun env tIn).out.length = 32 :=
  (runSeries_out_length _ _ _).trans (Context.preRun_length frame tIn c)

theorem Context.yRun_length : (c.yRun env tIn).out.length = 32 :=
  (runSeries_out_length _ _ _).trans (Context.preRun_length frame tIn c)

/-- R55, R61: the merge, each lane out of its line. -/
theorem Context.mergeSums_eq :
    c.mergeSums env tIn = List.zipWith (fun x y => x + y)
      (scaleBlock c.header.gX (levelBlock c.laneX.factor ((c.lineX ++ (c.xRun env tIn).out).take 32)))
      (scaleBlock c.header.gY (levelBlock c.laneY.factor ((c.lineY ++ (c.yRun env tIn).out).take 32))) := by
  unfold Context.mergeSums
  rw [addBlocks_zip, delayBlock_eq, delayBlock_eq, Context.xRun_length frame, Context.yRun_length frame]
  rw [scaleBlock_length, scaleBlock_length, levelBlock_length, levelBlock_length, delayBlock_length, delayBlock_length,
    Context.xRun_length frame, Context.yRun_length frame]

theorem Context.mergeSums_length : (c.mergeSums env tIn).length = 32 := by
  unfold Context.mergeSums
  rw [addBlocks_length] <;>
    simp only [scaleBlock_length, levelBlock_length, delayBlock_length, Context.xRun_length frame, Context.yRun_length frame]

/-- R61: the lines as the frame leaves them. -/
theorem Context.runFrame_lines :
    (c.runFrame env tIn).context.lineX = (c.lineX ++ (c.xRun env tIn).out).drop 32 ∧
      (c.runFrame env tIn).context.lineY = (c.lineY ++ (c.yRun env tIn).out).drop 32 := by
  rw [Context.runFrame_context]
  dsimp only
  rw [delayBlock_eq, delayBlock_eq, Context.xRun_length frame, Context.yRun_length frame]
  exact ⟨rfl, rfl⟩

theorem Context.postRun_length : (c.postRun env tIn).out.length = 32 :=
  (runSeries_out_length _ _ _).trans ((clampBlock_length _).trans (Context.mergeSums_length frame tIn c))

/-- R56: a row, its three terms sample by sample. -/
theorem Context.outputSums_eq (o : MainOut) :
    c.outputSums env tIn o = List.zipWith (fun x y => x + y) (scaleBlock (c.header.outputMatrix.get o).main (c.postRun env tIn).out)
      (List.zipWith (fun x y => x + y) (scaleBlock (c.header.outputMatrix.get o).dry (c.inputBlock env tIn))
        (scaleBlock (c.header.outputMatrix.get o).aux (levelBlock tIn.factor env.aux))) ∧
    (c.outputSums env tIn o).length = 32 := by
  have inner : (scaleBlock (c.header.outputMatrix.get o).dry (c.inputBlock env tIn)).length =
      (scaleBlock (c.header.outputMatrix.get o).aux (levelBlock tIn.factor env.aux)).length := by
    rw [scaleBlock_length, scaleBlock_length, levelBlock_length, Context.inputBlock_length frame, frame.aux]
  have outer : (scaleBlock (c.header.outputMatrix.get o).main (c.postRun env tIn).out).length =
      (addBlocks (scaleBlock (c.header.outputMatrix.get o).dry (c.inputBlock env tIn))
        (scaleBlock (c.header.outputMatrix.get o).aux (levelBlock tIn.factor env.aux))).length := by
    rw [addBlocks_length inner, scaleBlock_length, scaleBlock_length, Context.postRun_length frame,
      Context.inputBlock_length frame]
  unfold Context.outputSums rowSums
  refine ⟨?_, ?_⟩
  · rw [addBlocks_zip outer, addBlocks_zip inner]
  · rw [addBlocks_length outer, scaleBlock_length, Context.postRun_length frame]

end

/-! ## The mixer and the sends over the running contexts -/

/-- A sum over blocks of one length, in two forms that agree block by block. -/
theorem foldl_blocks {α : Type} {n : Nat} {g h : List Int → α → List Int}
    (same : ∀ s a, s.length = n → g s a = h s a ∧ (g s a).length = n) (as : List α) {init : List Int} (start : init.length = n) :
    as.foldl g init = as.foldl h init := by
  induction as generalizing init with
  | nil => rfl
  | cons a rest ih =>
    obtain ⟨step, length⟩ := same init a start
    rw [List.foldl_cons, List.foldl_cons, ← step]
    exact ih length

theorem silence_length : silence.length = 32 := List.length_replicate

/-- R17: the transition mixer's sums. -/
theorem mixerSums_eq (buffers : PerBuffer Buffer) {env : ContextEnv} (frame : env.ofFrame) (o : MainOut) :
    mixerSums buffers (buffers.map (Buffer.run env)) o =
      (runningOf buffers).foldl (fun a q => List.zipWith (fun x y => x + y) a
        (levelBlock q.1.tOut.factor (clampBlock (q.2.outputSums env q.1.tIn o)))) silence := by
  have gathered := foldl_runs buffers env (fun a x r => addBlocks a (levelBlock x.tOut.factor (r.rows.get o))) silence
  have mixed : mixerSums buffers (buffers.map (Buffer.run env)) o = bufferIds.foldl (fun a b =>
      ((buffers.get b).run env).elim a (fun r => addBlocks a (levelBlock (buffers.get b).tOut.factor (r.rows.get o)))) silence := by
    unfold mixerSums
    refine List.foldl_ext _ _ _ fun a b _ => ?_
    rw [PerBuffer.get_map]
    cases (buffers.get b).run env <;> rfl
  rw [mixed, gathered]
  refine foldl_blocks (n := 32) (fun a q length => ?_) _ silence_length
  have row : a.length = (levelBlock q.1.tOut.factor ((q.2.runFrame env q.1.tIn).rows.get o)).length := by
    rw [levelBlock_length, (q.2.runFrame_row env q.1.tIn o).1, clampBlock_length,
      (Context.outputSums_eq frame q.1.tIn q.2 o).2, length]
  refine ⟨?_, (addBlocks_length row).trans length⟩
  rw [addBlocks_zip row, (q.2.runFrame_row env q.1.tIn o).1]

/-- R18: the sums of a send, in what the contexts' runs send. -/
theorem sendSums_eq (buffers : PerBuffer Buffer) (env : ContextEnv) (l : LoopId) :
    sendSums (buffers.map (Buffer.run env)) l =
      (runningOf buffers).foldl (fun a q => addBlocks a ((q.2.runFrame env q.1.tIn).send l)) silence := by
  refine Eq.trans ?_ (foldl_runs buffers env (fun a _ r => addBlocks a (r.send l)) silence)
  unfold sendSums
  change List.foldl _ silence (bufferIds.map (fun b => (buffers.get b).run env)) = _
  rw [List.foldl_map]
  refine List.foldl_ext _ _ _ fun a b _ => ?_
  cases (buffers.get b).run env with
  | none => rfl
  | some r => cases l <;> rfl

/-- R56: the clips of the rows. -/
theorem rowClipsOf_eq (buffers : PerBuffer Buffer) (env : ContextEnv) (o : MainOut) :
    rowClipsOf (buffers.map (Buffer.run env)) o =
      ((runningOf buffers).map (fun q => clipsOf (q.2.outputSums env q.1.tIn o))).sum := by
  have gathered := foldl_runs buffers env (fun a _ r => a + r.rowClips.get o) 0
  have clips (bs : List BufferId) (n : Nat) : bs.foldl (fun a b => ((buffers.get b).run env).elim a (fun r => a + r.rowClips.get o)) n =
      n + (bs.map (fun b => match (buffers.get b).run env with | none => 0 | some r => r.rowClips.get o)).sum := by
    induction bs generalizing n with
    | nil => rfl
    | cons b rest ih =>
      rw [List.foldl_cons, ih, List.map_cons, List.sum_cons, ← Nat.add_assoc]
      cases (buffers.get b).run env <;> rfl
  have rows (qs : List (Buffer × Context)) (n : Nat) :
      qs.foldl (fun a q => a + (q.2.runFrame env q.1.tIn).rowClips.get o) n =
        n + (qs.map (fun q => clipsOf (q.2.outputSums env q.1.tIn o))).sum := by
    induction qs generalizing n with
    | nil => rfl
    | cons q rest ih =>
      rw [List.foldl_cons, ih, List.map_cons, List.sum_cons, ← Nat.add_assoc, (q.2.runFrame_row env q.1.tIn o).2]
  rw [clips, rows, Nat.zero_add, Nat.zero_add] at gathered
  exact gathered

end Sys2Proof.Machine
end

section
/-! PROOFS. The sound of a frame. -/
namespace Sys2Proof.Machine

/-- R6, R66: what an output carries lies in the sample range. -/
theorem outputBlock_range (s : State) (runs : PerBuffer (Option ContextRun)) (o : Out) {y : Int}
    (h : y ∈ (outputBlock s runs o).1) : -8388608 ≤ y ∧ y ≤ 8388607 := by
  have sends (l : LoopId) (h : y ∈ (sendBlock s.loops runs l).1) : -8388608 ≤ y ∧ y ≤ 8388607 := by
    have quiet (h : y ∈ silence) : -8388608 ≤ y ∧ y ≤ 8388607 := by
      rw [List.eq_of_mem_replicate h]
      decide
    have marker (taken : Nat) (h : y ∈ markerBlock taken) : -8388608 ≤ y ∧ y ≤ 8388607 := by
      unfold markerBlock at h
      split at h
      · rcases List.mem_append.mp h with h | h
        · rw [List.eq_of_mem_replicate h]
          decide
        · rw [List.eq_of_mem_replicate h]
          decide
      · exact quiet h
    unfold sendBlock at h
    split at h
    · split at h
      · exact marker _ h
      · exact clampBlock_range h
    · exact clampBlock_range h
  cases o with
  | main m => exact clampBlock_range h
  | send1 => exact sends .one h
  | send2 => exact sends .two h

/-- R20: a main output whose mute code was and is 0 carries only zeros. -/
theorem MuteStage.sums_silent {m : MuteStage} (code : m.gain.code = 0) (prev : m.gain.prev = 0) {xs : List Int} {y : Int}
    (h : y ∈ clampBlock (m.sums xs)) : y = 0 := by
  obtain ⟨x, hx, rfl⟩ := List.mem_map.mp h
  obtain ⟨q, -, rfl⟩ := List.mem_map.mp hx
  have quiet : m.gain.factor q.2 = 0 := by
    unfold Gain.factor sampleFactor
    rw [code, prev, gainFactor_zero]
    simp
  rw [quiet, level_zero_factor]
  rfl

/-- R115: the largest magnitude of a run's rows. -/
theorem ContextRun.rowPeak_eq (r : ContextRun) :
    r.rowPeak = ([MainOut.fohL, MainOut.fohR, MainOut.stage, MainOut.mon].flatMap
      (fun o => (r.rows.get o).map Int.natAbs)).foldl max 0 := by
  rw [foldl_max_flatMap]
  unfold ContextRun.rowPeak
  change [peakOf _, peakOf _, peakOf _, peakOf _].foldl max 0 = _
  rw [peakOf_eq, peakOf_eq, peakOf_eq, peakOf_eq]
  rfl

/-- R66: the marker. -/
theorem markerBlock_eq (taken : Nat) :
    markerBlock taken =
      if taken = 0 then [4194304, 4194304, 4194304, 4194304] ++ List.replicate 28 0 else List.replicate 32 0 := rfl

/-- Settles O15: the range, the silence, and the frame section by section. -/
theorem outputsStayInRangeAndMutedOutputsAreSilent : Obligations.OutputsStayInRangeAndMutedOutputsAreSilent := by
  unfold Obligations.OutputsStayInRangeAndMutedOutputsAreSilent
  intro s input running
  have metered (o : Out) : (s.runFrame input).meters.get o = (s.closeFrame.prepareFrame.meters.get o).frame
      (outputBlock s.closeFrame.prepareFrame (s.closeFrame.prepareFrame.buffers.map
        (Buffer.run (contextEnv s.closeFrame.prepareFrame input))) o) := PerOut.get_of _ o
  refine ⟨s.runFrame input, congrArg Host.Outcome.next (State.ifRunning_eq running _), fun o x hx => ?range,
    fun o still quiet x hx => ?silent, ?_⟩
  case range =>
    rw [metered] at hx
    exact outputBlock_range _ _ _ hx
  case silent =>
    rw [metered] at hx
    have passed : (s.runFrame input).mains.get o = (s.closeFrame.prepareFrame.mains.get o).passed := PerMain.get_map _ _ o
    have begun : s.closeFrame.prepareFrame.mains.get o = (s.closeFrame.mains.get o).begin := PerMain.get_map _ _ o
    rw [passed] at quiet
    refine MuteStage.sums_silent (m := s.closeFrame.prepareFrame.mains.get o) quiet ?_ hx
    rw [begun]
    exact congrArg Gain.prev still
  intro v samples zeros clamp clips R fixed moving sum measured env run series after sends part slotsPre slotsX slotsY
    slotsPost dry aux pre laneX laneY merge merged row running mixed muted sent carries
  let e : ContextEnv := contextEnv v input
  have frame : e.ofFrame := contextEnv_ofFrame v input
  have preEq (x : Buffer) (c : Context) : pre x c = (c.preRun e x.tIn).out := (runSeries_out _ _ _).symm
  have xEq (x : Buffer) (c : Context) : series (slotsX c) (pre x c) = (c.xRun e x.tIn).out := by
    rw [preEq]
    exact (runSeries_out _ _ _).symm
  have yEq (x : Buffer) (c : Context) : series (slotsY c) (pre x c) = (c.yRun e x.tIn).out := by
    rw [preEq]
    exact (runSeries_out _ _ _).symm
  have mergeEq (x : Buffer) (c : Context) : merge x c = c.mergeSums e x.tIn := by
    rw [Context.mergeSums_eq frame]
    simp only [merge, laneX, laneY, xEq, yEq]
    rfl
  have clamps (xs : List Int) : xs.map clamp = clampBlock xs := (clampBlock_eq xs).symm
  have counts : clips = clipsOf := funext fun xs => (clipsOf_eq xs).symm
  have postEq (x : Buffer) (c : Context) : series (slotsPost c) (merged x c) = (c.postRun e x.tIn).out := by
    simp only [merged, clamps, mergeEq]
    exact (runSeries_out _ _ _).symm
  have rowEq (x : Buffer) (c : Context) (o : MainOut) : row x c o = c.outputSums e x.tIn o := by
    rw [(Context.outputSums_eq frame x.tIn c o).1]
    simp only [row, postEq]
    rfl
  have mixedEq (o : MainOut) : mixed o = mixerSums v.buffers (v.buffers.map (Buffer.run e)) o := by
    rw [mixerSums_eq v.buffers frame o]
    simp only [mixed, rowEq, clamps]
    rfl
  have sentEq (l : LoopId) : sent l = sendSums (v.buffers.map (Buffer.run e)) l := by
    rw [sendSums_eq]
    refine (foldl_blocks (n := 32) (fun a q length => ?_) _ silence_length).symm
    obtain ⟨x, c⟩ := q
    have adds (a : List Int) (slots : List Slot) (xs : List Int) (same : a.length = 32) (block : xs.length = 32) :
        sends l a slots xs = addBlocks a ((runSeries e.slotEnv slots xs).send l) ∧ (sends l a slots xs).length = 32 := by
      obtain ⟨total, kept⟩ := runSeries_send e.slotEnv l slots (same.trans block.symm)
      exact ⟨total, kept.trans same⟩
    have preLength := Context.preRun_length frame x.tIn c
    obtain ⟨first, n1⟩ := adds a (slotsPre c) (dry x c) length (Context.inputBlock_length frame x.tIn c)
    obtain ⟨second, n2⟩ := adds _ (slotsX c) (c.preRun e x.tIn).out n1 preLength
    obtain ⟨third, n3⟩ := adds _ (slotsY c) (c.preRun e x.tIn).out n2 preLength
    obtain ⟨fourth, n4⟩ := adds _ (slotsPost c) (clampBlock (c.mergeSums e x.tIn)) n3
      ((clampBlock_length _).trans (Context.mergeSums_length frame x.tIn c))
    have whole : addBlocks a ((c.runFrame e x.tIn).send l) =
        sends l (sends l (sends l (sends l a (slotsPre c) (dry x c)) (slotsX c) (c.preRun e x.tIn).out) (slotsY c)
          (c.preRun e x.tIn).out) (slotsPost c) (clampBlock (c.mergeSums e x.tIn)) := by
      rw [fourth, third, second, first, Context.runFrame_send, addBlocks_assoc, addBlocks_assoc, addBlocks_assoc]
      rfl
    refine ⟨whole.trans ?_, (congrArg List.length whole).trans n4⟩
    dsimp only
    rw [preEq, show merged x c = clampBlock (c.mergeSums e x.tIn) by simp only [merged, clamps, mergeEq]]
  have carried (l : LoopId) (m : Meter) (h : m.carried = (sendBlock v.loops (v.buffers.map (Buffer.run e)) l).1)
      (k : m.freshClips = (sendBlock v.loops (v.buffers.map (Buffer.run e)) l).2) : carries m l := by
    simp only [carries, measured, sentEq, clamps, counts]
    unfold sendBlock at h k
    cases measuring : v.loops.measuring with
    | none =>
      rw [measuring] at h k
      exact ⟨k, h⟩
    | some r =>
      rw [measuring] at h k
      by_cases here : r.loop = l
      · refine (if_pos (beq_iff_eq.mpr here)).mpr ⟨k.trans (by dsimp only; rw [if_pos here]), h.trans ?_⟩
        dsimp only
        rw [if_pos here, markerBlock_eq]
        exact if_congr Option.some_inj.symm rfl rfl
      · refine (if_neg fun h => here (beq_iff_eq.mp h)).mpr ⟨k.trans (by dsimp only; rw [if_neg here]), h.trans ?_⟩
        dsimp only
        rw [if_neg here]
  refine ⟨fun o => ?mains, carried .one _ (by rw [metered]; rfl) (by rw [metered]; rfl),
    carried .two _ (by rw [metered]; rfl) (by rw [metered]; rfl), fun b c runs held => ?context⟩
  case mains =>
    rw [metered]
    simp only [muted, mixedEq, clamps, counts, rowEq]
    refine ⟨rfl, ?_⟩
    exact congrArg (fun n => n + clipsOf (mixerSums v.buffers (v.buffers.map (Buffer.run e)) o) +
      clipsOf ((v.mains.get o).sums (clampBlock (mixerSums v.buffers (v.buffers.map (Buffer.run e)) o))))
      (rowClipsOf_eq v.buffers e o)
  case context =>
    intro x
    have ran : (s.runFrame input).buffers.get b = (x.afterRun (x.run e)).passCodes := State.computeFrame_buffer v input b
    have run' : x.run e = some (c.runFrame e x.tIn) := by
      unfold Buffer.run
      rw [if_pos runs, held]
      rfl
    rw [ran, run']
    have afterEq (slots : List Slot) (xs : List Int) : after slots xs = (runSeries e.slotEnv slots xs).slots :=
      (runSeries_slots e.slotEnv slots xs).symm
    have mergedEq : merged x c = clampBlock (c.mergeSums e x.tIn) := by simp only [merged, clamps, mergeEq]
    refine ⟨(c.runFrame e x.tIn).context, rfl, ?slots, ?lineX, ?lineY, ?clips, fun spill => ?peak⟩
    case slots =>
      rw [afterEq, afterEq, afterEq, afterEq, preEq, mergedEq]
      rfl
    case lineX =>
      rw [(Context.runFrame_lines frame x.tIn c).1, ← xEq]
    case lineY =>
      rw [(Context.runFrame_lines frame x.tIn c).2, ← yEq]
    case clips =>
      rw [counts, mergeEq]
      rfl
    case peak =>
      have rows (o : MainOut) : ((c.runFrame e x.tIn).rows.get o).map Int.natAbs =
          (row x c o).map (fun y => (clamp y).natAbs) := by
        rw [(c.runFrame_row e x.tIn o).1, ← clamps, List.map_map, rowEq]
        rfl
      refine (if_pos spill).trans ?_
      rw [ContextRun.rowPeak_eq]
      simp only [rows]

end Sys2Proof.Machine
end

section
/-! PROOFS. A sample and a frame through a slot, and the gate's decision (R13, R30, R35). -/
namespace Sys2Proof.Machine

/-! ## A sample through a slot (R13, R30) -/

/-- R30: a sample through a slot, from its wet result. -/
theorem Slot.sample_eq (env : SlotEnv) (slot : Slot) (k : Nat) (p : SlotProgress) (x : Int) :
    slot.sample env k p x =
      (let d := (p.line ++ [x]).headD 0
       let w := slot.wetResult env k p.memory x d
       let sum := level w.value (slot.wet.factor k) + level d (slot.dry.factor k)
       ({ line := (p.line ++ [x]).tail, memory := w.memory,
          clips := p.clips + (if slot.wet.code = 0 then 0 else w.clips) + clipOf sum }, clampSample sum)) := by
  rw [Slot.sample, delayStep_eq]

/-- R9: a ramp at rest holds one factor through the frame. -/
theorem Ramp.rest_factor (code k : Nat) : (Ramp.rest code).factor k = gainFactor code := by
  simp [Ramp.rest, Ramp.factor, sampleFactor]

theorem gainFactor_unity : gainFactor 192 = 1048576 := rfl

/-- R6: the oldest sample of a line, or the new one where the line is empty, is one of them. -/
theorem headD_append_mem (line : List Int) (x : Int) : (line ++ [x]).headD 0 ∈ x :: line := by
  cases line <;> simp

/-- R13, R30: a slot that is disabled and at rest passes its delayed input. -/
theorem Slot.sample_disabled {slot : Slot} (env : SlotEnv) (k : Nat) (p : SlotProgress) (x : Int)
    (wet : slot.wet = Ramp.rest 0) (dry : slot.dry = Ramp.rest 192)
    (range : ∀ y ∈ x :: p.line, -8388608 ≤ y ∧ y ≤ 8388607) :
    (slot.sample env k p x).2 = (p.line ++ [x]).headD 0 ∧ (slot.sample env k p x).1.clips = p.clips ∧
      (slot.sample env k p x).1.line = (p.line ++ [x]).tail := by
  obtain ⟨low, high⟩ := range _ (headD_append_mem p.line x)
  have noWet : slot.wet.factor k = 0 := by rw [wet, Ramp.rest_factor, gainFactor_zero]
  have allDry : slot.dry.factor k = 1048576 := by rw [dry, Ramp.rest_factor, gainFactor_unity]
  have off : slot.wet.code = 0 := by rw [wet, Ramp.rest]
  rw [Slot.sample_eq]
  generalize (p.line ++ [x]).headD 0 = d at low high ⊢
  simp [noWet, allDry, off, clampSample_of_range low high, clipOf_of_range low high]

/-- R6: a sum clips where the clamp changes it. -/
theorem clipOf_eq (v : Int) : clipOf v = if max (-8388608) (min 8388607 v) = v then 0 else 1 := by
  rw [clipOf, clampSample_eq]

/-- R133: the length of a division, from its place in the table. -/
theorem divisionLength_eq (period : Nat) (index : Int) :
    divisionLength period index =
      (let part : Nat × Nat :=
        ([(1, 4), (3, 4), (1, 2), (2, 3), (1, 1), (2, 1)] : List (Nat × Nat)).getD index.toNat (2, 1)
       period * part.1 / part.2) := by
  unfold divisionLength
  match index.toNat with
  | 0 | 1 | 2 | 3 | 4 | 5 => simp
  | _ + 6 => simp

theorem delayTime_eq (period : Nat) (mode time : Int) :
    delayTime period mode time =
      (let part : Nat × Nat :=
        ([(1, 4), (3, 4), (1, 2), (2, 3), (1, 1), (2, 1)] : List (Nat × Nat)).getD time.toNat (2, 1)
       if mode = 0 then 48 * time.toNat else min 96000 (period * part.1 / part.2)) := by
  rw [delayTime, divisionLength_eq, Nat.mul_comm]
  rfl

/-! ## The samples of a frame -/

/-- What a run of samples has reached before its sample k. -/
def progressAt {σ : Type} (f : Nat → σ → Int → σ × Int) (acc : σ) (block : List Int) (k : Nat) : σ :=
  (runSamples f 0 acc (block.take k)).1

theorem runSamples_append {σ : Type} (f : Nat → σ → Int → σ × Int) (n : Nat) (acc : σ) (xs ys : List Int) :
    runSamples f n acc (xs ++ ys) =
      (let a := runSamples f n acc xs
       let b := runSamples f (n + xs.length) a.1 ys
       (b.1, a.2 ++ b.2)) := by
  induction xs generalizing n acc with
  | nil => rfl
  | cons x rest ih =>
    simp only [List.cons_append, runSamples, ih, List.length_cons, Nat.add_assoc, Nat.add_comm 1]

/-- A run of samples goes on from what the samples before left. -/
theorem progressAt_succ {σ : Type} (f : Nat → σ → Int → σ × Int) (acc : σ) {block : List Int} {k : Nat} {x : Int}
    (here : block[k]? = some x) :
    progressAt f acc block (k + 1) = (f k (progressAt f acc block k) x).1 := by
  obtain ⟨inside, -⟩ := List.getElem?_eq_some_iff.mp here
  rw [progressAt, List.take_add_one, here, Option.toList_some, runSamples_append, List.length_take_of_le inside.le,
    Nat.zero_add]
  rfl

theorem runSamples_end {σ : Type} (f : Nat → σ → Int → σ × Int) (acc : σ) (block : List Int) :
    (runSamples f 0 acc block).1 = progressAt f acc block block.length := by
  rw [progressAt, List.take_length]

/-- The output of a sample is what its step gives from what the samples before left. -/
theorem runSamples_getElem? {σ : Type} (f : Nat → σ → Int → σ × Int) (acc : σ) (block : List Int) (k : Nat) :
    (runSamples f 0 acc block).2[k]? = block[k]?.map (fun x => (f k (progressAt f acc block k) x).2) := by
  cases here : block[k]? with
  | none =>
    exact List.getElem?_eq_none ((runSamples_length f 0 acc block).le.trans (List.getElem?_eq_none_iff.mp here))
  | some x =>
    obtain ⟨inside, found⟩ := List.getElem?_eq_some_iff.mp here
    have parts : block = block.take k ++ x :: block.drop (k + 1) := by
      rw [← found, List.getElem_cons_drop, List.take_append_drop]
    have before : (runSamples f 0 acc (block.take k)).2.length = k := by
      rw [runSamples_length, List.length_take_of_le inside.le]
    rw [congrArg (runSamples f 0 acc) parts, runSamples_append, List.length_take_of_le inside.le, Nat.zero_add,
      List.getElem?_append_right before.le, before, Nat.sub_self]
    rfl

/-! ## The gate's decision (R35) -/

theorem gateLoud_iff (threshold : Ramp) (block : List Int) :
    gateLoud threshold block = true ↔
      ∃ (k : Nat) (x : Int), block[k]? = some x ∧
        level 8388607 (threshold.prev + (gainFactor threshold.code - threshold.prev) * ((k : Int) + 1) / 32) ≤ |x| := by
  simp only [gateLoud, List.any_eq_true, decide_eq_true_eq, magnitude, Int.natCast_natAbs]
  constructor
  · rintro ⟨⟨x, k⟩, here, loud⟩
    exact ⟨k, x, List.mem_zipIdx_iff_getElem?.mp here, loud⟩
  · rintro ⟨k, x, here, loud⟩
    exact ⟨(x, k), List.mem_zipIdx_iff_getElem?.mpr here, loud⟩

theorem Slot.gateDecision_other {slot : Slot} (h : slot.kind ≠ .gate) (block : List Int) : slot.gateDecision block = slot := by
  unfold Slot.gateDecision
  cases kind : slot.kind with
  | gate => exact absurd kind h
  | _ => rfl

theorem Slot.gateDecision_loud {slot : Slot} {block : List Int} (h : slot.kind = .gate)
    (loud : (slot.ramp 0).code = 0 ∨ gateLoud (slot.ramp 0) block = true) :
    slot.gateDecision block =
      { slot with memory :=
        { slot.memory with gateOpen := true, gateQuiet := 0,
                           gate := if slot.memory.gateOpen then slot.memory.gate else slot.memory.gate.retarget 192 } } := by
  simp only [Slot.gateDecision, h, if_pos loud]

theorem Slot.gateDecision_quiet {slot : Slot} {block : List Int} (h : slot.kind = .gate)
    (quiet : ¬ ((slot.ramp 0).code = 0 ∨ gateLoud (slot.ramp 0) block = true)) :
    slot.gateDecision block =
      (if slot.memory.gateOpen = false then slot
       else if (3 * (slot.value 1).toNat + 1) / 2 ≤ slot.memory.gateQuiet + 1 then
         { slot with memory := { slot.memory with gateOpen := false, gateQuiet := slot.memory.gateQuiet + 1,
                                                  gate := slot.memory.gate.retarget 0 } }
       else { slot with memory := { slot.memory with gateQuiet := slot.memory.gateQuiet + 1 } }) := by
  simp only [Slot.gateDecision, h, if_neg quiet, msToFrames, Nat.mul_comm 3]
  by_cases closed : slot.memory.gateOpen = false
  · simp [closed]
  · simp [Bool.eq_true_of_not_eq_false closed]

end Sys2Proof.Machine
end

section
/-! PROOFS. A sample through a slot of each kind. -/
namespace Sys2Proof.Machine

/-- Settles O12: a sample through a slot is `Slot.sample_eq` with the wet result of its kind, a frame is the run of its samples
with what each has reached, and the gate opens on a sample that reaches the threshold. -/
theorem disabledSlotPassesItsDelayedInput : Obligations.DisabledSlotPassesItsDelayedInput := by
  unfold Obligations.DisabledSlotPassesItsDelayedInput
  refine ⟨fun env slot k p x => Slot.sample_disabled env k p x, ?sample, fun env slot block => ?frame,
    fun slot block => ⟨fun other => Slot.gateDecision_other other block, fun gate => ⟨fun loud => ?_, fun code heard => ?_⟩⟩⟩
  case sample =>
    intro env slot k p x y m d clamp clip factor g shape gives
    have clips : clipOf = clip := funext clipOf_eq
    have clamps : clampSample = clamp := funext clampSample_eq
    clear_value clip clamp
    subst clips clamps
    have given (w : Wet) (h : slot.wetResult env k m x d = w) : gives w.value w.clips w.memory := by
      subst h
      have sampled := Slot.sample_eq env slot k p x
      exact ⟨congrArg Prod.snd sampled, congrArg (·.1.line) sampled, congrArg (·.1.memory) sampled,
        congrArg (·.1.clips) sampled⟩
    cases kind : slot.kind with
    | amp => exact given (ampWet env slot k m d) (by rw [Slot.wetResult, kind])
    | drive => exact given (driveWet env slot k m x) (by rw [Slot.wetResult, kind])
    | gate => exact given (gateWet m k x) (by rw [Slot.wetResult, kind])
    | tone => exact given (toneWet slot k m x) (by rw [Slot.wetResult, kind])
    | modulation => exact given (modWet env slot m x) (by rw [Slot.wetResult, kind])
    | delay =>
      have wet := given (delayWet env slot k m x) (by rw [Slot.wetResult, kind])
      rw [delayWet, delayTime_eq] at wet
      exact wet
    | reverb => exact given (reverbWet slot k m x) (by rw [Slot.wetResult, kind])
    | loop => exact given (loopWet env slot k m) (by rw [Slot.wetResult, kind])
    | volume => exact given (volumeWet slot k m x) (by rw [Slot.wetResult, kind])
    | pitch => exact given _ rfl
  case frame =>
    refine ⟨progressAt (slot.sample env) { line := slot.line, memory := slot.memory, clips := 0 } block, rfl,
      fun k x here => progressAt_succ _ _ here, fun k => runSamples_getElem? (slot.sample env) _ block k, ?_⟩
    intro n played decided kept
    have last := runSamples_end (slot.sample env) { line := slot.line, memory := slot.memory, clips := 0 } block
    unfold Slot.runFrame
    simp only [last]
    rfl
  · exact Slot.gateDecision_loud gate (loud.imp_right (gateLoud_iff _ block).mpr)
  · exact Slot.gateDecision_quiet gate (not_or.mpr ⟨code, mt (gateLoud_iff _ block).mp heard⟩)

end Sys2Proof.Machine
end

section
/-! PROOFS. The open designs of the slots (R32, R33, R36, R38, R41). -/
namespace Sys2Proof.Machine

/-! ## The bands of a tone filter (R32) -/

/-- R32: the sum of a band's memory under a row of its coefficients. -/
def weighMemory (row : Nat → Rat) (m : List Rat) : Rat :=
  ((List.range Config.tone.size).map (fun j => row j * m.getD j 0)).sum

theorem bandStep_eq (band : Config.Band) (factor : Int) (m : List Rat) (x : Rat) :
    bandStep band factor m x =
      ((List.range Config.tone.size).map (fun i =>
         weighMemory (Config.tone.feedback band factor i) m + Config.tone.input band factor i * x),
       if factor = 1048576 then x
       else weighMemory (Config.tone.output band factor) m + Config.tone.direct band factor * x) := rfl

/-- The sum of two lists, each under a factor of its own. -/
def mixLists (c c' : Rat) (m m' : List Rat) : List Rat := List.zipWith (fun q q' => c * q + c' * q') m m'

theorem mixLists_getD (c c' : Rat) {m m' : List Rat} (h : m.length = m'.length) (j : Nat) :
    (mixLists c c' m m').getD j 0 = c * m.getD j 0 + c' * m'.getD j 0 := by
  simp only [mixLists, List.getD_eq_getElem?_getD, List.getElem?_zipWith]
  by_cases inside : j < m.length
  · simp [List.getElem?_eq_getElem inside, List.getElem?_eq_getElem (h ▸ inside)]
  · simp [List.getElem?_eq_none (Nat.le_of_not_lt inside), List.getElem?_eq_none (h ▸ Nat.le_of_not_lt inside)]

theorem mixLists_map (c c' : Rat) (f g : Nat → Rat) (js : List Nat) :
    mixLists c c' (js.map f) (js.map g) = js.map (fun j => c * f j + c' * g j) := by
  rw [mixLists, List.zipWith_map, List.zipWith_self]

/-- R32: the sum of a memory is linear in it. -/
theorem weighMemory_mix (row : Nat → Rat) (c c' : Rat) {m m' : List Rat} (h : m.length = m'.length) :
    weighMemory row (mixLists c c' m m') = c * weighMemory row m + c' * weighMemory row m' := by
  simp only [weighMemory, mixLists_getD c c' h, ← List.sum_map_mul_left, ← List.sum_map_add]
  congr 2
  funext j
  ring

/-- R32: a band is a linear filter. -/
theorem bandStep_linear (band : Config.Band) (factor : Int) (c c' x x' : Rat) {m m' : List Rat}
    (h : m.length = m'.length) :
    (bandStep band factor (mixLists c c' m m') (c * x + c' * x')).2 =
        c * (bandStep band factor m x).2 + c' * (bandStep band factor m' x').2 ∧
      (bandStep band factor (mixLists c c' m m') (c * x + c' * x')).1 =
        mixLists c c' (bandStep band factor m x).1 (bandStep band factor m' x').1 := by
  simp only [bandStep_eq, weighMemory_mix _ c c' h, mixLists_map]
  constructor
  · split_ifs
    · rfl
    · ring
  · congr 1
    funext i
    ring

/-- R32: at unity a band is flat. -/
theorem bandStep_flat (band : Config.Band) (m : List Rat) (x : Rat) : (bandStep band 1048576 m x).2 = x := by
  rw [bandStep_eq, if_pos rfl]

/-- R32: a tone filter's output is its bands' output to the next integers, and with flat bands its input. -/
theorem toneStep_output (amp : Bool) (low mid high : Int) (m : ToneMemory) (x : Int) :
    let l := bandStep (toneBands amp).1 low m.low x
    let p := bandStep (toneBands amp).2.1 mid m.mid l.2
    let h := bandStep (toneBands amp).2.2 high m.high p.2
    |((toneStep amp low mid high m x).2 : Rat) - h.2| < 1 ∧
      (low = 1048576 → mid = 1048576 → high = 1048576 → (toneStep amp low mid high m x).2 = x) := by
  intro l p h
  have output : (toneStep amp low mid high m x).2 =
      if low = 1048576 ∧ mid = 1048576 ∧ high = 1048576 then x else Config.toneRounding.round h.2 := rfl
  rw [output]
  by_cases flat : low = 1048576 ∧ mid = 1048576 ∧ high = 1048576
  · have through : h.2 = (x : Rat) := by
      obtain ⟨rfl, rfl, rfl⟩ := flat
      simp only [h, p, l, bandStep_flat]
    rw [if_pos flat, through]
    simp
  · rw [if_neg flat]
    exact ⟨Config.toneRounding.near h.2, fun hl hp hh => absurd ⟨hl, hp, hh⟩ flat⟩

/-! ## The cabinets (R33) -/

/-- R33: the rows of the cabinet table: type, lower corner, upper corner of variant 0. -/
def cabinetRows : List (Config.CabinetType × Nat × Nat) :=
  [(.open112, 95, 5600), (.closed112, 80, 5200), (.open212, 85, 5400), (.closed212, 75, 5000),
    (.straight412, 70, 4800), (.slanted412, 70, 5200), (.four10, 90, 6000), (.one15, 60, 3800)]

theorem cabinetResponse_row {index : Nat} {row : Config.CabinetType × Nat × Nat}
    (here : cabinetRows[index / 4]? = some row) :
    cabinetResponse index = { type := row.1, lower := row.2.1, upper := row.2.2 - 400 * (index % 4) } := by
  unfold cabinetResponse cabinetType
  obtain ⟨inside, found⟩ := List.getElem?_eq_some_iff.mp here
  subst found
  have below : index / 4 < 8 := inside
  generalize index / 4 = k at inside below
  interval_cases k <;> rfl

/-- R33: a response of the table runs through its design. -/
theorem cabinetStep_row {index : Nat} {row : Config.CabinetType × Nat × Nat} (memory : Nat) (x : Int)
    (here : cabinetRows[index / 4]? = some row) :
    cabinetStep index memory x =
      Config.cabinet { type := row.1, lower := row.2.1, upper := row.2.2 - 400 * (index % 4) } memory x := by
  have below : index / 4 < 8 := (List.getElem?_eq_some_iff.mp here).1
  rw [cabinetStep, if_neg (by omega), Int.toNat_natCast, cabinetResponse_row here]

/-! ## Modulations (R36) -/

theorem phaseStep_eq (period : Nat) (phase : Rat) :
    phaseStep period phase =
      phase + 1 / (period : Rat) - (if phase + 1 / (period : Rat) < 1 then 0 else 1) := by
  unfold phaseStep
  by_cases h : phase + 1 / (period : Rat) < 1
  · rw [if_pos h, sub_zero]
    exact if_neg (not_le.mpr h)
  · rw [if_neg h]
    exact if_pos (not_lt.mp h)

/-- R36: after some samples the phase has moved on by as many parts of the period, but for whole periods. -/
theorem iterate_phaseStep {period : Nat} (h : 1 ≤ period) (n : Nat) {phase : Rat} (low : 0 ≤ phase) (high : phase < 1) :
    0 ≤ Config.iterate (phaseStep period) n phase ∧ Config.iterate (phaseStep period) n phase < 1 ∧
      ∃ z : Int, Config.iterate (phaseStep period) n phase = phase + n / (period : Rat) - z := by
  induction n generalizing phase with
  | zero => exact ⟨low, high, 0, by simp [Config.iterate]⟩
  | succ n ih =>
    obtain ⟨low', high', z, moved⟩ := phaseStep_spec h low high
    obtain ⟨low'', high'', z', moved'⟩ := ih low' high'
    exact ⟨low'', high'', z + z', by rw [Config.iterate, moved', moved]; push_cast; ring⟩

/-- R36: the phase comes round after a period. -/
theorem iterate_phaseStep_period {period : Nat} (h : 1 ≤ period) {phase : Rat} (low : 0 ≤ phase) (high : phase < 1) :
    Config.iterate (phaseStep period) period phase = phase := by
  obtain ⟨low', high', z, moved⟩ := iterate_phaseStep h period low high
  rw [div_self (by positivity)] at moved
  have least : (0 : Rat) < z := by linarith
  have most : (z : Rat) < 2 := by linarith
  have one : z = 1 := by
    have : 0 < z := by exact_mod_cast least
    have : z < 2 := by exact_mod_cast most
    omega
  rw [moved, one]
  push_cast
  ring

/-- R36: where a MOD slot's modulation stands. -/
def modSweep (slot : Slot) (phase : Rat) : Int :=
  Config.modulator.sweep (slot.value 0).toNat (slot.value 3).toNat phase

theorem modWet_dry {slot : Slot} (env : SlotEnv) (m : SlotMemory) (x : Int) (depth : slot.value 3 = 0) :
    (modWet env slot m x).value = clampSample x ∧ (modWet env slot m x).clips = clipOf x := by
  simp [modWet, depth]

/-- R36: a tremolo at some depth is a gain of unity less the sweep. -/
theorem modWet_tremolo {slot : Slot} (env : SlotEnv) (m : SlotMemory) (x : Int) (type : slot.value 0 = 2) :
    (modWet env slot m x).value =
      clampSample (if (slot.value 3).toNat = 0 then x else level x (1048576 - modSweep slot m.modPhase)) := by
  simp [modWet, modSweep, type]

/-- R6: a clamp takes no value further from 0. -/
theorem clampSample_shrinks {v x : Int} (grow : (0 ≤ x → 0 ≤ v ∧ v ≤ x) ∧ (x ≤ 0 → x ≤ v ∧ v ≤ 0)) :
    (0 ≤ x → 0 ≤ clampSample v ∧ clampSample v ≤ x) ∧ (x ≤ 0 → x ≤ clampSample v ∧ clampSample v ≤ 0) := by
  rw [clampSample_eq]
  omega

/-- R36: a tremolo's gain stays between silence and unity. -/
theorem modWet_tremolo_between {slot : Slot} (env : SlotEnv) (m : SlotMemory) (x : Int) (type : slot.value 0 = 2) :
    (0 ≤ x → 0 ≤ (modWet env slot m x).value ∧ (modWet env slot m x).value ≤ x) ∧
      (x ≤ 0 → x ≤ (modWet env slot m x).value ∧ (modWet env slot m x).value ≤ 0) := by
  rw [modWet_tremolo env m x type]
  refine clampSample_shrinks ?_
  obtain ⟨least, most⟩ := Config.modulator.bounded (slot.value 0).toNat (slot.value 3).toNat m.modPhase
  split
  · exact ⟨fun h => ⟨h, le_rfl⟩, fun h => ⟨le_rfl, h⟩⟩
  · exact level_between x (by unfold modSweep; omega) (by unfold modSweep; omega)

/-- R36: a tremolo at depth 100 reaches unity and silence. -/
theorem modWet_tremolo_full {slot : Slot} (env : SlotEnv) (m : SlotMemory) (type : slot.value 0 = 2)
    (depth : slot.value 3 = 100) :
    (∃ q : Rat, 0 ≤ q ∧ q < 1 ∧ ∀ x, (modWet env slot { m with modPhase := q } x).value = clampSample x) ∧
      ∃ q : Rat, 0 ≤ q ∧ q < 1 ∧ ∀ x, (modWet env slot { m with modPhase := q } x).value = 0 := by
  have deep : ¬ (slot.value 3).toNat = 0 := by omega
  have hundred : (slot.value 3).toNat = 100 := by omega
  obtain ⟨⟨q, low, high, unity⟩, r, low', high', silent⟩ := Config.modulator.full (slot.value 0).toNat
  refine ⟨⟨q, low, high, fun x => ?_⟩, r, low', high', fun x => ?_⟩
  · rw [modWet_tremolo env _ x type, if_neg deep, modSweep, hundred, unity]
    exact congrArg clampSample (level_unity x)
  · rw [modWet_tremolo env _ x type, if_neg deep, modSweep, hundred, silent]
    exact congrArg clampSample (level_zero_factor x)

/-! ## The reverb (R38) -/

/-- R38: the level of the reverb is the largest magnitude of its tail, which the decay time brings to a thousandth. -/
theorem reverb_peaks (decay memory : Nat) :
    (∀ n, (Config.silentTail Config.reverb.step decay memory n).natAbs ≤ Config.reverb.level decay memory) ∧
      ∃ n, (Config.silentTail Config.reverb.step decay memory n).natAbs = Config.reverb.level decay memory :=
  ⟨Config.reverb.bounds decay memory, Config.reverb.reached decay memory⟩

/-- Settles O22: what a rule states of an open design stands in the type of its free value, and the steps of the slots use the
designs as the rules say. -/
theorem designsKeepWhatTheirRulesState : Obligations.DesignsKeepWhatTheirRulesState := by
  unfold Obligations.DesignsKeepWhatTheirRulesState
  refine ⟨fun b f m m' x x' c c' long long' => ?_, fun _ f pos b _ => Config.tone.gain b f pos, toneStep_output,
    fun _ memory x => ⟨rfl, fun _ here => cabinetStep_row memory x here⟩,
    fun env slot m x => ⟨modWet_dry env m x, fun some low high =>
        ⟨phaseStep_eq _ m.modPhase, iterate_phaseStep_period some low high⟩,
      modWet_tremolo_between env m x, modWet_tremolo_full env m⟩,
    fun slot k m x => ⟨rfl, rfl, reverb_cleared_silent _, fun least memory => ?reverb⟩,
    fun env slot k m x d pitch => ?pitch,
    fun interval memory d => ⟨Config.shifter.newest interval memory d, Config.shifter.older interval memory d⟩,
    Config.shifter.cleared, Config.shifter.copies⟩
  · obtain ⟨out, memory⟩ := bandStep_linear b f c c' x x' (long.trans long'.symm)
    exact ⟨out, memory, bandStep_flat b m x⟩
  case reverb =>
    refine ⟨Config.reverb.level (slot.value 0).toNat memory, reverb_peaks _ memory, ?_⟩
    rw [← Config.reverb.falls _ memory least]
    exact reverb_peaks _ _
  case pitch =>
    have wet : slot.wetResult env k m x d = pitchWet slot k m d := by rw [Slot.wetResult, pitch]
    intro y copy w
    exact ⟨congrArg Wet.memory wet, congrArg Wet.value wet, congrArg Wet.clips wet⟩

end Sys2Proof.Machine
end
